-- ==== Sys2Proof/Word.lean ====
section
/-! DEFINITION. Word.lean: the word types of the CZ-1024 (R5) and the two plain-data containers the state is made of. -/

namespace Sys2Proof

/-- A byte (R5). -/
abbrev Byte := BitVec 8
/-- A 32-bit word (R5): every instruction, every lane of a vector register. -/
abbrev W32 := BitVec 32
/-- A doubleword (R5): scalar registers, virtual addresses, most memory-mapped registers. -/
abbrev W64 := BitVec 64
/-- One bit for each lane of a group (R15). -/
abbrev Lanes := BitVec 32

/-- Sparse storage: cells in strictly rising key order, no cell equal to zero; an unlisted key reads zero. -/
abbrev Sparse (w : Nat) := List (Nat × BitVec w)

/-- A finite table by key, in strictly rising key order. -/
abbrev KV (α : Type) := List (Nat × α)

end Sys2Proof
end

