-- ==== Sys2Proof/Syntax.lean ====
section
/-! DEFINITION. Syntax.lean: the one instruction type, a constructor for each row of the opcode table. A word's operands
are its encoding's fields, in the table's order and width. A packet's header and body stand in the lane's turn
(Cur.lane), what the world supplies with an event in the event's turn (Cur.event). -/

namespace Sys2Proof

/-- How a store reaches a memory-mapped register: only an aligned 64-bit access is taken (R50, R53, R210). -/
inductive AccSize where
  | aligned64
  | other
deriving DecidableEq, Repr, Inhabited

/-- A packet as a lane holds it whole (R324): bits [55:48] of its header, bits [47:0], and the doublewords after it. -/
structure Packet where
  len : BitVec 8 := 1
  hdr : BitVec 48 := 0
  body : List W64 := []
deriving DecidableEq, Repr, Inhabited

/-- What the world, or the device's own choice, supplies with an event: up to three numbers (which core, queue, entry,
address), a stored value and how it was stored, bytes, and a yes or no. Each event's meaning says which it reads. -/
structure EvArg where
  a : Nat := 0
  b : Nat := 0
  c : Nat := 0
  val : W64 := 0
  size : AccSize := .aligned64
  flag : Bool := false
  bytes : List Byte := []
  more : List Byte := []
deriving DecidableEq, Repr, Inhabited

/-- Every step of the part: one constructor for each row of the opcode table. -/
inductive Instr where
  -- G-words
  /-- ADD (R112). -/
  | gAdd (d : BitVec 6) (a : BitVec 6) (b : BitVec 6)
  /-- SUB (R112). -/
  | gSub (d : BitVec 6) (a : BitVec 6) (b : BitVec 6)
  /-- AND (R112). -/
  | gAnd (d : BitVec 6) (a : BitVec 6) (b : BitVec 6)
  /-- OR (R112). -/
  | gOr (d : BitVec 6) (a : BitVec 6) (b : BitVec 6)
  /-- XOR (R112). -/
  | gXor (d : BitVec 6) (a : BitVec 6) (b : BitVec 6)
  /-- ANDN (R112). -/
  | gAndn (d : BitVec 6) (a : BitVec 6) (b : BitVec 6)
  /-- SLL (R112). -/
  | gSll (d : BitVec 6) (a : BitVec 6) (b : BitVec 6)
  /-- SRL (R112). -/
  | gSrl (d : BitVec 6) (a : BitVec 6) (b : BitVec 6)
  /-- SRA (R112). -/
  | gSra (d : BitVec 6) (a : BitVec 6) (b : BitVec 6)
  /-- ROL (R112). -/
  | gRol (d : BitVec 6) (a : BitVec 6) (b : BitVec 6)
  /-- SLT (R112). -/
  | gSlt (d : BitVec 6) (a : BitVec 6) (b : BitVec 6)
  /-- SLTU (R112). -/
  | gSltu (d : BitVec 6) (a : BitVec 6) (b : BitVec 6)
  /-- MIN (R112). -/
  | gMin (d : BitVec 6) (a : BitVec 6) (b : BitVec 6)
  /-- MAX (R112). -/
  | gMax (d : BitVec 6) (a : BitVec 6) (b : BitVec 6)
  /-- MINU (R112). -/
  | gMinu (d : BitVec 6) (a : BitVec 6) (b : BitVec 6)
  /-- MAXU (R112). -/
  | gMaxu (d : BitVec 6) (a : BitVec 6) (b : BitVec 6)
  /-- SEXT (R112). -/
  | gSext (d : BitVec 6) (a : BitVec 6) (w : BitVec 6)
  /-- ZEXT (R112). -/
  | gZext (d : BitVec 6) (a : BitVec 6) (w : BitVec 6)
  /-- MOVC (R112). -/
  | gMovc (d : BitVec 6) (a : BitVec 6) (n : BitVec 3)
  /-- MUL (R113). -/
  | gMul (d : BitVec 6) (a : BitVec 6) (b : BitVec 6)
  /-- MULH (R113). -/
  | gMulh (d : BitVec 6) (a : BitVec 6) (b : BitVec 6)
  /-- MULHU (R113). -/
  | gMulhu (d : BitVec 6) (a : BitVec 6) (b : BitVec 6)
  /-- DIV (R103). -/
  | gDiv (d : BitVec 6) (a : BitVec 6) (b : BitVec 6)
  /-- DIVU (R103). -/
  | gDivu (d : BitVec 6) (a : BitVec 6) (b : BitVec 6)
  /-- REM (R103). -/
  | gRem (d : BitVec 6) (a : BitVec 6) (b : BitVec 6)
  /-- REMU (R103). -/
  | gRemu (d : BitVec 6) (a : BitVec 6) (b : BitVec 6)
  /-- CLZ (R113). -/
  | gClz (d : BitVec 6) (a : BitVec 6)
  /-- CTZ (R113). -/
  | gCtz (d : BitVec 6) (a : BitVec 6)
  /-- POPC (R113). -/
  | gPopc (d : BitVec 6) (a : BitVec 6)
  /-- BREV (R113). -/
  | gBrev (d : BitVec 6) (a : BitVec 6)
  /-- BFX (R114). -/
  | gBfx (d : BitVec 6) (a : BitVec 6) (b : BitVec 6)
  /-- BFI (R114). -/
  | gBfi (d : BitVec 6) (a : BitVec 6) (b : BitVec 6)
  /-- CWSET (R115). -/
  | gCwset (d : BitVec 6) (a : BitVec 6) (s : BitVec 4)
  /-- ADDI (R116). -/
  | gAddi (d : BitVec 6) (a : BitVec 6) (i : BitVec 14)
  /-- ANDI (R116). -/
  | gAndi (d : BitVec 6) (a : BitVec 6) (i : BitVec 14)
  /-- ORI (R116). -/
  | gOri (d : BitVec 6) (a : BitVec 6) (i : BitVec 14)
  /-- XORI (R116). -/
  | gXori (d : BitVec 6) (a : BitVec 6) (i : BitVec 14)
  /-- SHI (R116). -/
  | gShi (d : BitVec 6) (a : BitVec 6) (o : BitVec 2) (s : BitVec 6)
  /-- SLTI (R116). -/
  | gSlti (d : BitVec 6) (a : BitVec 6) (i : BitVec 14)
  /-- SLTIU (R116). -/
  | gSltiu (d : BitVec 6) (a : BitVec 6) (i : BitVec 14)
  /-- MULI (R116). -/
  | gMuli (d : BitVec 6) (a : BitVec 6) (i : BitVec 14)
  /-- LUI (R117). -/
  | gLui (d : BitVec 6) (i : BitVec 20)
  /-- AUIPC (R117). -/
  | gAuipc (d : BitVec 6) (i : BitVec 20)
  /-- CMP (R118). -/
  | gCmp (n : BitVec 3) (a : BitVec 6) (b : BitVec 6) (c : BitVec 8)
  /-- CMPI (R118). -/
  | gCmpi (c : BitVec 3) (n : BitVec 3) (a : BitVec 6) (i : BitVec 14)
  /-- CBOP (R119). -/
  | gCbop (d : BitVec 3) (a : BitVec 3) (b : BitVec 3) (o : BitVec 8)
  /-- BC (R120). -/
  | gBc (c : BitVec 3) (s : BitVec 1) (o : BitVec 22)
  /-- BA (R120). -/
  | gBa (o : BitVec 26)
  /-- BL (R120). -/
  | gBl (o : BitVec 26)
  /-- BRR (R121). -/
  | gBrr (a : BitVec 6)
  /-- BRLR (R121). -/
  | gBrlr (a : BitVec 6)
  /-- LD_G (R252). -/
  | gLd (d : BitVec 6) (a : BitVec 6) (r : BitVec 2) (z : BitVec 2) (o : BitVec 10)
  /-- LDS_G (R252). -/
  | gLds (d : BitVec 6) (a : BitVec 6) (r : BitVec 2) (z : BitVec 2) (o : BitVec 10)
  /-- ST_G (R252). -/
  | gSt (d : BitVec 6) (a : BitVec 6) (r : BitVec 2) (z : BitVec 2) (o : BitVec 10)
  /-- AMO_G (R257). -/
  | gAmo (d : BitVec 6) (a : BitVec 6) (b : BitVec 6) (p : BitVec 4) (o : BitVec 2) (s : BitVec 1)
  /-- LDP_G (R254). -/
  | gLdp (d : BitVec 6) (a : BitVec 6) (n : BitVec 3) (r : BitVec 2)
  /-- LDSUM (R255). -/
  | gLdsum (d : BitVec 6) (a : BitVec 6) (t : BitVec 6) (r : BitVec 2)
  /-- LDF (R253). -/
  | gLdf (d : BitVec 6) (a : BitVec 6) (m : BitVec 2)
  /-- STE (R253). -/
  | gSte (d : BitVec 6) (a : BitVec 6) (m : BitVec 2)
  /-- FENCE_G (R269). -/
  | gFence (e : BitVec 3) (a : BitVec 6) (r : BitVec 2)
  /-- MONITOR (R270). -/
  | gMonitor (a : BitVec 6)
  /-- MWAITA (R270). -/
  | gMwaita (d : BitVec 6) (a : BitVec 6)
  /-- COPY (R275). -/
  | gCopy (d : BitVec 6) (a : BitVec 6) (b : BitVec 6)
  /-- COPYS (R276). -/
  | gCopys (d : BitVec 6) (a : BitVec 6) (b : BitVec 6)
  /-- COPYZ (R278). -/
  | gCopyz (d : BitVec 6) (a : BitVec 6) (b : BitVec 6)
  /-- EMIT (R341). -/
  | gEmit (g : BitVec 4) (a : BitVec 6) (n : BitVec 3) (z : BitVec 1) (r : BitVec 1)
  /-- EMITK (R341). -/
  | gEmitk (g : BitVec 4) (a : BitVec 6) (k : BitVec 1) (n : BitVec 3) (z : BitVec 1) (r : BitVec 1)
  /-- EMITM (R341). -/
  | gEmitm (a : BitVec 6) (n : BitVec 3) (z : BitVec 1) (r : BitVec 1)
  /-- EMITB (R344). -/
  | gEmitb (n : BitVec 3) (a : BitVec 6) (b : BitVec 6) (z : BitVec 1) (r : BitVec 1)
  /-- POP (R347). -/
  | gPop (d : BitVec 6) (g : BitVec 4) (n : BitVec 3) (z : BitVec 1)
  /-- QSTAT (R348). -/
  | gQstat (d : BitVec 6) (g : BitVec 5)
  /-- GARM (R349). -/
  | gGarm (g : BitVec 4)
  /-- YIELD (R350). -/
  | gYield
  /-- REGION_G (R183). -/
  | gRegion
  /-- EMITL (R345). -/
  | gEmitl (g : BitVec 4) (n : BitVec 1) (c : BitVec 4) (o : BitVec 17)
  /-- MDSET (R282). -/
  | gMdset (n : BitVec 4) (a : BitVec 6) (b : BitVec 6)
  /-- MWAIT (R298). -/
  | gMwait (d : BitVec 6) (a : BitVec 6)
  /-- GSETB (R122). -/
  | gGsetb (g : BitVec 4) (a : BitVec 6) (n : BitVec 3)
  /-- BARINIT (R395). -/
  | gBarinit (b : BitVec 5) (a : BitVec 6)
  /-- BARARV_G (R390). -/
  | gBararv (b : BitVec 5)
  /-- BARDROP_G (R390). -/
  | gBardrop (b : BitVec 5)
  /-- BARWAIT_G (R392). -/
  | gBarwait (b : BitVec 5) (a : BitVec 6)
  /-- BARAW_G (R394). -/
  | gBaraw (b : BitVec 5)
  /-- GBARINIT (R397). -/
  | gGbarinit (g : BitVec 3)
  /-- GBARARV (R398). -/
  | gGbararv (g : BitVec 3)
  /-- GBARDROP (R398). -/
  | gGbardrop (g : BitVec 3)
  /-- GBARWAIT (R397). -/
  | gGbarwait (g : BitVec 3) (a : BitVec 6)
  /-- CSRR (R123). -/
  | gCsrr (d : BitVec 6) (n : BitVec 12)
  /-- CSRW (R124). -/
  | gCsrw (d : BitVec 6) (n : BitVec 12)
  /-- CSRS (R124). -/
  | gCsrs (d : BitVec 6) (n : BitVec 12)
  /-- CSRC (R124). -/
  | gCsrc (d : BitVec 6) (n : BitVec 12)
  /-- TRAP (R126). -/
  | gTrap (a : BitVec 6) (b : BitVec 6)
  /-- RTE (R127). -/
  | gRte
  /-- EXIT (R129). -/
  | gExit
  /-- ECALL (R128). -/
  | gEcall (d : BitVec 6) (a : BitVec 6) (b : BitVec 6)
  /-- GTIME (R130). -/
  | gGtime (d : BitVec 6)
  /-- TLBI (R368). -/
  | gTlbi (d : BitVec 6) (a : BitVec 6) (b : BitVec 6)
  /-- SENDM (R358). -/
  | gSendm (a : BitVec 6) (z : BitVec 1) (n : BitVec 3)
  /-- RECVM (R358). -/
  | gRecvm (d : BitVec 6) (a : BitVec 6) (z : BitVec 1) (n : BitVec 3)
  /-- WFI (R131). -/
  | gWfi (d : BitVec 6) (a : BitVec 6)
  /-- SWAPT (R386). -/
  | gSwapt (d : BitVec 6) (a : BitVec 6)
  /-- LSET (R355). -/
  | gLset (a : BitVec 6) (f : BitVec 6)
  /-- LGET (R355). -/
  | gLget (d : BitVec 6) (f : BitVec 6)
  /-- LCANCEL (R356). -/
  | gLcancel
  /-- LREPEAT (R356). -/
  | gLrepeat (a : BitVec 6)
  /-- LGO (R356). -/
  | gLgo
  -- C-words
  /-- CLAUSE_HEADER (R65). -/
  | cClauseHeader (w : BitVec 12) (a : BitVec 4) (b : BitVec 4) (l : BitVec 4)
  /-- FMA (R137). -/
  | cFma (d : BitVec 7) (a : BitVec 7) (b : BitVec 7) (c : BitVec 7)
  /-- FMS (R137). -/
  | cFms (d : BitVec 7) (a : BitVec 7) (b : BitVec 7) (c : BitVec 7)
  /-- FNMA (R137). -/
  | cFnma (d : BitVec 7) (a : BitVec 7) (b : BitVec 7) (c : BitVec 7)
  /-- IMAD (R137). -/
  | cImad (d : BitVec 7) (a : BitVec 7) (b : BitVec 7) (c : BitVec 7)
  /-- IMADH (R137). -/
  | cImadh (d : BitVec 7) (a : BitVec 7) (b : BitVec 7) (c : BitVec 7)
  /-- SELV (R137). -/
  | cSelv (d : BitVec 7) (a : BitVec 7) (b : BitVec 7) (p : BitVec 3)
  /-- DP4A (R137). -/
  | cDp4a (d : BitVec 7) (a : BitVec 7) (b : BitVec 7) (c : BitVec 7)
  /-- SHF (R137). -/
  | cShf (d : BitVec 7) (a : BitVec 7) (b : BitVec 7) (c : BitVec 7)
  /-- FADD (R138). -/
  | cFadd (d : BitVec 7) (a : BitVec 7) (b : BitVec 7)
  /-- FSUB (R138). -/
  | cFsub (d : BitVec 7) (a : BitVec 7) (b : BitVec 7)
  /-- FMUL (R138). -/
  | cFmul (d : BitVec 7) (a : BitVec 7) (b : BitVec 7)
  /-- FMIN (R138). -/
  | cFmin (d : BitVec 7) (a : BitVec 7) (b : BitVec 7)
  /-- FMAX (R138). -/
  | cFmax (d : BitVec 7) (a : BitVec 7) (b : BitVec 7)
  /-- FABS (R138). -/
  | cFabs (d : BitVec 7) (a : BitVec 7)
  /-- FNEG (R138). -/
  | cFneg (d : BitVec 7) (a : BitVec 7)
  /-- FRCP (R99). -/
  | cFrcp (d : BitVec 7) (a : BitVec 7)
  /-- FRSQ (R99). -/
  | cFrsq (d : BitVec 7) (a : BitVec 7)
  /-- FSQRT (R138). -/
  | cFsqrt (d : BitVec 7) (a : BitVec 7)
  /-- FEX2 (R99). -/
  | cFex2 (d : BitVec 7) (a : BitVec 7)
  /-- FLG2 (R99). -/
  | cFlg2 (d : BitVec 7) (a : BitVec 7)
  /-- FCMP_EQ (R139). -/
  | cFcmpEq (p : BitVec 3) (a : BitVec 7) (b : BitVec 7)
  /-- FCMP_NE (R139). -/
  | cFcmpNe (p : BitVec 3) (a : BitVec 7) (b : BitVec 7)
  /-- FCMP_LT (R139). -/
  | cFcmpLt (p : BitVec 3) (a : BitVec 7) (b : BitVec 7)
  /-- FCMP_LE (R139). -/
  | cFcmpLe (p : BitVec 3) (a : BitVec 7) (b : BitVec 7)
  /-- FCMP_GT (R139). -/
  | cFcmpGt (p : BitVec 3) (a : BitVec 7) (b : BitVec 7)
  /-- FCMP_GE (R139). -/
  | cFcmpGe (p : BitVec 3) (a : BitVec 7) (b : BitVec 7)
  /-- FCMP_UN (R139). -/
  | cFcmpUn (p : BitVec 3) (a : BitVec 7) (b : BitVec 7)
  /-- FCLASS (R140). -/
  | cFclass (d : BitVec 7) (a : BitVec 7)
  /-- IADD (R141). -/
  | cIadd (d : BitVec 7) (a : BitVec 7) (b : BitVec 7)
  /-- ISUB (R141). -/
  | cIsub (d : BitVec 7) (a : BitVec 7) (b : BitVec 7)
  /-- IMUL (R141). -/
  | cImul (d : BitVec 7) (a : BitVec 7) (b : BitVec 7)
  /-- IMIN (R141). -/
  | cImin (d : BitVec 7) (a : BitVec 7) (b : BitVec 7)
  /-- IMAX (R141). -/
  | cImax (d : BitVec 7) (a : BitVec 7) (b : BitVec 7)
  /-- IAND (R141). -/
  | cIand (d : BitVec 7) (a : BitVec 7) (b : BitVec 7)
  /-- IOR (R141). -/
  | cIor (d : BitVec 7) (a : BitVec 7) (b : BitVec 7)
  /-- IXOR (R141). -/
  | cIxor (d : BitVec 7) (a : BitVec 7) (b : BitVec 7)
  /-- IANDN (R141). -/
  | cIandn (d : BitVec 7) (a : BitVec 7) (b : BitVec 7)
  /-- ISHL (R141). -/
  | cIshl (d : BitVec 7) (a : BitVec 7) (b : BitVec 7)
  /-- ISHR (R141). -/
  | cIshr (d : BitVec 7) (a : BitVec 7) (b : BitVec 7)
  /-- ISRA (R141). -/
  | cIsra (d : BitVec 7) (a : BitVec 7) (b : BitVec 7)
  /-- IABS (R141). -/
  | cIabs (d : BitVec 7) (a : BitVec 7)
  /-- INEG (R141). -/
  | cIneg (d : BitVec 7) (a : BitVec 7)
  /-- IPOPC (R141). -/
  | cIpopc (d : BitVec 7) (a : BitVec 7)
  /-- ICLZ (R141). -/
  | cIclz (d : BitVec 7) (a : BitVec 7)
  /-- IBREV (R141). -/
  | cIbrev (d : BitVec 7) (a : BitVec 7)
  /-- ICMP_EQ (R142). -/
  | cIcmpEq (p : BitVec 3) (a : BitVec 7) (b : BitVec 7)
  /-- ICMP_NE (R142). -/
  | cIcmpNe (p : BitVec 3) (a : BitVec 7) (b : BitVec 7)
  /-- ICMP_LT (R142). -/
  | cIcmpLt (p : BitVec 3) (a : BitVec 7) (b : BitVec 7)
  /-- ICMP_LE (R142). -/
  | cIcmpLe (p : BitVec 3) (a : BitVec 7) (b : BitVec 7)
  /-- ICMP_GT (R142). -/
  | cIcmpGt (p : BitVec 3) (a : BitVec 7) (b : BitVec 7)
  /-- ICMP_GE (R142). -/
  | cIcmpGe (p : BitVec 3) (a : BitVec 7) (b : BitVec 7)
  /-- IBFX (R143). -/
  | cIbfx (d : BitVec 7) (a : BitVec 7) (b : BitVec 7)
  /-- MOV (R144). -/
  | cMov (d : BitVec 7) (a : BitVec 7)
  /-- CVT (R145). -/
  | cCvt (d : BitVec 7) (a : BitVec 7) (t : BitVec 7)
  /-- PACK (R144). -/
  | cPack (d : BitVec 7) (a : BitVec 7) (b : BitVec 7)
  /-- UNPKL (R144). -/
  | cUnpkl (d : BitVec 7) (a : BitVec 7)
  /-- UNPKH (R144). -/
  | cUnpkh (d : BitVec 7) (a : BitVec 7)
  /-- LANEID (R146). -/
  | cLaneid (d : BitVec 7)
  /-- SHFL (R146). -/
  | cShfl (d : BitVec 7) (a : BitVec 7) (b : BitVec 7)
  /-- SHFLUP (R146). -/
  | cShflup (d : BitVec 7) (a : BitVec 7) (b : BitVec 7)
  /-- SHFLDN (R146). -/
  | cShfldn (d : BitVec 7) (a : BitVec 7) (b : BitVec 7)
  /-- SHFLX (R146). -/
  | cShflx (d : BitVec 7) (a : BitVec 7) (b : BitVec 7)
  /-- BCAST (R146). -/
  | cBcast (d : BitVec 7) (a : BitVec 7)
  /-- BALLOT (R147). -/
  | cBallot (p : BitVec 3) (a : BitVec 7)
  /-- REDADD (R148). -/
  | cRedadd (d : BitVec 7) (a : BitVec 7)
  /-- REDMAX (R148). -/
  | cRedmax (d : BitVec 7) (a : BitVec 7)
  /-- REDMIN (R148). -/
  | cRedmin (d : BitVec 7) (a : BitVec 7)
  /-- PAND (R149). -/
  | cPand (d : BitVec 3) (a : BitVec 3) (b : BitVec 3)
  /-- POR (R149). -/
  | cPor (d : BitVec 3) (a : BitVec 3) (b : BitVec 3)
  /-- PXOR (R149). -/
  | cPxor (d : BitVec 3) (a : BitVec 3) (b : BitVec 3)
  /-- PNOT (R149). -/
  | cPnot (d : BitVec 3) (a : BitVec 3)
  /-- PSET (R149). -/
  | cPset (d : BitVec 3) (a : BitVec 7)
  /-- PGET (R149). -/
  | cPget (d : BitVec 7) (p : BitVec 3)
  /-- IF (R150). -/
  | cIf (p : BitVec 3)
  /-- ELSE (R150). -/
  | cElse
  /-- ENDIF (R150). -/
  | cEndif
  /-- REPEAT (R152). -/
  | cRepeat (a : BitVec 7)
  /-- BRKIF (R153). -/
  | cBrkif (p : BitVec 3)
  /-- SETMODE (R155). -/
  | cSetmode (a : BitVec 7)
  /-- SIGCHK (R156). -/
  | cSigchk
  /-- EXITG (R157). -/
  | cExitg
  /-- NOP (R158). -/
  | cNop
  /-- TRAPG (R159). -/
  | cTrapg (a : BitVec 7)
  /-- LD_C (R260). -/
  | cLd (d : BitVec 7) (s : BitVec 2) (n : BitVec 3) (b : BitVec 7) (o : BitVec 2)
  /-- LD64_C (R260). -/
  | cLd64 (d : BitVec 7) (n : BitVec 3) (b : BitVec 7) (o : BitVec 2)
  /-- ST_C (R260). -/
  | cSt (d : BitVec 7) (l : BitVec 1) (s : BitVec 2) (n : BitVec 3) (b : BitVec 7) (o : BitVec 2)
  /-- ST64_C (R260). -/
  | cSt64 (d : BitVec 7) (l : BitVec 1) (n : BitVec 3) (b : BitVec 7) (o : BitVec 2)
  /-- AMO_C (R261). -/
  | cAmo (d : BitVec 7) (p : BitVec 4) (n : BitVec 3) (b : BitVec 7) (o : BitVec 2)
  /-- LDP_C (R262). -/
  | cLdp (d : BitVec 7) (p : BitVec 3) (n : BitVec 3) (b : BitVec 7) (o : BitVec 2)
  /-- GATHER (R263). -/
  | cGather (d : BitVec 7) (t : BitVec 4) (n : BitVec 3) (b : BitVec 7) (o : BitVec 2)
  /-- LDS_C (R264). -/
  | cLds (d : BitVec 7) (a : BitVec 7) (b : BitVec 7)
  /-- LDS64 (R264). -/
  | cLds64 (d : BitVec 7) (a : BitVec 7) (b : BitVec 7)
  /-- STS (R264). -/
  | cSts (d : BitVec 7) (a : BitVec 7) (b : BitVec 7)
  /-- STS64 (R264). -/
  | cSts64 (d : BitVec 7) (a : BitVec 7) (b : BitVec 7)
  /-- LDSF (R265). -/
  | cLdsf (d : BitVec 7) (a : BitVec 7) (b : BitVec 7)
  /-- LDSFK (R265). -/
  | cLdsfk (d : BitVec 7) (a : BitVec 7) (b : BitVec 7)
  /-- STSE (R265). -/
  | cStse (d : BitVec 7) (a : BitVec 7) (b : BitVec 7)
  /-- STSF (R264). -/
  | cStsf (d : BitVec 7) (a : BitVec 7) (b : BitVec 7)
  /-- SPTAG (R264). -/
  | cSptag (d : BitVec 7) (a : BitVec 7) (b : BitVec 7)
  /-- XST (R267). -/
  | cXst (d : BitVec 7) (a : BitVec 7) (b : BitVec 7)
  /-- AMOS (R268). -/
  | cAmos (d : BitVec 7) (p : BitVec 4) (a : BitVec 3) (b : BitVec 7)
  /-- PUSHG (R351). -/
  | cPushg (a : BitVec 7) (b : BitVec 7)
  /-- PUSHG_NB (R351). -/
  | cPushgNb (p : BitVec 3) (a : BitVec 7) (b : BitVec 7)
  /-- VOTE (R352). -/
  | cVote (d : BitVec 3) (a : BitVec 3) (o : BitVec 2)
  /-- BARARV_C (R390). -/
  | cBararv (b : BitVec 5)
  /-- BARDROP_C (R390). -/
  | cBardrop (b : BitVec 5)
  /-- BARWAIT_C (R392). -/
  | cBarwait (n : BitVec 5) (b : BitVec 7)
  /-- BARAW_C (R394). -/
  | cBaraw (b : BitVec 5)
  /-- FENCE_C (R269). -/
  | cFence (o : BitVec 2)
  /-- MONW (R271). -/
  | cMonw (d : BitVec 7) (n : BitVec 3) (b : BitVec 7)
  /-- MWAITB (R272). -/
  | cMwaitb (a : BitVec 7)
  -- M-words
  /-- MNOP (R297). -/
  | mMnop
  /-- MMA (R289). -/
  | mMma (h : BitVec 4) (a : BitVec 4) (b : BitVec 4) (s : BitVec 12) (n : BitVec 1) (r : BitVec 1) (c : BitVec 1)
  /-- MMAG (R290). -/
  | mMmag (h : BitVec 4) (a : BitVec 4) (b : BitVec 4) (g : BitVec 4) (s : BitVec 8) (n : BitVec 1) (r : BitVec 1) (c : BitVec 1)
  /-- MZERO (R291). -/
  | mMzero (h : BitVec 4)
  /-- MLOADA (R292). -/
  | mMloada (h : BitVec 4) (a : BitVec 4) (f : BitVec 3)
  /-- MOUT (R294). -/
  | mMout (h : BitVec 4) (a : BitVec 4) (f : BitVec 3) (r : BitVec 3) (s : BitVec 1) (t : BitVec 1)
  /-- MSCALE (R293). -/
  | mMscale (h : BitVec 4) (o : BitVec 15)
  /-- MRELEASE (R295). -/
  | mMrelease (h : BitVec 4)
  /-- MBATCH (R296). -/
  | mMbatch (b : BitVec 5) (n : BitVec 10)
  -- Words that are no instruction
  /-- ILLEGAL_G_WORD (R71). -/
  | eIllegalGWord (w : W32)
  /-- ILLEGAL_C_WORD (R71). -/
  | eIllegalCWord (w : W32)
  /-- ILLEGAL_M_WORD (R70). -/
  | eIllegalMWord (w : W32)
  -- Packets of a Pewter lane
  /-- NOP_PACKET (R327). -/
  | pNopPacket
  /-- LAUNCH (R335). -/
  | pLaunch
  /-- LAUNCHI (R316). -/
  | pLaunchi
  /-- COPY_PACKET (R334). -/
  | pCopyPacket
  /-- CALLIB (R328). -/
  | pCallib
  /-- PRED (R329). -/
  | pPred
  /-- LOOP (R330). -/
  | pLoop
  /-- ENDLOOP (R330). -/
  | pEndloop
  /-- SIGNAL_WRITE (R331). -/
  | pSignalWrite
  /-- SIGNAL_ADD (R331). -/
  | pSignalAdd
  /-- WAITMEM (R332). -/
  | pWaitmem
  /-- FETCHFENCE (R333). -/
  | pFetchfence
  /-- DRAIN (R333). -/
  | pDrain
  /-- SETPRIO (R333). -/
  | pSetprio
  /-- TIMESTAMP (R331). -/
  | pTimestamp
  -- Events
  /-- COLD_RESET (R7). -/
  | eColdReset
  /-- BOOT_STAGE_VERIFY (R416). -/
  | eBootStageVerify
  /-- MODULE_RELEASE (R402). -/
  | eModuleRelease
  /-- STRIKE (R190). -/
  | eStrike
  /-- SLICE_STRIKE (R219). -/
  | eSliceStrike
  /-- DIE_FAILURE (R26). -/
  | eDieFailure
  /-- KICK (R308). -/
  | eKick
  /-- QSTOPQ (R306). -/
  | eQstopq
  /-- FQREL (R322). -/
  | eFqrel
  /-- SNAPTRIG (R405). -/
  | eSnaptrig
  /-- SNAPSHOT_LATCH (R405). -/
  | eSnapshotLatch
  /-- ATTESTATION_REPORT (R418). -/
  | eAttestationReport
  /-- READ_LIFETIME_COUNTERS (R417). -/
  | eReadLifetimeCounters
  /-- SNAPSHOT_TRIGGER_COMMAND (R417). -/
  | eSnapshotTriggerCommand
  /-- REGISTER_WRITE (R210). -/
  | eRegisterWrite
  /-- LIFETIME_COUNTER_UPDATE (R404). -/
  | eLifetimeCounterUpdate
  /-- DRAM_SCRUB (R207). -/
  | eDramScrub
  /-- HOLD_BACK_LEAVE (R217). -/
  | eHoldBackLeave
  /-- EGRESS_QUARANTINE_LEAVE (R218). -/
  | eEgressQuarantineLeave
  /-- INBOUND_POSTED_WRITE (R237). -/
  | eInboundPostedWrite
  /-- INBOUND_READ (R237). -/
  | eInboundRead
  /-- INBOUND_WRITE_ACK (R424). -/
  | eInboundWriteAck
  /-- INBOUND_HOLD_TIMEOUT (R407). -/
  | eInboundHoldTimeout
  /-- HOST_ATS_INVALIDATION (R408). -/
  | eHostAtsInvalidation
  /-- PRI_RESPONSE (R408). -/
  | ePriResponse
  /-- HOLUSK_DATA_FLIT (R411). -/
  | eHoluskDataFlit
  /-- HOLUSK_ACK (R411). -/
  | eHoluskAck
  /-- HOLUSK_REPLAY_TIMEOUT (R411). -/
  | eHoluskReplayTimeout
  /-- AUDIT (R412). -/
  | eAudit
  /-- RESYNC (R412). -/
  | eResync
  /-- LINK_POWER_DOWN (R413). -/
  | eLinkPowerDown
  /-- LINK_WAKE (R413). -/
  | eLinkWake
  /-- WATCHDOG_EXPIRY (R171). -/
  | eWatchdogExpiry
  /-- TSWAP_EXPIRY (R178). -/
  | eTswapExpiry
  /-- TMAX_EXPIRY (R178). -/
  | eTmaxExpiry
  /-- SWAP_OUT (R179). -/
  | eSwapOut
  /-- SWAP_IN (R180). -/
  | eSwapIn
  /-- TEAM_ADMISSION (R317). -/
  | eTeamAdmission
  /-- GANG_ADMISSION (R319). -/
  | eGangAdmission
  /-- GANG_WAIT_EXPIRY (R319). -/
  | eGangWaitExpiry
  /-- TEAM_RETIREMENT (R129). -/
  | eTeamRetirement
  /-- LANE_BIND (R311). -/
  | eLaneBind
  /-- LANE_WAIT_TIMEOUT (R311). -/
  | eLaneWaitTimeout
  /-- LANE_PACKET_QUOTA (R311). -/
  | eLanePacketQuota
  /-- LANE_PASSED_OVER (R312). -/
  | eLanePassedOver
  /-- PACKET_FETCH (R313). -/
  | ePacketFetch
  /-- LANE_WAIT_END (R310). -/
  | eLaneWaitEnd
  /-- WAITMEM_REREAD (R332). -/
  | eWaitmemReread
  /-- LAUNCH_DISPATCH (R314). -/
  | eLaunchDispatch
  /-- PROLOGUE_START (R316). -/
  | ePrologueStart
  /-- TEAM_DISTRIBUTION (R316). -/
  | eTeamDistribution
  /-- PROLOGUE_REPEAT (R356). -/
  | ePrologueRepeat
  /-- COMPLETION_SIGNAL (R338). -/
  | eCompletionSignal
  /-- TOMBAC_SEQUENCE (R323). -/
  | eTombacSequence
  /-- FAULT_RECORD_WRITE (R174). -/
  | eFaultRecordWrite
  /-- PERMIT_BACKOFF_RETRY (R174). -/
  | ePermitBackoffRetry
  /-- TRAP_DELIVERY (R167). -/
  | eTrapDelivery
  /-- REGION_COMMIT (R184). -/
  | eRegionCommit
  /-- GSETB_APPLY (R46). -/
  | eGsetbApply
  /-- C_MEMORY_COMPLETE (R249). -/
  | eCMemoryComplete
  /-- COPY_OPERATION_END (R274). -/
  | eCopyOperationEnd
  /-- MONITOR_WAKE (R379). -/
  | eMonitorWake
  /-- MONW_RETRY (R271). -/
  | eMonwRetry
  /-- LEASE_VOID (R381). -/
  | eLeaseVoid
  /-- CLOCK_RESUME (R382). -/
  | eClockResume
  /-- GROUP_OVERDUE (R321). -/
  | eGroupOverdue
  /-- GANG_EXIT_NOTICE (R267). -/
  | eGangExitNotice
  /-- GANG_BARRIER_ARRIVAL (R398). -/
  | eGangBarrierArrival
  /-- MDSET_APPLY (R282). -/
  | eMdsetApply
  /-- MWAITA_DEADLINE (R270). -/
  | eMwaitaDeadline
  /-- WFI_DEADLINE (R131). -/
  | eWfiDeadline
  /-- ISSUE_GATING (R414). -/
  | eIssueGating
  /-- CLOCK_STOP (R402). -/
  | eClockStop
  /-- LEASE_EXPIRY (R380). -/
  | eLeaseExpiry
  /-- YIELD_TIMEOUT (R350). -/
  | eYieldTimeout
deriving DecidableEq, Repr

/-- A word of no effect, so that the type is inhabited. -/
def Instr.idle : Instr := .cNop

end Sys2Proof
end

