-- ==== Sys2Proof/WellFormed.lean ====
section
/-! DEFINITION. WellFormed.lean: which field values make an instruction of an encoding (R56 to R75); every other value
is an encoding that is no instruction (R71). -/

namespace Sys2Proof

/-- Orders a load takes: relaxed and acquire (R57, R62). -/
def loadOrder (r : BitVec 2) : Bool := r == 0 || r == 1

/-- Orders a store takes: relaxed and release (R57, R62). -/
def storeOrder (r : BitVec 2) : Bool := r == 0 || r == 2

/-- A 64-bit vector operand: an even register below v126, or the K and sink code (R42). -/
def pairReg (d : BitVec 7) : Bool := d == 127 || (d.toNat % 2 == 0 && d.toNat < 126)

/-- An atomic of a group: operations 0 to 9, and for CAS an even d of at most 124 (R62, R261, R268). -/
def groupAtomic (p : BitVec 4) (d : BitVec 7) : Bool :=
  p.toNat ≤ 9 && (p != 9 || (d.toNat % 2 == 0 && d.toNat ≤ 124))

/-- The N field of a word whose nb bit is clear must be zero (R340). -/
def nbField (z : BitVec 1) (n : BitVec 3) : Bool := z == 1 || n == 0

/-- A flag field of a clause header: cf0 to cf11, or 15 for none (R59). -/
def flagField (f : BitVec 4) : Bool := f.toNat ≤ 11 || f == 15

/-- The instruction's fields hold values that its encoding admits. -/
def Instr.wf (i : Instr) : Bool :=
  match i with
  | .gSext _ _ w | .gZext _ _ w => w.toNat ≤ 2
  | .gCwset _ _ s => s.toNat ≤ 8
  | .gCmp _ _ _ c => c.toNat ≤ 5
  | .gCmpi c _ _ _ => c.toNat ≤ 5
  | .gCbop _ a b o => o.toNat ≤ 5 && (o.toNat < 4 || (a == 0 && b == 0))
  | .gLd _ _ r _ _ | .gLds _ _ r _ _ => loadOrder r
  | .gSt _ _ r _ _ => storeOrder r
  | .gAmo _ _ _ p _ _ => p.toNat ≤ 9
  | .gLdp _ _ _ r => loadOrder r
  | .gLdsum _ _ t r => t.toNat ≤ 1 && loadOrder r
  | .gLdf _ _ m => m.toNat ≤ 1
  | .gSte _ _ m => m.toNat ≤ 2
  | .gCopy _ a _ | .gCopys _ a _ => a != 0 && a != 63
  | .gCopyz _ a _ => a != 0
  | .gEmit _ _ n z _ | .gEmitm _ n z _ => nbField z n
  | .gEmitk _ a k n z _ => nbField z n && (k == 0 || a == 0)
  | .gEmitb n _ _ z _ => nbField z n
  | .gPop _ _ n z => nbField z n
  | .gQstat _ g => g.toNat ≤ 16
  | .gSendm _ z n => nbField z n
  | .gRecvm _ _ z n => nbField z n
  | .cClauseHeader _ a b _ => flagField a && flagField b && (a != 15 || b == 15)
  | .cCvt _ _ t => t.toNat ≤ 10
  | .cLd _ s _ _ o => s != 3 && loadOrder o
  | .cLd64 d _ _ o => pairReg d && loadOrder o
  | .cSt _ _ s _ _ o => s != 3 && storeOrder o
  | .cSt64 d _ _ _ o => pairReg d && storeOrder o
  | .cAmo d p _ _ _ => groupAtomic p d
  | .cLdp _ _ _ _ o => loadOrder o
  | .cGather _ t _ _ o => t.toNat ≤ 1 && loadOrder o
  | .cLds64 d _ _ | .cSts64 d _ _ => pairReg d
  | .cAmos d p _ _ => groupAtomic p d
  | .cVote _ _ o => o != 3
  | .mMloada _ _ f => f.toNat ≤ 4
  | .mMout _ _ f r _ _ => f.toNat ≤ 4 && r.toNat ≤ 4
  | .mMmag h _ b g _ _ _ _ => h.toNat + g.toNat ≤ 15 && b.toNat + g.toNat ≤ 15
  | _ => true

end Sys2Proof
end

