-- ==== Sys2Proof/Decode.lean ====
section
/-! DEFINITION. Decode.lean: the three word decoders, the packet decoder, and the encoder. A word decodes to the
instruction its major and minor name, provided the instruction is well formed and encodes back to the same word: an
unused field that is not zero (R58, R60, R70) makes the two words differ. -/

namespace Sys2Proof

/-- The word of an instruction, field by field from R54 to R70; packets and events have none. -/
def encodeWord (i : Instr) : Option W32 :=
  match i with
  | .gAdd d a b => some (0x0#6 ++ d ++ a ++ b ++ 0x0#8)
  | .gSub d a b => some (0x0#6 ++ d ++ a ++ b ++ 0x1#8)
  | .gAnd d a b => some (0x0#6 ++ d ++ a ++ b ++ 0x2#8)
  | .gOr d a b => some (0x0#6 ++ d ++ a ++ b ++ 0x3#8)
  | .gXor d a b => some (0x0#6 ++ d ++ a ++ b ++ 0x4#8)
  | .gAndn d a b => some (0x0#6 ++ d ++ a ++ b ++ 0x5#8)
  | .gSll d a b => some (0x0#6 ++ d ++ a ++ b ++ 0x6#8)
  | .gSrl d a b => some (0x0#6 ++ d ++ a ++ b ++ 0x7#8)
  | .gSra d a b => some (0x0#6 ++ d ++ a ++ b ++ 0x8#8)
  | .gRol d a b => some (0x0#6 ++ d ++ a ++ b ++ 0x9#8)
  | .gSlt d a b => some (0x0#6 ++ d ++ a ++ b ++ 0xA#8)
  | .gSltu d a b => some (0x0#6 ++ d ++ a ++ b ++ 0xB#8)
  | .gMin d a b => some (0x0#6 ++ d ++ a ++ b ++ 0xC#8)
  | .gMax d a b => some (0x0#6 ++ d ++ a ++ b ++ 0xD#8)
  | .gMinu d a b => some (0x0#6 ++ d ++ a ++ b ++ 0xE#8)
  | .gMaxu d a b => some (0x0#6 ++ d ++ a ++ b ++ 0xF#8)
  | .gSext d a w => some (0x0#6 ++ d ++ a ++ w ++ 0x10#8)
  | .gZext d a w => some (0x0#6 ++ d ++ a ++ w ++ 0x11#8)
  | .gMovc d a n => some (0x0#6 ++ d ++ a ++ 0x0#3 ++ n ++ 0x12#8)
  | .gMul d a b => some (0x1#6 ++ d ++ a ++ b ++ 0x0#8)
  | .gMulh d a b => some (0x1#6 ++ d ++ a ++ b ++ 0x1#8)
  | .gMulhu d a b => some (0x1#6 ++ d ++ a ++ b ++ 0x2#8)
  | .gDiv d a b => some (0x1#6 ++ d ++ a ++ b ++ 0x3#8)
  | .gDivu d a b => some (0x1#6 ++ d ++ a ++ b ++ 0x4#8)
  | .gRem d a b => some (0x1#6 ++ d ++ a ++ b ++ 0x5#8)
  | .gRemu d a b => some (0x1#6 ++ d ++ a ++ b ++ 0x6#8)
  | .gClz d a => some (0x1#6 ++ d ++ a ++ 0x7#14)
  | .gCtz d a => some (0x1#6 ++ d ++ a ++ 0x8#14)
  | .gPopc d a => some (0x1#6 ++ d ++ a ++ 0x9#14)
  | .gBrev d a => some (0x1#6 ++ d ++ a ++ 0xA#14)
  | .gBfx d a b => some (0x1#6 ++ d ++ a ++ b ++ 0xB#8)
  | .gBfi d a b => some (0x1#6 ++ d ++ a ++ b ++ 0xC#8)
  | .gCwset d a s => some (0x1#6 ++ d ++ a ++ 0x0#2 ++ s ++ 0xD#8)
  | .gAddi d a i => some (0x2#6 ++ d ++ a ++ i)
  | .gAndi d a i => some (0x3#6 ++ d ++ a ++ i)
  | .gOri d a i => some (0x4#6 ++ d ++ a ++ i)
  | .gXori d a i => some (0x5#6 ++ d ++ a ++ i)
  | .gShi d a o s => some (0x6#6 ++ d ++ a ++ o ++ 0x0#6 ++ s)
  | .gSlti d a i => some (0x7#6 ++ d ++ a ++ i)
  | .gSltiu d a i => some (0x8#6 ++ d ++ a ++ i)
  | .gMuli d a i => some (0x9#6 ++ d ++ a ++ i)
  | .gLui d i => some (0xA#6 ++ d ++ i)
  | .gAuipc d i => some (0xB#6 ++ d ++ i)
  | .gCmp n a b c => some (0xC#6 ++ 0x0#3 ++ n ++ a ++ b ++ c)
  | .gCmpi c n a i => some (0xD#6 ++ c ++ n ++ a ++ i)
  | .gCbop d a b o => some (0xE#6 ++ 0x0#3 ++ d ++ 0x0#3 ++ a ++ 0x0#3 ++ b ++ o)
  | .gBc c s o => some (0xF#6 ++ c ++ s ++ o)
  | .gBa o => some (0x10#6 ++ o)
  | .gBl o => some (0x11#6 ++ o)
  | .gBrr a => some (0x12#6 ++ 0x0#6 ++ a ++ 0x0#14)
  | .gBrlr a => some (0x12#6 ++ 0x0#6 ++ a ++ 0x1#14)
  | .gLd d a r z o => some (0x13#6 ++ d ++ a ++ r ++ z ++ o)
  | .gLds d a r z o => some (0x14#6 ++ d ++ a ++ r ++ z ++ o)
  | .gSt d a r z o => some (0x15#6 ++ d ++ a ++ r ++ z ++ o)
  | .gAmo d a b p o s => some (0x16#6 ++ d ++ a ++ b ++ p ++ o ++ s ++ 0x0#1)
  | .gLdp d a n r => some (0x17#6 ++ d ++ a ++ 0x0#3 ++ n ++ 0x0#2 ++ r ++ 0x0#4)
  | .gLdsum d a t r => some (0x17#6 ++ d ++ a ++ t ++ 0x0#2 ++ r ++ 0x1#4)
  | .gLdf d a m => some (0x17#6 ++ d ++ a ++ 0x0#4 ++ m ++ 0x2#8)
  | .gSte d a m => some (0x17#6 ++ d ++ a ++ 0x0#4 ++ m ++ 0x3#8)
  | .gFence e a r => some (0x17#6 ++ 0x0#3 ++ e ++ a ++ 0x0#8 ++ r ++ 0x4#4)
  | .gMonitor a => some (0x17#6 ++ 0x0#6 ++ a ++ 0x5#14)
  | .gMwaita d a => some (0x17#6 ++ d ++ a ++ 0x6#14)
  | .gCopy d a b => some (0x17#6 ++ d ++ a ++ b ++ 0x7#8)
  | .gCopys d a b => some (0x17#6 ++ d ++ a ++ b ++ 0x8#8)
  | .gCopyz d a b => some (0x17#6 ++ d ++ a ++ b ++ 0x9#8)
  | .gEmit g a n z r => some (0x18#6 ++ 0x0#2 ++ g ++ a ++ 0x0#3 ++ n ++ z ++ r ++ 0x0#6)
  | .gEmitk g a k n z r => some (0x18#6 ++ 0x0#2 ++ g ++ a ++ k ++ 0x0#2 ++ n ++ z ++ r ++ 0x1#6)
  | .gEmitm a n z r => some (0x18#6 ++ 0x0#6 ++ a ++ 0x0#3 ++ n ++ z ++ r ++ 0x2#6)
  | .gEmitb n a b z r => some (0x18#6 ++ 0x0#3 ++ n ++ a ++ b ++ z ++ r ++ 0x3#6)
  | .gPop d g n z => some (0x18#6 ++ d ++ 0x0#2 ++ g ++ 0x0#3 ++ n ++ z ++ 0x4#7)
  | .gQstat d g => some (0x18#6 ++ d ++ 0x0#1 ++ g ++ 0x5#14)
  | .gGarm g => some (0x18#6 ++ 0x0#2 ++ g ++ 0x6#20)
  | .gYield => some (0x18#6 ++ 0x7#26)
  | .gRegion => some (0x18#6 ++ 0x8#26)
  | .gEmitl g n c o => some (0x19#6 ++ g ++ n ++ c ++ o)
  | .gMdset n a b => some (0x1A#6 ++ 0x0#2 ++ n ++ a ++ b ++ 0x0#8)
  | .gMwait d a => some (0x1A#6 ++ d ++ a ++ 0x1#14)
  | .gGsetb g a n => some (0x1A#6 ++ 0x0#2 ++ g ++ a ++ 0x0#3 ++ n ++ 0x2#8)
  | .gBarinit b a => some (0x1B#6 ++ 0x0#1 ++ b ++ a ++ 0x0#14)
  | .gBararv b => some (0x1B#6 ++ 0x0#1 ++ b ++ 0x1#20)
  | .gBardrop b => some (0x1B#6 ++ 0x0#1 ++ b ++ 0x2#20)
  | .gBarwait b a => some (0x1B#6 ++ 0x0#1 ++ b ++ a ++ 0x3#14)
  | .gBaraw b => some (0x1B#6 ++ 0x0#1 ++ b ++ 0x4#20)
  | .gGbarinit g => some (0x1B#6 ++ 0x0#3 ++ g ++ 0x5#20)
  | .gGbararv g => some (0x1B#6 ++ 0x0#3 ++ g ++ 0x6#20)
  | .gGbardrop g => some (0x1B#6 ++ 0x0#3 ++ g ++ 0x7#20)
  | .gGbarwait g a => some (0x1B#6 ++ 0x0#3 ++ g ++ a ++ 0x8#14)
  | .gCsrr d n => some (0x1C#6 ++ d ++ n ++ 0x0#8)
  | .gCsrw d n => some (0x1C#6 ++ d ++ n ++ 0x1#8)
  | .gCsrs d n => some (0x1C#6 ++ d ++ n ++ 0x2#8)
  | .gCsrc d n => some (0x1C#6 ++ d ++ n ++ 0x3#8)
  | .gTrap a b => some (0x1C#6 ++ 0x0#6 ++ a ++ b ++ 0x4#8)
  | .gRte => some (0x1C#6 ++ 0x5#26)
  | .gExit => some (0x1C#6 ++ 0x6#26)
  | .gEcall d a b => some (0x1C#6 ++ d ++ a ++ b ++ 0x7#8)
  | .gGtime d => some (0x1C#6 ++ d ++ 0x8#20)
  | .gTlbi d a b => some (0x1D#6 ++ d ++ a ++ b ++ 0x0#8)
  | .gSendm a z n => some (0x1D#6 ++ 0x0#6 ++ a ++ z ++ 0x0#2 ++ n ++ 0x1#8)
  | .gRecvm d a z n => some (0x1D#6 ++ d ++ a ++ z ++ 0x0#2 ++ n ++ 0x2#8)
  | .gWfi d a => some (0x1D#6 ++ d ++ a ++ 0x3#14)
  | .gSwapt d a => some (0x1D#6 ++ d ++ a ++ 0x4#14)
  | .gLset a f => some (0x1E#6 ++ 0x0#6 ++ a ++ f ++ 0x0#8)
  | .gLget d f => some (0x1E#6 ++ d ++ 0x0#6 ++ f ++ 0x1#8)
  | .gLcancel => some (0x1E#6 ++ 0x2#26)
  | .gLrepeat a => some (0x1E#6 ++ 0x0#6 ++ a ++ 0x3#14)
  | .gLgo => some (0x1E#6 ++ 0x4#26)
  | .cClauseHeader w a b l => some (0xF#4 ++ w ++ a ++ b ++ l ++ 0x0#4)
  | .cFma d a b c => some (0x0#4 ++ d ++ a ++ b ++ c)
  | .cFms d a b c => some (0x1#4 ++ d ++ a ++ b ++ c)
  | .cFnma d a b c => some (0x2#4 ++ d ++ a ++ b ++ c)
  | .cImad d a b c => some (0x3#4 ++ d ++ a ++ b ++ c)
  | .cImadh d a b c => some (0x4#4 ++ d ++ a ++ b ++ c)
  | .cSelv d a b p => some (0x5#4 ++ d ++ a ++ b ++ 0x0#4 ++ p)
  | .cDp4a d a b c => some (0x6#4 ++ d ++ a ++ b ++ c)
  | .cShf d a b c => some (0x7#4 ++ d ++ a ++ b ++ c)
  | .cFadd d a b => some (0x8#4 ++ d ++ a ++ b ++ 0x0#7)
  | .cFsub d a b => some (0x8#4 ++ d ++ a ++ b ++ 0x1#7)
  | .cFmul d a b => some (0x8#4 ++ d ++ a ++ b ++ 0x2#7)
  | .cFmin d a b => some (0x8#4 ++ d ++ a ++ b ++ 0x3#7)
  | .cFmax d a b => some (0x8#4 ++ d ++ a ++ b ++ 0x4#7)
  | .cFabs d a => some (0x8#4 ++ d ++ a ++ 0x5#14)
  | .cFneg d a => some (0x8#4 ++ d ++ a ++ 0x6#14)
  | .cFrcp d a => some (0x8#4 ++ d ++ a ++ 0x7#14)
  | .cFrsq d a => some (0x8#4 ++ d ++ a ++ 0x8#14)
  | .cFsqrt d a => some (0x8#4 ++ d ++ a ++ 0x9#14)
  | .cFex2 d a => some (0x8#4 ++ d ++ a ++ 0xA#14)
  | .cFlg2 d a => some (0x8#4 ++ d ++ a ++ 0xB#14)
  | .cFcmpEq p a b => some (0x8#4 ++ 0x0#4 ++ p ++ a ++ b ++ 0xC#7)
  | .cFcmpNe p a b => some (0x8#4 ++ 0x0#4 ++ p ++ a ++ b ++ 0xD#7)
  | .cFcmpLt p a b => some (0x8#4 ++ 0x0#4 ++ p ++ a ++ b ++ 0xE#7)
  | .cFcmpLe p a b => some (0x8#4 ++ 0x0#4 ++ p ++ a ++ b ++ 0xF#7)
  | .cFcmpGt p a b => some (0x8#4 ++ 0x0#4 ++ p ++ a ++ b ++ 0x10#7)
  | .cFcmpGe p a b => some (0x8#4 ++ 0x0#4 ++ p ++ a ++ b ++ 0x11#7)
  | .cFcmpUn p a b => some (0x8#4 ++ 0x0#4 ++ p ++ a ++ b ++ 0x12#7)
  | .cFclass d a => some (0x8#4 ++ d ++ a ++ 0x13#14)
  | .cIadd d a b => some (0x9#4 ++ d ++ a ++ b ++ 0x0#7)
  | .cIsub d a b => some (0x9#4 ++ d ++ a ++ b ++ 0x1#7)
  | .cImul d a b => some (0x9#4 ++ d ++ a ++ b ++ 0x2#7)
  | .cImin d a b => some (0x9#4 ++ d ++ a ++ b ++ 0x3#7)
  | .cImax d a b => some (0x9#4 ++ d ++ a ++ b ++ 0x4#7)
  | .cIand d a b => some (0x9#4 ++ d ++ a ++ b ++ 0x5#7)
  | .cIor d a b => some (0x9#4 ++ d ++ a ++ b ++ 0x6#7)
  | .cIxor d a b => some (0x9#4 ++ d ++ a ++ b ++ 0x7#7)
  | .cIandn d a b => some (0x9#4 ++ d ++ a ++ b ++ 0x8#7)
  | .cIshl d a b => some (0x9#4 ++ d ++ a ++ b ++ 0x9#7)
  | .cIshr d a b => some (0x9#4 ++ d ++ a ++ b ++ 0xA#7)
  | .cIsra d a b => some (0x9#4 ++ d ++ a ++ b ++ 0xB#7)
  | .cIabs d a => some (0x9#4 ++ d ++ a ++ 0xC#14)
  | .cIneg d a => some (0x9#4 ++ d ++ a ++ 0xD#14)
  | .cIpopc d a => some (0x9#4 ++ d ++ a ++ 0xE#14)
  | .cIclz d a => some (0x9#4 ++ d ++ a ++ 0xF#14)
  | .cIbrev d a => some (0x9#4 ++ d ++ a ++ 0x10#14)
  | .cIcmpEq p a b => some (0x9#4 ++ 0x0#4 ++ p ++ a ++ b ++ 0x11#7)
  | .cIcmpNe p a b => some (0x9#4 ++ 0x0#4 ++ p ++ a ++ b ++ 0x12#7)
  | .cIcmpLt p a b => some (0x9#4 ++ 0x0#4 ++ p ++ a ++ b ++ 0x13#7)
  | .cIcmpLe p a b => some (0x9#4 ++ 0x0#4 ++ p ++ a ++ b ++ 0x14#7)
  | .cIcmpGt p a b => some (0x9#4 ++ 0x0#4 ++ p ++ a ++ b ++ 0x15#7)
  | .cIcmpGe p a b => some (0x9#4 ++ 0x0#4 ++ p ++ a ++ b ++ 0x16#7)
  | .cIbfx d a b => some (0x9#4 ++ d ++ a ++ b ++ 0x17#7)
  | .cMov d a => some (0xA#4 ++ d ++ a ++ 0x0#14)
  | .cCvt d a t => some (0xA#4 ++ d ++ a ++ t ++ 0x1#7)
  | .cPack d a b => some (0xA#4 ++ d ++ a ++ b ++ 0x2#7)
  | .cUnpkl d a => some (0xA#4 ++ d ++ a ++ 0x3#14)
  | .cUnpkh d a => some (0xA#4 ++ d ++ a ++ 0x4#14)
  | .cLaneid d => some (0xA#4 ++ d ++ 0x5#21)
  | .cShfl d a b => some (0xA#4 ++ d ++ a ++ b ++ 0x6#7)
  | .cShflup d a b => some (0xA#4 ++ d ++ a ++ b ++ 0x7#7)
  | .cShfldn d a b => some (0xA#4 ++ d ++ a ++ b ++ 0x8#7)
  | .cShflx d a b => some (0xA#4 ++ d ++ a ++ b ++ 0x9#7)
  | .cBcast d a => some (0xA#4 ++ d ++ a ++ 0xA#14)
  | .cBallot p a => some (0xA#4 ++ 0x0#4 ++ p ++ a ++ 0xB#14)
  | .cRedadd d a => some (0xA#4 ++ d ++ a ++ 0xC#14)
  | .cRedmax d a => some (0xA#4 ++ d ++ a ++ 0xD#14)
  | .cRedmin d a => some (0xA#4 ++ d ++ a ++ 0xE#14)
  | .cPand d a b => some (0xB#4 ++ 0x0#4 ++ d ++ 0x0#4 ++ a ++ 0x0#4 ++ b ++ 0x0#7)
  | .cPor d a b => some (0xB#4 ++ 0x0#4 ++ d ++ 0x0#4 ++ a ++ 0x0#4 ++ b ++ 0x1#7)
  | .cPxor d a b => some (0xB#4 ++ 0x0#4 ++ d ++ 0x0#4 ++ a ++ 0x0#4 ++ b ++ 0x2#7)
  | .cPnot d a => some (0xB#4 ++ 0x0#4 ++ d ++ 0x0#4 ++ a ++ 0x3#14)
  | .cPset d a => some (0xB#4 ++ 0x0#4 ++ d ++ a ++ 0x4#14)
  | .cPget d p => some (0xB#4 ++ d ++ 0x0#4 ++ p ++ 0x5#14)
  | .cIf p => some (0xB#4 ++ 0x0#11 ++ p ++ 0x6#14)
  | .cElse => some (0xB#4 ++ 0x7#28)
  | .cEndif => some (0xB#4 ++ 0x8#28)
  | .cRepeat a => some (0xB#4 ++ 0x0#7 ++ a ++ 0x9#14)
  | .cBrkif p => some (0xB#4 ++ 0x0#11 ++ p ++ 0xA#14)
  | .cSetmode a => some (0xB#4 ++ 0x0#7 ++ a ++ 0xB#14)
  | .cSigchk => some (0xB#4 ++ 0x1FC00D#28)
  | .cExitg => some (0xB#4 ++ 0xE#28)
  | .cNop => some (0xB#4 ++ 0xF#28)
  | .cTrapg a => some (0xB#4 ++ 0x0#7 ++ a ++ 0x10#14)
  | .cLd d s n b o => some (0xC#4 ++ d ++ 0x0#2 ++ s ++ n ++ b ++ 0x0#3 ++ o ++ 0x0#2)
  | .cLd64 d n b o => some (0xC#4 ++ d ++ 0x0#4 ++ n ++ b ++ 0x1#3 ++ o ++ 0x0#2)
  | .cSt d l s n b o => some (0xC#4 ++ d ++ 0x0#1 ++ l ++ s ++ n ++ b ++ 0x2#3 ++ o ++ 0x0#2)
  | .cSt64 d l n b o => some (0xC#4 ++ d ++ 0x0#1 ++ l ++ 0x0#2 ++ n ++ b ++ 0x3#3 ++ o ++ 0x0#2)
  | .cAmo d p n b o => some (0xC#4 ++ d ++ p ++ n ++ b ++ 0x4#3 ++ o ++ 0x0#2)
  | .cLdp d p n b o => some (0xC#4 ++ d ++ 0x0#1 ++ p ++ n ++ b ++ 0x5#3 ++ o ++ 0x0#2)
  | .cGather d t n b o => some (0xC#4 ++ d ++ t ++ n ++ b ++ 0x6#3 ++ o ++ 0x0#2)
  | .cLds d a b => some (0xD#4 ++ d ++ a ++ b ++ 0x0#7)
  | .cLds64 d a b => some (0xD#4 ++ d ++ a ++ b ++ 0x1#7)
  | .cSts d a b => some (0xD#4 ++ d ++ a ++ b ++ 0x2#7)
  | .cSts64 d a b => some (0xD#4 ++ d ++ a ++ b ++ 0x3#7)
  | .cLdsf d a b => some (0xD#4 ++ d ++ a ++ b ++ 0x4#7)
  | .cLdsfk d a b => some (0xD#4 ++ d ++ a ++ b ++ 0x5#7)
  | .cStse d a b => some (0xD#4 ++ d ++ a ++ b ++ 0x6#7)
  | .cStsf d a b => some (0xD#4 ++ d ++ a ++ b ++ 0x7#7)
  | .cSptag d a b => some (0xD#4 ++ d ++ a ++ b ++ 0x8#7)
  | .cXst d a b => some (0xD#4 ++ d ++ a ++ b ++ 0x9#7)
  | .cAmos d p a b => some (0xD#4 ++ d ++ p ++ a ++ b ++ 0xA#7)
  | .cPushg a b => some (0xE#4 ++ 0x0#7 ++ a ++ b ++ 0x0#7)
  | .cPushgNb p a b => some (0xE#4 ++ 0x1#4 ++ p ++ a ++ b ++ 0x0#7)
  | .cVote d a o => some (0xE#4 ++ 0x0#4 ++ d ++ 0x0#4 ++ a ++ 0x0#5 ++ o ++ 0x1#7)
  | .cBararv b => some (0xE#4 ++ 0x0#9 ++ b ++ 0x2#14)
  | .cBardrop b => some (0xE#4 ++ 0x0#9 ++ b ++ 0x3#14)
  | .cBarwait n b => some (0xE#4 ++ 0x0#9 ++ n ++ b ++ 0x4#7)
  | .cBaraw b => some (0xE#4 ++ 0x0#9 ++ b ++ 0x5#14)
  | .cFence o => some (0xE#4 ++ 0x0#12 ++ o ++ 0x6#14)
  | .cMonw d n b => some (0xE#4 ++ d ++ 0x0#4 ++ n ++ b ++ 0x7#7)
  | .cMwaitb a => some (0xE#4 ++ 0x0#7 ++ a ++ 0x8#14)
  | .mMnop => some (0x0#5 ++ 0x0#27)
  | .mMma h a b s n r c => some (0x1#5 ++ h ++ a ++ b ++ s ++ n ++ r ++ c)
  | .mMmag h a b g s n r c => some (0x2#5 ++ h ++ a ++ b ++ g ++ s ++ n ++ r ++ c)
  | .mMzero h => some (0x3#5 ++ h ++ 0x0#23)
  | .mMloada h a f => some (0x4#5 ++ h ++ a ++ 0x0#4 ++ f ++ 0x0#12)
  | .mMout h a f r s t => some (0x5#5 ++ h ++ a ++ 0x0#4 ++ f ++ r ++ s ++ t ++ 0x0#7)
  | .mMscale h o => some (0x6#5 ++ h ++ 0x0#8 ++ o)
  | .mMrelease h => some (0x7#5 ++ h ++ 0x0#23)
  | .mMbatch b n => some (0x8#5 ++ 0x0#12 ++ b ++ n)
  | _ => none

/-- G major 0x00 by its minor (R56, R57). -/
def candG00 (w : W32) : Option Instr :=
  match (w.extractLsb' 0 8).toNat with
  | 0 => some (.gAdd (w.extractLsb' 20 6) (w.extractLsb' 14 6) (w.extractLsb' 8 6))
  | 1 => some (.gSub (w.extractLsb' 20 6) (w.extractLsb' 14 6) (w.extractLsb' 8 6))
  | 2 => some (.gAnd (w.extractLsb' 20 6) (w.extractLsb' 14 6) (w.extractLsb' 8 6))
  | 3 => some (.gOr (w.extractLsb' 20 6) (w.extractLsb' 14 6) (w.extractLsb' 8 6))
  | 4 => some (.gXor (w.extractLsb' 20 6) (w.extractLsb' 14 6) (w.extractLsb' 8 6))
  | 5 => some (.gAndn (w.extractLsb' 20 6) (w.extractLsb' 14 6) (w.extractLsb' 8 6))
  | 6 => some (.gSll (w.extractLsb' 20 6) (w.extractLsb' 14 6) (w.extractLsb' 8 6))
  | 7 => some (.gSrl (w.extractLsb' 20 6) (w.extractLsb' 14 6) (w.extractLsb' 8 6))
  | 8 => some (.gSra (w.extractLsb' 20 6) (w.extractLsb' 14 6) (w.extractLsb' 8 6))
  | 9 => some (.gRol (w.extractLsb' 20 6) (w.extractLsb' 14 6) (w.extractLsb' 8 6))
  | 10 => some (.gSlt (w.extractLsb' 20 6) (w.extractLsb' 14 6) (w.extractLsb' 8 6))
  | 11 => some (.gSltu (w.extractLsb' 20 6) (w.extractLsb' 14 6) (w.extractLsb' 8 6))
  | 12 => some (.gMin (w.extractLsb' 20 6) (w.extractLsb' 14 6) (w.extractLsb' 8 6))
  | 13 => some (.gMax (w.extractLsb' 20 6) (w.extractLsb' 14 6) (w.extractLsb' 8 6))
  | 14 => some (.gMinu (w.extractLsb' 20 6) (w.extractLsb' 14 6) (w.extractLsb' 8 6))
  | 15 => some (.gMaxu (w.extractLsb' 20 6) (w.extractLsb' 14 6) (w.extractLsb' 8 6))
  | 16 => some (.gSext (w.extractLsb' 20 6) (w.extractLsb' 14 6) (w.extractLsb' 8 6))
  | 17 => some (.gZext (w.extractLsb' 20 6) (w.extractLsb' 14 6) (w.extractLsb' 8 6))
  | 18 => some (.gMovc (w.extractLsb' 20 6) (w.extractLsb' 14 6) (w.extractLsb' 8 3))
  | _ => none

/-- G major 0x01 by its minor (R56, R57). -/
def candG01 (w : W32) : Option Instr :=
  match (w.extractLsb' 0 8).toNat with
  | 0 => some (.gMul (w.extractLsb' 20 6) (w.extractLsb' 14 6) (w.extractLsb' 8 6))
  | 1 => some (.gMulh (w.extractLsb' 20 6) (w.extractLsb' 14 6) (w.extractLsb' 8 6))
  | 2 => some (.gMulhu (w.extractLsb' 20 6) (w.extractLsb' 14 6) (w.extractLsb' 8 6))
  | 3 => some (.gDiv (w.extractLsb' 20 6) (w.extractLsb' 14 6) (w.extractLsb' 8 6))
  | 4 => some (.gDivu (w.extractLsb' 20 6) (w.extractLsb' 14 6) (w.extractLsb' 8 6))
  | 5 => some (.gRem (w.extractLsb' 20 6) (w.extractLsb' 14 6) (w.extractLsb' 8 6))
  | 6 => some (.gRemu (w.extractLsb' 20 6) (w.extractLsb' 14 6) (w.extractLsb' 8 6))
  | 7 => some (.gClz (w.extractLsb' 20 6) (w.extractLsb' 14 6))
  | 8 => some (.gCtz (w.extractLsb' 20 6) (w.extractLsb' 14 6))
  | 9 => some (.gPopc (w.extractLsb' 20 6) (w.extractLsb' 14 6))
  | 10 => some (.gBrev (w.extractLsb' 20 6) (w.extractLsb' 14 6))
  | 11 => some (.gBfx (w.extractLsb' 20 6) (w.extractLsb' 14 6) (w.extractLsb' 8 6))
  | 12 => some (.gBfi (w.extractLsb' 20 6) (w.extractLsb' 14 6) (w.extractLsb' 8 6))
  | 13 => some (.gCwset (w.extractLsb' 20 6) (w.extractLsb' 14 6) (w.extractLsb' 8 4))
  | _ => none

/-- G major 0x12 by its minor (R56, R57). -/
def candG12 (w : W32) : Option Instr :=
  match (w.extractLsb' 0 8).toNat with
  | 0 => some (.gBrr (w.extractLsb' 14 6))
  | 1 => some (.gBrlr (w.extractLsb' 14 6))
  | _ => none

/-- G major 0x17 by its minor (R56, R57). -/
def candG17 (w : W32) : Option Instr :=
  match (w.extractLsb' 0 4).toNat with
  | 0 => some (.gLdp (w.extractLsb' 20 6) (w.extractLsb' 14 6) (w.extractLsb' 8 3) (w.extractLsb' 4 2))
  | 1 => some (.gLdsum (w.extractLsb' 20 6) (w.extractLsb' 14 6) (w.extractLsb' 8 6) (w.extractLsb' 4 2))
  | 2 => some (.gLdf (w.extractLsb' 20 6) (w.extractLsb' 14 6) (w.extractLsb' 8 2))
  | 3 => some (.gSte (w.extractLsb' 20 6) (w.extractLsb' 14 6) (w.extractLsb' 8 2))
  | 4 => some (.gFence (w.extractLsb' 20 3) (w.extractLsb' 14 6) (w.extractLsb' 4 2))
  | 5 => some (.gMonitor (w.extractLsb' 14 6))
  | 6 => some (.gMwaita (w.extractLsb' 20 6) (w.extractLsb' 14 6))
  | 7 => some (.gCopy (w.extractLsb' 20 6) (w.extractLsb' 14 6) (w.extractLsb' 8 6))
  | 8 => some (.gCopys (w.extractLsb' 20 6) (w.extractLsb' 14 6) (w.extractLsb' 8 6))
  | 9 => some (.gCopyz (w.extractLsb' 20 6) (w.extractLsb' 14 6) (w.extractLsb' 8 6))
  | _ => none

/-- G major 0x18 by its minor (R56, R57). -/
def candG18 (w : W32) : Option Instr :=
  match (w.extractLsb' 0 6).toNat with
  | 0 => some (.gEmit (w.extractLsb' 20 4) (w.extractLsb' 14 6) (w.extractLsb' 8 3) (w.extractLsb' 7 1) (w.extractLsb' 6 1))
  | 1 => some (.gEmitk (w.extractLsb' 20 4) (w.extractLsb' 14 6) (w.extractLsb' 13 1) (w.extractLsb' 8 3) (w.extractLsb' 7 1) (w.extractLsb' 6 1))
  | 2 => some (.gEmitm (w.extractLsb' 14 6) (w.extractLsb' 8 3) (w.extractLsb' 7 1) (w.extractLsb' 6 1))
  | 3 => some (.gEmitb (w.extractLsb' 20 3) (w.extractLsb' 14 6) (w.extractLsb' 8 6) (w.extractLsb' 7 1) (w.extractLsb' 6 1))
  | 4 => some (.gPop (w.extractLsb' 20 6) (w.extractLsb' 14 4) (w.extractLsb' 8 3) (w.extractLsb' 7 1))
  | 5 => some (.gQstat (w.extractLsb' 20 6) (w.extractLsb' 14 5))
  | 6 => some (.gGarm (w.extractLsb' 20 4))
  | 7 => some (.gYield)
  | 8 => some (.gRegion)
  | _ => none

/-- G major 0x1A by its minor (R56, R57). -/
def candG1A (w : W32) : Option Instr :=
  match (w.extractLsb' 0 8).toNat with
  | 0 => some (.gMdset (w.extractLsb' 20 4) (w.extractLsb' 14 6) (w.extractLsb' 8 6))
  | 1 => some (.gMwait (w.extractLsb' 20 6) (w.extractLsb' 14 6))
  | 2 => some (.gGsetb (w.extractLsb' 20 4) (w.extractLsb' 14 6) (w.extractLsb' 8 3))
  | _ => none

/-- G major 0x1B by its minor (R56, R57). -/
def candG1B (w : W32) : Option Instr :=
  match (w.extractLsb' 0 8).toNat with
  | 0 => some (.gBarinit (w.extractLsb' 20 5) (w.extractLsb' 14 6))
  | 1 => some (.gBararv (w.extractLsb' 20 5))
  | 2 => some (.gBardrop (w.extractLsb' 20 5))
  | 3 => some (.gBarwait (w.extractLsb' 20 5) (w.extractLsb' 14 6))
  | 4 => some (.gBaraw (w.extractLsb' 20 5))
  | 5 => some (.gGbarinit (w.extractLsb' 20 3))
  | 6 => some (.gGbararv (w.extractLsb' 20 3))
  | 7 => some (.gGbardrop (w.extractLsb' 20 3))
  | 8 => some (.gGbarwait (w.extractLsb' 20 3) (w.extractLsb' 14 6))
  | _ => none

/-- G major 0x1C by its minor (R56, R57). -/
def candG1C (w : W32) : Option Instr :=
  match (w.extractLsb' 0 8).toNat with
  | 0 => some (.gCsrr (w.extractLsb' 20 6) (w.extractLsb' 8 12))
  | 1 => some (.gCsrw (w.extractLsb' 20 6) (w.extractLsb' 8 12))
  | 2 => some (.gCsrs (w.extractLsb' 20 6) (w.extractLsb' 8 12))
  | 3 => some (.gCsrc (w.extractLsb' 20 6) (w.extractLsb' 8 12))
  | 4 => some (.gTrap (w.extractLsb' 14 6) (w.extractLsb' 8 6))
  | 5 => some (.gRte)
  | 6 => some (.gExit)
  | 7 => some (.gEcall (w.extractLsb' 20 6) (w.extractLsb' 14 6) (w.extractLsb' 8 6))
  | 8 => some (.gGtime (w.extractLsb' 20 6))
  | _ => none

/-- G major 0x1D by its minor (R56, R57). -/
def candG1D (w : W32) : Option Instr :=
  match (w.extractLsb' 0 8).toNat with
  | 0 => some (.gTlbi (w.extractLsb' 20 6) (w.extractLsb' 14 6) (w.extractLsb' 8 6))
  | 1 => some (.gSendm (w.extractLsb' 14 6) (w.extractLsb' 13 1) (w.extractLsb' 8 3))
  | 2 => some (.gRecvm (w.extractLsb' 20 6) (w.extractLsb' 14 6) (w.extractLsb' 13 1) (w.extractLsb' 8 3))
  | 3 => some (.gWfi (w.extractLsb' 20 6) (w.extractLsb' 14 6))
  | 4 => some (.gSwapt (w.extractLsb' 20 6) (w.extractLsb' 14 6))
  | _ => none

/-- G major 0x1E by its minor (R56, R57). -/
def candG1E (w : W32) : Option Instr :=
  match (w.extractLsb' 0 8).toNat with
  | 0 => some (.gLset (w.extractLsb' 14 6) (w.extractLsb' 8 6))
  | 1 => some (.gLget (w.extractLsb' 20 6) (w.extractLsb' 8 6))
  | 2 => some (.gLcancel)
  | 3 => some (.gLrepeat (w.extractLsb' 14 6))
  | 4 => some (.gLgo)
  | _ => none

/-- The G instruction that a word's major and minor name (R56). -/
def candG (w : W32) : Option Instr :=
  match (w.extractLsb' 26 6).toNat with
  | 0 => candG00 w
  | 1 => candG01 w
  | 2 => some (.gAddi (w.extractLsb' 20 6) (w.extractLsb' 14 6) (w.extractLsb' 0 14))
  | 3 => some (.gAndi (w.extractLsb' 20 6) (w.extractLsb' 14 6) (w.extractLsb' 0 14))
  | 4 => some (.gOri (w.extractLsb' 20 6) (w.extractLsb' 14 6) (w.extractLsb' 0 14))
  | 5 => some (.gXori (w.extractLsb' 20 6) (w.extractLsb' 14 6) (w.extractLsb' 0 14))
  | 6 => some (.gShi (w.extractLsb' 20 6) (w.extractLsb' 14 6) (w.extractLsb' 12 2) (w.extractLsb' 0 6))
  | 7 => some (.gSlti (w.extractLsb' 20 6) (w.extractLsb' 14 6) (w.extractLsb' 0 14))
  | 8 => some (.gSltiu (w.extractLsb' 20 6) (w.extractLsb' 14 6) (w.extractLsb' 0 14))
  | 9 => some (.gMuli (w.extractLsb' 20 6) (w.extractLsb' 14 6) (w.extractLsb' 0 14))
  | 10 => some (.gLui (w.extractLsb' 20 6) (w.extractLsb' 0 20))
  | 11 => some (.gAuipc (w.extractLsb' 20 6) (w.extractLsb' 0 20))
  | 12 => some (.gCmp (w.extractLsb' 20 3) (w.extractLsb' 14 6) (w.extractLsb' 8 6) (w.extractLsb' 0 8))
  | 13 => some (.gCmpi (w.extractLsb' 23 3) (w.extractLsb' 20 3) (w.extractLsb' 14 6) (w.extractLsb' 0 14))
  | 14 => some (.gCbop (w.extractLsb' 20 3) (w.extractLsb' 14 3) (w.extractLsb' 8 3) (w.extractLsb' 0 8))
  | 15 => some (.gBc (w.extractLsb' 23 3) (w.extractLsb' 22 1) (w.extractLsb' 0 22))
  | 16 => some (.gBa (w.extractLsb' 0 26))
  | 17 => some (.gBl (w.extractLsb' 0 26))
  | 18 => candG12 w
  | 19 => some (.gLd (w.extractLsb' 20 6) (w.extractLsb' 14 6) (w.extractLsb' 12 2) (w.extractLsb' 10 2) (w.extractLsb' 0 10))
  | 20 => some (.gLds (w.extractLsb' 20 6) (w.extractLsb' 14 6) (w.extractLsb' 12 2) (w.extractLsb' 10 2) (w.extractLsb' 0 10))
  | 21 => some (.gSt (w.extractLsb' 20 6) (w.extractLsb' 14 6) (w.extractLsb' 12 2) (w.extractLsb' 10 2) (w.extractLsb' 0 10))
  | 22 => some (.gAmo (w.extractLsb' 20 6) (w.extractLsb' 14 6) (w.extractLsb' 8 6) (w.extractLsb' 4 4) (w.extractLsb' 2 2) (w.extractLsb' 1 1))
  | 23 => candG17 w
  | 24 => candG18 w
  | 25 => some (.gEmitl (w.extractLsb' 22 4) (w.extractLsb' 21 1) (w.extractLsb' 17 4) (w.extractLsb' 0 17))
  | 26 => candG1A w
  | 27 => candG1B w
  | 28 => candG1C w
  | 29 => candG1D w
  | 30 => candG1E w
  | _ => none

/-- C major 8 by its minor (R61). -/
def candC8 (w : W32) : Option Instr :=
  match (w.extractLsb' 0 7).toNat with
  | 0 => some (.cFadd (w.extractLsb' 21 7) (w.extractLsb' 14 7) (w.extractLsb' 7 7))
  | 1 => some (.cFsub (w.extractLsb' 21 7) (w.extractLsb' 14 7) (w.extractLsb' 7 7))
  | 2 => some (.cFmul (w.extractLsb' 21 7) (w.extractLsb' 14 7) (w.extractLsb' 7 7))
  | 3 => some (.cFmin (w.extractLsb' 21 7) (w.extractLsb' 14 7) (w.extractLsb' 7 7))
  | 4 => some (.cFmax (w.extractLsb' 21 7) (w.extractLsb' 14 7) (w.extractLsb' 7 7))
  | 5 => some (.cFabs (w.extractLsb' 21 7) (w.extractLsb' 14 7))
  | 6 => some (.cFneg (w.extractLsb' 21 7) (w.extractLsb' 14 7))
  | 7 => some (.cFrcp (w.extractLsb' 21 7) (w.extractLsb' 14 7))
  | 8 => some (.cFrsq (w.extractLsb' 21 7) (w.extractLsb' 14 7))
  | 9 => some (.cFsqrt (w.extractLsb' 21 7) (w.extractLsb' 14 7))
  | 10 => some (.cFex2 (w.extractLsb' 21 7) (w.extractLsb' 14 7))
  | 11 => some (.cFlg2 (w.extractLsb' 21 7) (w.extractLsb' 14 7))
  | 12 => some (.cFcmpEq (w.extractLsb' 21 3) (w.extractLsb' 14 7) (w.extractLsb' 7 7))
  | 13 => some (.cFcmpNe (w.extractLsb' 21 3) (w.extractLsb' 14 7) (w.extractLsb' 7 7))
  | 14 => some (.cFcmpLt (w.extractLsb' 21 3) (w.extractLsb' 14 7) (w.extractLsb' 7 7))
  | 15 => some (.cFcmpLe (w.extractLsb' 21 3) (w.extractLsb' 14 7) (w.extractLsb' 7 7))
  | 16 => some (.cFcmpGt (w.extractLsb' 21 3) (w.extractLsb' 14 7) (w.extractLsb' 7 7))
  | 17 => some (.cFcmpGe (w.extractLsb' 21 3) (w.extractLsb' 14 7) (w.extractLsb' 7 7))
  | 18 => some (.cFcmpUn (w.extractLsb' 21 3) (w.extractLsb' 14 7) (w.extractLsb' 7 7))
  | 19 => some (.cFclass (w.extractLsb' 21 7) (w.extractLsb' 14 7))
  | _ => none

/-- C major 9 by its minor (R61). -/
def candC9 (w : W32) : Option Instr :=
  match (w.extractLsb' 0 7).toNat with
  | 0 => some (.cIadd (w.extractLsb' 21 7) (w.extractLsb' 14 7) (w.extractLsb' 7 7))
  | 1 => some (.cIsub (w.extractLsb' 21 7) (w.extractLsb' 14 7) (w.extractLsb' 7 7))
  | 2 => some (.cImul (w.extractLsb' 21 7) (w.extractLsb' 14 7) (w.extractLsb' 7 7))
  | 3 => some (.cImin (w.extractLsb' 21 7) (w.extractLsb' 14 7) (w.extractLsb' 7 7))
  | 4 => some (.cImax (w.extractLsb' 21 7) (w.extractLsb' 14 7) (w.extractLsb' 7 7))
  | 5 => some (.cIand (w.extractLsb' 21 7) (w.extractLsb' 14 7) (w.extractLsb' 7 7))
  | 6 => some (.cIor (w.extractLsb' 21 7) (w.extractLsb' 14 7) (w.extractLsb' 7 7))
  | 7 => some (.cIxor (w.extractLsb' 21 7) (w.extractLsb' 14 7) (w.extractLsb' 7 7))
  | 8 => some (.cIandn (w.extractLsb' 21 7) (w.extractLsb' 14 7) (w.extractLsb' 7 7))
  | 9 => some (.cIshl (w.extractLsb' 21 7) (w.extractLsb' 14 7) (w.extractLsb' 7 7))
  | 10 => some (.cIshr (w.extractLsb' 21 7) (w.extractLsb' 14 7) (w.extractLsb' 7 7))
  | 11 => some (.cIsra (w.extractLsb' 21 7) (w.extractLsb' 14 7) (w.extractLsb' 7 7))
  | 12 => some (.cIabs (w.extractLsb' 21 7) (w.extractLsb' 14 7))
  | 13 => some (.cIneg (w.extractLsb' 21 7) (w.extractLsb' 14 7))
  | 14 => some (.cIpopc (w.extractLsb' 21 7) (w.extractLsb' 14 7))
  | 15 => some (.cIclz (w.extractLsb' 21 7) (w.extractLsb' 14 7))
  | 16 => some (.cIbrev (w.extractLsb' 21 7) (w.extractLsb' 14 7))
  | 17 => some (.cIcmpEq (w.extractLsb' 21 3) (w.extractLsb' 14 7) (w.extractLsb' 7 7))
  | 18 => some (.cIcmpNe (w.extractLsb' 21 3) (w.extractLsb' 14 7) (w.extractLsb' 7 7))
  | 19 => some (.cIcmpLt (w.extractLsb' 21 3) (w.extractLsb' 14 7) (w.extractLsb' 7 7))
  | 20 => some (.cIcmpLe (w.extractLsb' 21 3) (w.extractLsb' 14 7) (w.extractLsb' 7 7))
  | 21 => some (.cIcmpGt (w.extractLsb' 21 3) (w.extractLsb' 14 7) (w.extractLsb' 7 7))
  | 22 => some (.cIcmpGe (w.extractLsb' 21 3) (w.extractLsb' 14 7) (w.extractLsb' 7 7))
  | 23 => some (.cIbfx (w.extractLsb' 21 7) (w.extractLsb' 14 7) (w.extractLsb' 7 7))
  | _ => none

/-- C major 10 by its minor (R61). -/
def candC10 (w : W32) : Option Instr :=
  match (w.extractLsb' 0 7).toNat with
  | 0 => some (.cMov (w.extractLsb' 21 7) (w.extractLsb' 14 7))
  | 1 => some (.cCvt (w.extractLsb' 21 7) (w.extractLsb' 14 7) (w.extractLsb' 7 7))
  | 2 => some (.cPack (w.extractLsb' 21 7) (w.extractLsb' 14 7) (w.extractLsb' 7 7))
  | 3 => some (.cUnpkl (w.extractLsb' 21 7) (w.extractLsb' 14 7))
  | 4 => some (.cUnpkh (w.extractLsb' 21 7) (w.extractLsb' 14 7))
  | 5 => some (.cLaneid (w.extractLsb' 21 7))
  | 6 => some (.cShfl (w.extractLsb' 21 7) (w.extractLsb' 14 7) (w.extractLsb' 7 7))
  | 7 => some (.cShflup (w.extractLsb' 21 7) (w.extractLsb' 14 7) (w.extractLsb' 7 7))
  | 8 => some (.cShfldn (w.extractLsb' 21 7) (w.extractLsb' 14 7) (w.extractLsb' 7 7))
  | 9 => some (.cShflx (w.extractLsb' 21 7) (w.extractLsb' 14 7) (w.extractLsb' 7 7))
  | 10 => some (.cBcast (w.extractLsb' 21 7) (w.extractLsb' 14 7))
  | 11 => some (.cBallot (w.extractLsb' 21 3) (w.extractLsb' 14 7))
  | 12 => some (.cRedadd (w.extractLsb' 21 7) (w.extractLsb' 14 7))
  | 13 => some (.cRedmax (w.extractLsb' 21 7) (w.extractLsb' 14 7))
  | 14 => some (.cRedmin (w.extractLsb' 21 7) (w.extractLsb' 14 7))
  | _ => none

/-- C major 11 by its minor (R61). -/
def candC11 (w : W32) : Option Instr :=
  match (w.extractLsb' 0 7).toNat with
  | 0 => some (.cPand (w.extractLsb' 21 3) (w.extractLsb' 14 3) (w.extractLsb' 7 3))
  | 1 => some (.cPor (w.extractLsb' 21 3) (w.extractLsb' 14 3) (w.extractLsb' 7 3))
  | 2 => some (.cPxor (w.extractLsb' 21 3) (w.extractLsb' 14 3) (w.extractLsb' 7 3))
  | 3 => some (.cPnot (w.extractLsb' 21 3) (w.extractLsb' 14 3))
  | 4 => some (.cPset (w.extractLsb' 21 3) (w.extractLsb' 14 7))
  | 5 => some (.cPget (w.extractLsb' 21 7) (w.extractLsb' 14 3))
  | 6 => some (.cIf (w.extractLsb' 14 3))
  | 7 => some (.cElse)
  | 8 => some (.cEndif)
  | 9 => some (.cRepeat (w.extractLsb' 14 7))
  | 10 => some (.cBrkif (w.extractLsb' 14 3))
  | 11 => some (.cSetmode (w.extractLsb' 14 7))
  | 13 => some (.cSigchk)
  | 14 => some (.cExitg)
  | 15 => some (.cNop)
  | 16 => some (.cTrapg (w.extractLsb' 14 7))
  | _ => none

/-- C major 12 by its kind (R62). -/
def candC12 (w : W32) : Option Instr :=
  match (w.extractLsb' 4 3).toNat with
  | 0 => some (.cLd (w.extractLsb' 21 7) (w.extractLsb' 17 2) (w.extractLsb' 14 3) (w.extractLsb' 7 7) (w.extractLsb' 2 2))
  | 1 => some (.cLd64 (w.extractLsb' 21 7) (w.extractLsb' 14 3) (w.extractLsb' 7 7) (w.extractLsb' 2 2))
  | 2 => some (.cSt (w.extractLsb' 21 7) (w.extractLsb' 19 1) (w.extractLsb' 17 2) (w.extractLsb' 14 3) (w.extractLsb' 7 7) (w.extractLsb' 2 2))
  | 3 => some (.cSt64 (w.extractLsb' 21 7) (w.extractLsb' 19 1) (w.extractLsb' 14 3) (w.extractLsb' 7 7) (w.extractLsb' 2 2))
  | 4 => some (.cAmo (w.extractLsb' 21 7) (w.extractLsb' 17 4) (w.extractLsb' 14 3) (w.extractLsb' 7 7) (w.extractLsb' 2 2))
  | 5 => some (.cLdp (w.extractLsb' 21 7) (w.extractLsb' 17 3) (w.extractLsb' 14 3) (w.extractLsb' 7 7) (w.extractLsb' 2 2))
  | 6 => some (.cGather (w.extractLsb' 21 7) (w.extractLsb' 17 4) (w.extractLsb' 14 3) (w.extractLsb' 7 7) (w.extractLsb' 2 2))
  | _ => none

/-- C major 13 by its minor (R61). -/
def candC13 (w : W32) : Option Instr :=
  match (w.extractLsb' 0 7).toNat with
  | 0 => some (.cLds (w.extractLsb' 21 7) (w.extractLsb' 14 7) (w.extractLsb' 7 7))
  | 1 => some (.cLds64 (w.extractLsb' 21 7) (w.extractLsb' 14 7) (w.extractLsb' 7 7))
  | 2 => some (.cSts (w.extractLsb' 21 7) (w.extractLsb' 14 7) (w.extractLsb' 7 7))
  | 3 => some (.cSts64 (w.extractLsb' 21 7) (w.extractLsb' 14 7) (w.extractLsb' 7 7))
  | 4 => some (.cLdsf (w.extractLsb' 21 7) (w.extractLsb' 14 7) (w.extractLsb' 7 7))
  | 5 => some (.cLdsfk (w.extractLsb' 21 7) (w.extractLsb' 14 7) (w.extractLsb' 7 7))
  | 6 => some (.cStse (w.extractLsb' 21 7) (w.extractLsb' 14 7) (w.extractLsb' 7 7))
  | 7 => some (.cStsf (w.extractLsb' 21 7) (w.extractLsb' 14 7) (w.extractLsb' 7 7))
  | 8 => some (.cSptag (w.extractLsb' 21 7) (w.extractLsb' 14 7) (w.extractLsb' 7 7))
  | 9 => some (.cXst (w.extractLsb' 21 7) (w.extractLsb' 14 7) (w.extractLsb' 7 7))
  | 10 => some (.cAmos (w.extractLsb' 21 7) (w.extractLsb' 17 4) (w.extractLsb' 14 3) (w.extractLsb' 7 7))
  | _ => none

/-- C major 14 by its minor; PUSHG has a plain and an nb form (R351). -/
def candC14 (w : W32) : Option Instr :=
  match (w.extractLsb' 0 7).toNat with
  | 0 => some (if w.getLsbD 24 then .cPushgNb (w.extractLsb' 21 3) (w.extractLsb' 14 7) (w.extractLsb' 7 7) else .cPushg (w.extractLsb' 14 7) (w.extractLsb' 7 7))
  | 1 => some (.cVote (w.extractLsb' 21 3) (w.extractLsb' 14 3) (w.extractLsb' 7 2))
  | 2 => some (.cBararv (w.extractLsb' 14 5))
  | 3 => some (.cBardrop (w.extractLsb' 14 5))
  | 4 => some (.cBarwait (w.extractLsb' 14 5) (w.extractLsb' 7 7))
  | 5 => some (.cBaraw (w.extractLsb' 14 5))
  | 6 => some (.cFence (w.extractLsb' 14 2))
  | 7 => some (.cMonw (w.extractLsb' 21 7) (w.extractLsb' 14 3) (w.extractLsb' 7 7))
  | 8 => some (.cMwaitb (w.extractLsb' 14 7))
  | _ => none

/-- The C instruction that a word's major and minor name (R61). -/
def candC (w : W32) : Option Instr :=
  match (w.extractLsb' 28 4).toNat with
  | 15 => some (.cClauseHeader (w.extractLsb' 16 12) (w.extractLsb' 12 4) (w.extractLsb' 8 4) (w.extractLsb' 4 4))
  | 0 => some (.cFma (w.extractLsb' 21 7) (w.extractLsb' 14 7) (w.extractLsb' 7 7) (w.extractLsb' 0 7))
  | 1 => some (.cFms (w.extractLsb' 21 7) (w.extractLsb' 14 7) (w.extractLsb' 7 7) (w.extractLsb' 0 7))
  | 2 => some (.cFnma (w.extractLsb' 21 7) (w.extractLsb' 14 7) (w.extractLsb' 7 7) (w.extractLsb' 0 7))
  | 3 => some (.cImad (w.extractLsb' 21 7) (w.extractLsb' 14 7) (w.extractLsb' 7 7) (w.extractLsb' 0 7))
  | 4 => some (.cImadh (w.extractLsb' 21 7) (w.extractLsb' 14 7) (w.extractLsb' 7 7) (w.extractLsb' 0 7))
  | 5 => some (.cSelv (w.extractLsb' 21 7) (w.extractLsb' 14 7) (w.extractLsb' 7 7) (w.extractLsb' 0 3))
  | 6 => some (.cDp4a (w.extractLsb' 21 7) (w.extractLsb' 14 7) (w.extractLsb' 7 7) (w.extractLsb' 0 7))
  | 7 => some (.cShf (w.extractLsb' 21 7) (w.extractLsb' 14 7) (w.extractLsb' 7 7) (w.extractLsb' 0 7))
  | 8 => candC8 w
  | 9 => candC9 w
  | 10 => candC10 w
  | 11 => candC11 w
  | 12 => candC12 w
  | 13 => candC13 w
  | 14 => candC14 w
  | _ => none

/-- The M instruction that a word's op names (R70). -/
def candM (w : W32) : Option Instr :=
  match (w.extractLsb' 27 5).toNat with
  | 0 => some (.mMnop)
  | 1 => some (.mMma (w.extractLsb' 23 4) (w.extractLsb' 19 4) (w.extractLsb' 15 4) (w.extractLsb' 3 12) (w.extractLsb' 2 1) (w.extractLsb' 1 1) (w.extractLsb' 0 1))
  | 2 => some (.mMmag (w.extractLsb' 23 4) (w.extractLsb' 19 4) (w.extractLsb' 15 4) (w.extractLsb' 11 4) (w.extractLsb' 3 8) (w.extractLsb' 2 1) (w.extractLsb' 1 1) (w.extractLsb' 0 1))
  | 3 => some (.mMzero (w.extractLsb' 23 4))
  | 4 => some (.mMloada (w.extractLsb' 23 4) (w.extractLsb' 19 4) (w.extractLsb' 12 3))
  | 5 => some (.mMout (w.extractLsb' 23 4) (w.extractLsb' 19 4) (w.extractLsb' 12 3) (w.extractLsb' 9 3) (w.extractLsb' 8 1) (w.extractLsb' 7 1))
  | 6 => some (.mMscale (w.extractLsb' 23 4) (w.extractLsb' 0 15))
  | 7 => some (.mMrelease (w.extractLsb' 23 4))
  | 8 => some (.mMbatch (w.extractLsb' 10 5) (w.extractLsb' 0 10))
  | _ => none

/-- Keep a candidate that is well formed and whose word is the one given. -/
def checked (w : W32) (c : Option Instr) : Option Instr :=
  match c with
  | some i => if i.wf && encodeWord i == some w then some i else none
  | none => none

/-- The generator's decoder. No answer: the word is no G instruction (R71). -/
def decodeG (w : W32) : Option Instr := checked w (candG w)

/-- A group's decoder. No answer: the word is no C instruction (R71). -/
def decodeC (w : W32) : Option Instr := checked w (candC w)

/-- The matrix unit's decoder. No answer: the word is no M instruction (R70). -/
def decodeM (w : W32) : Option Instr := checked w (candM w)

/-- A generator's word as an instruction: a word that is none is ILLEGAL_G_WORD (R71). -/
def decodeGTotal (w : W32) : Instr := (decodeG w).getD (.eIllegalGWord w)

/-- A group's word as an instruction: a word that is none is ILLEGAL_C_WORD (R71). -/
def decodeCTotal (w : W32) : Instr := (decodeC w).getD (.eIllegalCWord w)

/-- The matrix unit's word as an instruction: a word that is none is ILLEGAL_M_WORD (R70). -/
def decodeMTotal (w : W32) : Instr := (decodeM w).getD (.eIllegalMWord w)

/-- Type, length and fields of a packet header (R324). -/
def packetType (h : W64) : Nat := (h.extractLsb' 56 8).toNat

/-- What a header and the doublewords after it hold beside the type (R324). -/
def packetOf (h : W64) (body : List W64) : Packet :=
  { len := h.extractLsb' 48 8, hdr := h.extractLsb' 0 48, body := body }

/-- The packet a header names (R324, R327). A type that is not assigned names none. SIGNAL is two instructions by its
operation; an operation that is neither is checked, and refused, as a WRITE. -/
def decodePacket (h : W64) : Option Instr :=
  match packetType h with
  | 0 => some .pNopPacket
  | 1 => some .pLaunch
  | 2 => some .pLaunchi
  | 3 => some .pCopyPacket
  | 4 => some .pCallib
  | 5 => some .pPred
  | 6 => some .pLoop
  | 7 => some .pEndloop
  | 8 => some (if h.extractLsb' 0 3 = 1#3 then .pSignalAdd else .pSignalWrite)
  | 9 => some .pWaitmem
  | 10 => some .pFetchfence
  | 11 => some .pDrain
  | 12 => some .pSetprio
  | 13 => some .pTimestamp
  | _ => none

/-- The packet's type code (R327). -/
def packetCode (i : Instr) : Option (BitVec 8) :=
  match i with
  | .pNopPacket => some 0
  | .pLaunch => some 1
  | .pLaunchi => some 2
  | .pCopyPacket => some 3
  | .pCallib => some 4
  | .pPred => some 5
  | .pLoop => some 6
  | .pEndloop => some 7
  | .pSignalWrite | .pSignalAdd => some 8
  | .pWaitmem => some 9
  | .pFetchfence => some 10
  | .pDrain => some 11
  | .pSetprio => some 12
  | .pTimestamp => some 13
  | _ => none

/-- The doublewords of a packet (R324). -/
def encodePacket (i : Instr) (k : Packet) : Option (List W64) :=
  match packetCode i with
  | some t => some ((t ++ k.len ++ k.hdr : BitVec 64) :: k.body)
  | none => none

/-- The words of an instruction of the three kinds; a packet's doublewords are encodePacket's, an event has none. -/
def encode (i : Instr) : List W32 :=
  match encodeWord i with
  | some w => [w]
  | none => []

/-- The instruction a table row's bits stand for. The three kinds of word share their bits (R17): a word is read as a
G-word, then as an M-word, then as a C-word, and the first decoder that knows it decides (assumption 6). -/
def decodeTableWord (nbits w : Nat) : Option Instr :=
  if nbits ≤ 32 then
    let b : W32 := BitVec.ofNat 32 w
    (decodeG b).or ((decodeM b).or (decodeC b))
  else none

end Sys2Proof
end

