-- ==== Sys2Proof/Config.lean ====
section
/-! DEFINITION. Config.lean: whose turn it can be, what one implementation fixes, and the free values: constants without
a body, of which nothing can be proved. A statement that holds of the model holds whatever they are. -/

namespace Sys2Proof

/-- Whose turn it is. -/
inductive Turn where
  /-- one fabric clock passes -/
  | tick
  /-- the generator issue port of a core -/
  | gen (core : Nat)
  /-- the groups of a core that retire in the core clock that begins (R341) -/
  | exits (core : Nat)
  /-- a supervisor or prologue context -/
  | solo (id : Nat)
  /-- an issue slot of a core -/
  | issue (core slot : Nat)
  /-- the first body word of the clause whose header has just issued -/
  | body (gid slot : Nat)
  | matrix (core : Nat)
  | pewter (iod : Nat)
  | event (e : Instr) (x : EvArg)
deriving DecidableEq, Repr, Inhabited

namespace Config

/-- Which turn is taken while none is due, by the number of turns taken (assumption 2). -/
opaque schedule : Nat → Turn

/-- A value that the spec leaves open, by the number of free values used before it (assumption 8). -/
opaque freeWord : Nat → W64

/-- Whether a cache has lost a line copy since it was filled, by the number of free values used (assumption 10). -/
opaque evicted : Nat → Bool

/-- Set of a line in its L2 slice, among 256 (R197; assumption 10). -/
opaque l2Set : Nat → Nat

/-- Whether a sector of HBM4E lies in the second stack of its die (assumption 109). -/
opaque upperStack : Nat → Bool

/-- A byte that a read of an outside target returns: host memory, CXL memory or a peer (assumption 11). -/
opaque outsideByte : Nat → Byte

/-- Whether the host's IOMMU translates a page that it is asked for, by the number of free values used (R408; assumption 123). -/
opaque hostMaps : Nat → Bool

/-- The copies of a slot of a send window that a read finds bad, as two bits, by the number of free values used (R412). -/
opaque badCopies : Nat → Nat

/-- The SHA-256 that R416 and R418 name and do not define (assumption 12). -/
opaque sha256 : List Byte → List Byte

/-- Whether an RSASSA-PSS signature of R416 verifies: key, message, signature (assumption 12). -/
opaque pssVerify : List Byte → List Byte → List Byte → Bool

/-- The RSASSA-PSS signature of R418 with the device identity key (assumption 12). -/
opaque pssSign : List Byte → List Byte

/-- The certificate chain and public half of the identity key (assumption 12). -/
opaque identity : List Byte

/-- The public key that stage s gives for key index k (assumption 12). -/
opaque publicKey : Nat → List Byte

/-- Smify ROM revision fused at manufacture (assumption 4). -/
opaque romRevision : W64

/-- Fused SHA-256 hashes of the four boot keys (assumption 4). -/
opaque fusedHash : Nat → List Byte

/-- Fused minimum security version of boot stages 1 to 3 (assumption 4). -/
opaque fusedMinimum : Nat → W32

/-- Bytes that a die's DMEMCAP shows on a full part: 93 GB of HBM4E, 744 GB of LPDDR-6 (R197, R211). -/
def fullCapacity (die : Nat) : Nat := if die < 8 then 93000000000 else 744000000000

end Config

end Sys2Proof
end

