-- ==== Sys2Proof/Machine/State.lean ====
section
/-! DEFINITION. Machine/State.lean: everything the spec gives the machine, as plain data. Tables are keyed lists; an
unlisted core, die or I/O die stands as its reset value. A team is named by core × 4 + slot, a supervisor context by
4,096 + die × 4 + number, a prologue context by 4,136 + die, a group by team × 16 + index. -/

namespace Sys2Proof.Machine

/-- Why the machine stops. Closed; every other trouble of the part is a trap it takes (R163). -/
inductive Fault where
  /-- A G-word's meaning was asked for while no generator context stands at turn. Raised by the meanings of G-words
  only. Safe: the device gives a G-word to a context. -/
  | noContext
  /-- A C-word's meaning was asked for while no group stands at turn. Raised by C-words only. Safe. -/
  | noGroup
  /-- An M-word's meaning was asked for while no matrix unit stands at turn. Raised by M-words only. Safe. -/
  | noMatrix
  /-- A packet's meaning was asked for while no Pewter lane stands at turn. Raised by packets only. Safe. -/
  | noLane
deriving DecidableEq, Repr

/-- Why a meaning is refused. -/
inductive Refusal where
  /-- An instruction that has no meaning in this model yet, by its mnemonic. Raised by exec only. Safe. -/
  | notModelled (mnemonic : String)
deriving DecidableEq, Repr

/-! ## Trap records -/

/-- A trap record, TREC0 to TREC7 (R38, R165). -/
structure TrapRec where
  t0 : W64 := 0
  t1 : W64 := 0
  t2 : W64 := 0
  t3 : W64 := 0
  t4 : W64 := 0
  t5 : W64 := 0
  t6 : W64 := 0
  t7 : W64 := 0
deriving DecidableEq, Repr, Inhabited

/-- An agent of a team (R196: groups, generator, matrix unit). -/
inductive Agent where
  | gen
  | grp (g : Nat)
  | mat
deriving DecidableEq, Repr, Inhabited

/-- Whose permit a level-two record takes (R174, R307, R458). -/
inductive PermitOf where
  | core (c : Nat)
  | pewter (iod : Nat)
  | dist (die : Nat)
deriving DecidableEq, Repr, Inhabited

/-- Who waits for the reply to a level-two record (R173, R273, R325, R458). -/
inductive Source where
  | agent (tid : Nat) (a : Agent)
  | prologue (die : Nat)
  | sup (id : Nat)
  /-- a copy engine, for the operation of a serial number -/
  | engine (eng op : Nat)
  /-- the lane that a queue of a Pewter is bound to -/
  | lane (iod q : Nat)
  | signal (lid : Nat)
  /-- an agent of a team that is swapped out, by the name that the team bears until it returns -/
  | out (name : Nat) (a : Agent)
  | nobody
deriving DecidableEq, Repr, Inhabited

/-- A level-two record on its way to a die fault queue, or in it (R172, R174, R322). -/
structure Rec2 where
  kind : Nat := 0
  /-- doubleword 0x00 -/
  head : W64 := 0
  tag : W64 := 0
  body : TrapRec := {}
  die : Nat := 0
  permit : PermitOf := .core 0
  src : Source := .nobody
  /-- the team, for a record a kill or park makes -/
  tid : Option Nat := none
  page : Nat := 0
  pageSize : Nat := 0
  /-- back-off (R174): the wait now in force and the clock of the next try; 0 before the first -/
  wait : Nat := 0
  nextTry : Nat := 0
deriving DecidableEq, Repr, Inhabited

/-! ## The generator context (R29 to R39) -/

/-- What a generator context waits for (R196). -/
inductive Wait where
  | ready
  | barrier (bn : Nat) (phase : Bool) (gang : Bool)
  | tag (off : Nat) (full : Bool)
  | monitor
  | queue (target : Nat)
  | returnQueue (g : Nat)
  | batch (b : Nat)
  | parked
  | region
  | gangRegion (gb : Nat) (drop : Bool)
  | reply
  | held
  | exit
  /-- hold-back is to hold no store of the team, nor, for a release, any up to a serial number (R186, R236) -/
  | irrevocable (upTo : Nat)
  | token
  | kqueue (g : Nat)
  /-- a FENCE that is completing, and the stores that it waits for, by serial number (R236, R269) -/
  | fence (upTo : Nat)
  /-- a release store has executed: its scope, and the stores that release completion waits for (R111, R236) -/
  | drain (scope upTo : Nat)
  /-- room in hold-back or in a copy engine's queue: no blocking point (R216, R273) -/
  | room
  /-- a copy engine's write of the line (R204) -/
  | owned
  /-- the recall of another core's lease: lines of which the atomic is attempted here, and all its lines (R258, R380) -/
  | lease (here all : List Nat)
  | message
  | wake
  /-- TLBI's drain, with the clock of its edge (R368) -/
  | tlbi (since : Nat)
  | yield
  | page
  | watchdog
  /-- after a rollback, until every pending token operation has completed (R32) -/
  | rolling
deriving DecidableEq, Repr, Inhabited

/-- A waiter slot on a 128-byte line (R270, R271, R379). -/
structure Monitor where
  line : Nat := 0
  woken : Bool := false
  /-- die of its agent, and serial number of the request that arms it on another device (R379) -/
  die : Nat := 0
  src : Option Nat := none
deriving DecidableEq, Repr, Inhabited

/-- The registers of one generator context. -/
structure Ctx where
  /-- s1 to s63; s0 is never listed (R29) -/
  s : Sparse 64 := []
  c : BitVec 8 := 0
  pc : BitVec 48 := 0
  tok : W64 := 0
  gmode : W32 := 0
  tvec : W64 := 0
  tstatus : W32 := 0
  tepc : W64 := 0
  regpc : BitVec 48 := 0
  pendEntry : BitVec 48 := 0
  pstat : W32 := 0
  trec : TrapRec := {}
  /-- queued records, oldest first; TQDEPTH is their number (R38, R170) -/
  tq : List TrapRec := []
  wait : Wait := .ready
  /-- the record of a G-fault that waits for the context's pending token words (R164) -/
  pended : Option TrapRec := none
  monitor : Option Monitor := none
  /-- time in ns at which the watchdog expires, while a handler runs (R171) -/
  watch : Option Nat := none
  /-- time of the delivery that the watchdog counts from, in ns -/
  delivered : Nat := 0
  /-- clock at which a YIELD ends, and the contexts that have issued since (R350) -/
  yieldEnd : Nat := 0
  yieldSeen : List Nat := []
  /-- supervisor CSRs (R415) -/
  sasid : BitVec 16 := 0
  supper : Bool := false
  /-- pending MWAIT tokens: batch, destination, and the pc of the MWAIT (R195, R298) -/
  mwaits : List (Nat × Nat × BitVec 48) := []
  /-- the parked access: address, access code, pending-invalid, order of parking (R176, R177) -/
  parkVa : W64 := 0
  parkCode : W64 := 0
  parkPi : Bool := false
  parkSeq : Nat := 0
  parkSince : Nat := 0
  parkWord : W32 := 0
  /-- deadline of the MWAITA or WFI that waits (R131, R270) -/
  deadline : W64 := 0
  /-- destination of the ECALL that waits, and a reply that came while the team was out (R128) -/
  replyTo : BitVec 6 := 0
  reply : Option W64 := none
  /-- words issued, counted so that a turn can tell whether its word issued (the model's own) -/
  issues : Nat := 0
  /-- the barrier at which the BARAW at pc has arrived, and the phase that it awaits (R394) -/
  arrived : Option (Nat × Bool) := none
deriving DecidableEq, Repr, Inhabited

/-! ## Groups (R40 to R48, R151) -/

/-- What an entry of an issue queue or matrix queue is (R194, R63, R349). -/
inductive EntryKind where
  | word
  | marker
  | gsetb (n : Nat)
  | descriptor (n : Nat) (high : Bool)
  | rearm
deriving DecidableEq, Repr, Inhabited

/-- An entry of a group's issue queue or a team's matrix queue, retained ones included (R74, R185, R194). -/
structure QEntry where
  kind : EntryKind := .word
  val : W64 := 0
  pc : BitVec 48 := 0
  consumed : Bool := false
  /-- clock at which the entry was pushed; it counts as arrived from the next core clock (R65) -/
  at_ : Nat := 0
  /-- copy operations issued anywhere, and M-words pushed to the team, before the push (R228) -/
  mark : Nat := 0
  mws : Nat := 0
deriving DecidableEq, Repr, Inhabited

/-- A place of the K queue (R343): the constant, whether popped, and the REGIONs issued before its push. -/
structure KEntry where
  val : W32 := 0
  popped : Bool := false
  epoch : Nat := 0
deriving DecidableEq, Repr, Inhabited

/-- A place of the return queue (R353). -/
structure REntry where
  val : W64 := 0
  popped : Bool := false
  pushed : Nat := 0
  poppedAt : Nat := 0
deriving DecidableEq, Repr, Inhabited

/-- An entry of the reconvergence stack (R45, R150). -/
structure Recon where
  mask : Lanes := 0
  mode : W32 := 0
  els : Lanes := 0
deriving DecidableEq, Repr, Inhabited

/-- What a long-latency word does when it completes (R249). -/
inductive LongOp where
  /-- a global load of 1, 2, 4 or 8 bytes into v[d] -/
  | load (size : Nat)
  /-- a probing load: the word into v[d], and the lanes loaded into a predicate -/
  | probe (p : Nat)
  /-- a load that gathers the sum over the copies of its page; true for FP32 -/
  | gather (fp : Bool)
  /-- a global store; a release waits for release completion -/
  | store (release : Bool) (scope : Nat)
  /-- a scratchpad load into v[d]: the data were taken at issue -/
  | result (wide : Bool)
  /-- a scratchpad store, tag write or exchange store -/
  | plain
deriving DecidableEq, Repr, Inhabited

/-- What a page's entry says of its lines: OS mode, and its hint identifier (R362, R365). -/
structure PageKind where
  os : Bool := false
  hint : Nat := 0
deriving DecidableEq, Repr, Inhabited

/-- One lane's access of a pending word: lane, address as software gave it, physical addresses of the copies read. -/
structure LaneAcc where
  lane : Nat := 0
  va : W64 := 0
  pas : List Nat := []
  os : PageKind := {}
deriving DecidableEq, Repr, Inhabited

/-- A long-latency word that has issued and not completed (R67, R249). -/
structure Pending where
  op : LongOp := .plain
  word : W32 := 0
  pc : BitVec 48 := 0
  esn : W32 := 0
  d : BitVec 7 := 0
  flag : Option Nat := none
  issued : Nat := 0
  floor : Nat := 0
  acquire : Bool := false
  scope : Nat := 0
  promote : Bool := false
  accs : List LaneAcc := []
  /-- lane values once the access has been performed -/
  data : Option (List (Nat × W64)) := none
  /-- poison came back: the lowest such lane's address, and the lanes (R248) -/
  poison : Option W64 := none
  bad : Lanes := 0
  /-- access code (R165) -/
  code : W64 := 0
  /-- abandoned by a rollback: the flag falls at completion and nothing is written (R189, R388) -/
  dead : Bool := false
  /-- translation used, for the drain of a TLBI (R368): address space and address -/
  asid : Nat := 0
  /-- hold-back serial numbers of its own and earlier stores, for a release (R236) -/
  upTo : Nat := 0
deriving DecidableEq, Repr, Inhabited

/-- The clause a group is in (R64 to R68, R152). -/
structure Clause where
  words : List QEntry := []
  /-- ESN of each body word consumed so far -/
  esns : List W32 := []
  pos : Nat := 0
  flagA : Option Nat := none
  flagB : Option Nat := none
  /-- a long-latency word of the clause has issued -/
  first : Bool := true
  /-- clock at which the header issued -/
  headerClk : Nat := 0
deriving DecidableEq, Repr, Inhabited

/-- What a group waits for after a word has issued, or holds it before the next (R196, R320). -/
inductive GWait where
  | ready
  | barrier (bn : Nat) (phase : Bool)
  /-- a FENCE that is completing: order, scope, engines, and the stores, copies and M-words it waits for (R269) -/
  | fence (order scope engines stores copies mws : Nat)
  | monitor
  | monRetry (at_ : Nat)
  | tag (off : Nat) (full : Bool)
  | kqueue
  | returnQueue
  | batch (b : Nat)
  | irrevocable (upTo : Nat)
  | parked
  | held
  | flag
  | holdBack
  /-- room in egress, the host's translation, a promoted release, or the arming of a slot far off (R218, R230, R379, R408) -/
  | room
  /-- a copy engine's write of a line (R204) -/
  | owned
  /-- the recall of leases: lines of which the atomics are attempted here, and all the lines (R258, R380) -/
  | lease (here all : List Nat)
  | clause
  | page
deriving DecidableEq, Repr, Inhabited

/-- What the last core-clock edge saw of a group (R125, R348, R388): its views, GFPX, its flags and its QSTAT. -/
structure Edge where
  sig : W32 := 0xFFFFFFFF#32
  esn : W32 := 0
  park : W64 := 0
  fpx : BitVec 5 := 0
  cf : Sparse 6 := []
  stat : W64 := 0x10000200040#64
deriving DecidableEq, Repr, Inhabited

/-- The registers of one group. -/
structure Group where
  /-- v0 to v126 by register × 32 + lane -/
  v : Sparse 32 := []
  p : Sparse 32 := []
  mode : W32 := 0
  ab : Sparse 64 := []
  cf : Sparse 6 := []
  active : Lanes := 0xFFFFFFFF#32
  stack : List Recon := []
  fpx : BitVec 5 := 0
  sig : W32 := 0xFFFFFFFF#32
  esn : W32 := 0
  resn : W32 := 0
  rmode : W32 := 0
  park : W64 := 0
  loopOn : Bool := false
  loopLeft : BitVec 16 := 0
  loopStart : BitVec 4 := 0
  loopMask : Lanes := 0
  loopDepth : BitVec 5 := 0
  armed : Bool := true
  /-- a marker has been consumed since admission or the last GARM (R189) -/
  marked : Bool := false
  /-- armed at the rollback point (R189, R192) -/
  armedThen : Bool := true
  /-- the word that holds the group is to be skipped when the group next issues (R169) -/
  skip : Bool := false
  /-- words issued, counted so that a turn can tell whether its word issued (the model's own) -/
  issues : Nat := 0
  queue : List QEntry := []
  kq : List KEntry := []
  rq : List REntry := []
  clause : Option Clause := none
  pend : List Pending := []
  wait : GWait := .ready
  /-- the wait of a barrier word or FENCE that has issued, while an end-of-pass fault holds the group (R152) -/
  after : GWait := .ready
  monitor : Option Monitor := none
  /-- provenance of the word that holds the group, and its record's wish (R164, R169) -/
  heldWord : Option QEntry := none
  /-- cause of the fault that holds the group, 0 for none (R196) -/
  heldCode : Nat := 0
  /-- sequence numbers of words that found poison after younger words had issued, and that hold the group (R164, R249) -/
  late : List W32 := []
  /-- parked access (R176) -/
  parkVa : W64 := 0
  parkCode : W64 := 0
  parkLanes : Lanes := 0
  parkSeq : Nat := 0
  parkSince : Nat := 0
  /-- ungated core clocks, the present one among them, for which the group has been ready without issuing (R321) -/
  readyFor : Nat := 0
  overdue : Bool := false
  slotEnd : Nat := 0
  /-- FX trap taken as 0 for the one word a C_FP disposition completes (R169) -/
  noTrap : Bool := false
  edge : Edge := {}
deriving DecidableEq, Repr, Inhabited

/-! ## Teams, accumulator slots and the matrix queue (R49, R104, R286, R389) -/

/-- An accumulator element (R104): finite mantissa, or a class. -/
inductive Elem where
  | fin (m : Int)
  | inf (neg : Bool)
  | nan
deriving DecidableEq, Repr, Inhabited

/-- An accumulator slot with its state (R104, R286). Elements are row-major; an unlisted one is finite zero. -/
structure Slot where
  elems : List (Nat × Elem) := []
  e : Int := 0
  eset : Bool := false
  ovf : Bool := false
  renorms : BitVec 32 := 0
  t : W32 := 0x3F800000#32
  inregion : Bool := true
deriving DecidableEq, Repr, Inhabited

/-- A value: NaN, an infinity, or sign, magnitude m × 2^e. -/
inductive FVal where
  | nan
  | inf (neg : Bool)
  | fin (neg : Bool) (m : Nat) (e : Int)
deriving DecidableEq, Repr, Inhabited

/-- What a matrix unit does in a core clock of the word under way (R288 to R294, R301): NEW of a handle; a k-step on a
handle's slot, with the rows of A that take part and their scales, and the columns of B and theirs; a clock of the Q4x penalty;
a slot's new value; bytes of the scratchpad, and offsets of words that they make whole; the completion. -/
inductive MatOp where
  | alloc (h : Nat)
  | step (h : Nat) (rows : List (Option Int × List FVal)) (cols : List (Int × List FVal))
  | stall
  | put (h : Nat) (v : Slot)
  | write (l : List (Nat × List Byte)) (whole : List Nat)
  | finish
deriving DecidableEq, Repr, Inhabited

/-- A fault record of a team that has not been delivered yet (R164, R167). -/
structure Pended where
  agent : Agent := .gen
  trec : TrapRec := {}
deriving DecidableEq, Repr, Inhabited

/-- The state a rollback returns to (R184, R189). -/
structure RollPoint where
  bars : Sparse 64 := []
  msn : W32 := 0
  /-- handles (R188) -/
  ah : Sparse 16 := []
deriving DecidableEq, Repr, Inhabited

/-- An arrival at a gang barrier that GBARARV or GBARDROP owes (R398): the barrier, whether it drops, the word and its pc,
the region that its markers end, and the serial number up to which its core's stores are to have left (R236). -/
structure GbOwed where
  gb : Nat := 0
  drop : Bool := false
  word : W32 := 0
  pc : BitVec 48 := 0
  region : Nat := 0
  upTo : Nat := 0
  /-- a trap has taken the context from the word -/
  left : Bool := false
deriving DecidableEq, Repr, Inhabited

/-- Where a team stands in swapping and ending (R129, R175, R178, R386). -/
inductive Life where
  | running
  | swapAsked (bySwapt : Bool)
deriving DecidableEq, Repr, Inhabited

/-- A resident team (R15, R30, R49, R73, R198 to R200). -/
structure Team where
  lid : Nat := 0
  num : Nat := 0
  tag : W64 := 0
  x : W32 := 0
  y : W32 := 0
  z : W32 := 0
  asid : BitVec 16 := 0
  groups : Nat := 1
  accs : Nat := 0
  bars : Nat := 0
  share : Nat := 0
  xwin : Nat := 0
  prio : Nat := 0
  /-- place of its launch in the order of hand-out (R316) -/
  order : Nat := 0
  swapArea : W64 := 0
  gang : Option Nat := none
  gangIdx : Nat := 0
  units : List Nat := []
  sp : Sparse 8 := []
  spTag : List Nat := []
  spPoison : List Nat := []
  /-- the exchange banks stand exchanged (R200) -/
  flipped : Bool := false
  emit : Sparse 8 := []
  expSig : KV W32 := []
  /-- barriers bn0 on as doublewords (R389) -/
  bn : Sparse 64 := []
  md : Sparse 128 := []
  ah : Sparse 16 := []
  /-- accumulator slots of the core reserved for the team, and those now on its free list (R285) -/
  slots : List Nat := []
  free : List Nat := []
  slotState : KV Slot := []
  /-- slots released by MRELEASE and not yet returned (R188): handle and slot -/
  released : List (Nat × Nat) := []
  mq : List QEntry := []
  mdLow : W64 := 0
  msn : W32 := 0
  mHeld : Option QEntry := none
  /-- cause of the fault that holds the matrix unit (R196) -/
  mCode : Nat := 0
  /-- words of the M stream pushed and completed, counted from admission (R228) -/
  mPushed : Nat := 0
  mDone : Nat := 0
  /-- QSTAT of the matrix queue at the last core-clock edge (R348) -/
  mStat : W64 := 64
  /-- fabric clock at which an XST has last arrived in the share (R266) -/
  xstAt : Option Nat := none
  /-- REGIONs issued and committed (R183, R184) -/
  regIssued : Nat := 0
  regCommitted : Nat := 0
  /-- an uncommitted region is sealed, and the number of the first region that the seal does not reach (R186) -/
  sealed : Bool := false
  sealEnd : Nat := 0
  rolls : Nat := 0
  roll : RollPoint := {}
  faults : List Pended := []
  life : Life := .running
  parkSeq : Nat := 0
  /-- clock since when every agent that is not parked has been at a blocking point while some agent was parked (R178) -/
  blockedSince : Option Nat := none
  /-- pages named by PARK records that stand unanswered: base and size (R176) -/
  asked : List (Nat × Nat) := []
  /-- agents released from a park that have not reissued their accesses, in the order in which they parked (R177) -/
  replay : List Agent := []
  /-- gang barriers of which the team is a member, and those at which it has arrived in their present phase (R390, R396) -/
  gbMember : List Nat := []
  gbArrived : List Nat := []
  gbOwed : Option GbOwed := none
deriving DecidableEq, Repr, Inhabited

/-! ## Cores, dies and the memory side -/

/-- A hold-back entry (R216). -/
structure HoldEntry where
  /-- physical lines written: one for each copy of the page; for an exchange store, the targets -/
  lines : List Nat := []
  /-- bytes written, by offset in the line: the bytemask and the data -/
  bytes : KV Byte := []
  order : BitVec 2 := 0
  scope : BitVec 3 := 0
  colour : BitVec 3 := 0
  team : Nat := 0
  /-- launch of the storing team, which R19 waits for -/
  lid : Nat := 0
  agent : Agent := .gen
  issued : Nat := 0
  os : Bool := false
  /-- bytes of one store of the entry (R50) -/
  size : Nat := 0
  /-- exchange store: target team and offset in its shadow bank (R267) -/
  xst : List (Nat × Nat) := []
  gang : Nat := 0
  /-- the region of the storing agent, and a serial number of the core's stores -/
  region : Nat := 0
  serial : Nat := 0
  asid : Nat := 0
  va : W64 := 0
deriving DecidableEq, Repr, Inhabited

/-- A translation as a cache holds it (R366): address space, page base, page size and leaf entry. -/
structure Tlb where
  asid : Nat := 0
  base : Nat := 0
  size : Nat := 0
  pte : W64 := 0
deriving DecidableEq, Repr, Inhabited

/-- A core: its control block, hold-back buffer, L1 TLB, predictor and counters (R50, R216, R258, R401 to R403). -/
structure Core where
  spare : Bool := false
  absent : Bool := false
  tswap : BitVec 16 := 20
  tmax : BitVec 16 := 200
  hbHigh : Nat := 0
  hold : List HoldEntry := []
  hbSerial : Nat := 0
  strikes : W32 := 0
  strikeT : W64 := 0
  permit : Nat := 4
  snapLatched : Bool := false
  snapArmed : Bool := false
  /-- time at which a store last armed it -/
  snapAt : Option Nat := none
  snapTime : W64 := 0
  /-- the registers as the last latch copied them (R52) -/
  snapRegs : List W64 := []
  /-- provenance of the words at the heads of its queues as the last latch copied it: team slot, pc, target, sequence
  (R74) -/
  snapProv : List (Nat × BitVec 48 × Nat × W32) := []
  tlb : List Tlb := []
  predictor : Sparse 2 := []
  /-- leases held: line and expiry clock (R380) -/
  leases : KV Nat := []
  rolls : W32 := 0
  parks : W32 := 0
  swaps : W32 := 0
  renorms : W32 := 0
  clockStopped : Bool := false
  syncErr : W32 := 0
  pmc : Sparse 48 := []
  pms : Sparse 11 := []
  /-- team slot the matrix unit serves (R281) -/
  served : Nat := 0
  /-- the M-word that has started last (R49), and what is left of it, by ungated core clocks (R300, R301) -/
  matWord : Option W32 := none
  matJob : List (List MatOp) := []
  /-- the served team has completed an MBATCH: a switch point (R281) -/
  matSwitch : Bool := false
  /-- issue slots: clock until which each is held (R135) -/
  slot0 : Nat := 0
  slot1 : Nat := 0
  lastGen : Nat := 3
  /-- fabric clock from which the generator issue port is free (R321) -/
  genFree : Nat := 0
  /-- scratchpad units lent to L1 and given to teams (R198, R201): units in use -/
  unitsUsed : List Nat := []
  accUsed : List Nat := []
  barsUsed : Nat := 0
  /-- units lent to the L1 (R201) -/
  lent : List Nat := [0,1,2,3,4,5,6,7,8,9,10,11]
deriving DecidableEq, Repr, Inhabited

/-- The word under way for a team slot is abandoned (R175, R300). -/
def Core.dropJob (k : Core) (slot : Nat) : Core := if k.served = slot then { k with matJob := [] } else k

/-- A line copy in an L1 (cache = core number), in an RDC (1,024 + die × 16 + cluster) or in an L2 slice (2,048 + die × 128 +
slice), which holds what its home holds (R202, R374, R375). Of one cache the copies stand with the last used first. -/
structure Copy where
  cache : Nat := 0
  line : Nat := 0
  os : Bool := false
  /-- written in its RDC, and not written back (R204) -/
  dirty : Bool := false
  data : List Byte := []
deriving DecidableEq, Repr, Inhabited

/-- MOESI state of a line of an OS page in its package directory (R375). -/
inductive DirState where
  | i | e | m | s | o
deriving DecidableEq, Repr, Inhabited

/-- A package directory entry (R375). -/
structure DirEntry where
  state : DirState := .i
  owner : Nat := 15
  vec : BitVec 8 := 0
deriving DecidableEq, Repr, Inhabited

/-- An armed waiter slot's home filter (R379). -/
structure Filter where
  bits : BitVec 4096 := 0
  armed : Nat := 0
  /-- the devices that have armed slots of the count, one for each slot -/
  peers : List Nat := []
deriving DecidableEq, Repr, Inhabited

/-- A hotness range (R376). -/
structure Hot where
  lid : Nat := 0
  tag : W64 := 0
  base : W64 := 0
  len : W64 := 0
  cls : Nat := 0
  asid : Nat := 0
  accesses : Nat := 0
  misses : Nat := 0
deriving DecidableEq, Repr, Inhabited

/-- Which operation a copy engine holds (R275 to R278, R334). -/
inductive CopyKind where
  | copy | shape | zero
deriving DecidableEq, Repr, Inhabited

/-- Who issued a copy operation (R273, R334). -/
inductive CopyBy where
  | ctx (id : Nat) (sd : Nat)
  /-- a COPY packet, by its entry in the task range table -/
  | lane (iod q lid : Nat)
deriving DecidableEq, Repr, Inhabited

/-- An operation in a copy engine's queue (R273, R274). -/
structure CopyOp where
  kind : CopyKind := .copy
  by_ : CopyBy := .ctx 0 0
  asid : Nat := 0
  supper : Bool := false
  src : W64 := 0
  dst : W64 := 0
  len : Nat := 0
  shape : W64 := 0
  srcSp : Bool := false
  dstSp : Bool := false
  loc : Bool := false
  badFlags : Bool := false
  overlap : Bool := false
  /-- bytes written so far -/
  done : Nat := 0
  poisoned : Bool := false
  /-- held for a page, by base and size, and whether the page is pending-invalid (R273) -/
  held : Option (Nat × Nat) := none
  heldPi : Bool := false
  /-- the page, by base and size, for which an access has been held and not been made since: V = 0 there is the page's
  going, not a permission (R368) -/
  rewalk : Option (Nat × Nat) := none
  /-- the page has been answered as gone (R273) -/
  lost : Bool := false
  /-- its team is off its core: the operation runs on and reports to nobody -/
  gone : Bool := false
  /-- its team has been killed: it writes no further line (R273) -/
  dead : Bool := false
  serial : Nat := 0
deriving DecidableEq, Repr, Inhabited

/-- A message on Tombac (R357). -/
structure Message where
  dw0 : W64 := 0
  sender : W64 := 0
  seq : W64 := 0
  payload : List W64 := []
deriving DecidableEq, Repr, Inhabited

/-- A swapped team (R179, R180): its core, the name that records on their way know it by, its registers beside those that
its image holds, and the replies that have come. -/
structure Swapped where
  core : Nat := 0
  name : Nat := 0
  team : Team := {}
  ctx : Ctx := {}
  groups : KV Group := []
  /-- the wake conditions as its image was written with -/
  wakes : List Byte := []
  replies : List (Rec2 × W64) := []
deriving DecidableEq, Repr, Inhabited

/-- A team waiting in a distributor's pending list (R316, R317, R180). -/
structure Waiting where
  lid : Nat := 0
  num : Nat := 0
  run : Nat := 0
  cluster : Nat := 0
  prio : Nat := 0
  order : Nat := 0
  /-- a swapped team: its core, the address of its slot in the swap area, and what the image does not hold -/
  swapped : Option Swapped := none
  /-- it goes before every team that has not started: rule 1 of R316, which R386 denies a team swapped unparked -/
  ahead : Bool := false
deriving DecidableEq, Repr, Inhabited

/-- A die: its control block, fault queue, caches of translations, distributor and filters. -/
structure Die where
  rows : BitVec 8 := 0xFF#8
  spares : BitVec 3 := 0
  hole : Bool := false
  dhbm : W64 := 0
  dstrikes : W32 := 0
  dmemcap : BitVec 42 := 0
  devnum : BitVec 22 := 0
  fqbase : W64 := 0
  fqtail : BitVec 8 := 0
  /-- entries written and not released -/
  fq : KV Rec2 := []
  atroot : W64 := 0
  droute : BitVec 40 := 0
  hintcls : Sparse 64 := []
  apbase : W64 := 0
  apasid : W64 := 0
  throt : BitVec 3 := 0
  snaptrig : BitVec 16 := 0
  bootst : BitVec 8 := 0
  /-- cluster L2 TLBs, by cluster; copy-engine TLBs, by engine; ATS cache of an I/O die (R366) -/
  l2tlb : KV (List Tlb) := []
  cetlb : KV (List Tlb) := []
  ats : List Tlb := []
  filter : Filter := {}
  /-- hashes of performed writes that are to wake waiters (R379) -/
  wakes : List (Nat × Nat × Nat) := []
  hot : List Hot := []
  /-- distributor: pending list, prologue queue, permits (R316, R458) -/
  pending : List Waiting := []
  prologues : List Nat := []
  distPermit : Nat := 4
  /-- Tombac receive queue of the instance (R323) -/
  recv : List Message := []
  /-- slice counters by slice × 16 + n, their selects (R401) -/
  spmc : Sparse 48 := []
  spms : Sparse 11 := []
  /-- corrected errors by unit: HBM or LPDDR controller (R207) -/
  corrected : KV Nat := []
  /-- sectors scrubbed so far in the present round (R207) -/
  scrubbed : Nat := 0
  /-- slice input logs: strikes in a slice's control logic (R190) -/
  sliceStrikes : Nat := 0
  /-- context that runs a prologue, with its launch (R316) -/
  prologue : Option Nat := none
deriving DecidableEq, Repr, Inhabited

/-- DROUTE of a die as boot firmware sets it (R383): entry k at bits 4k to 4k + 3. -/
def bootRoute (d : Nat) : BitVec 40 :=
  let hop (k : Nat) : Nat :=
    if k = d then d
    else if d = 8 then (if k = 9 then 0 else k % 2)
    else if d = 9 then (if k = 8 then 6 else 6 + k % 2)
    else
      let toDie (t : Nat) : Nat :=
        if d % 2 = t % 2 then (if d / 2 < t / 2 then d + 2 else d - 2) else d / 2 * 2 + t % 2
      if k = 8 then (if d = d % 2 then 8 else toDie (d % 2))
      else if k = 9 then (if d = 6 + d % 2 then 9 else toDie (6 + d % 2))
      else toDie k
  BitVec.ofNat 40 ((List.range 10).foldl (fun a k => a + hop k * 16 ^ k) 0)

/-- A die of a full part at cold reset (R51, R211, R383; assumption 4). -/
def Die.boot (d : Nat) : Die := { dmemcap := BitVec.ofNat 42 (Config.fullCapacity d), droute := bootRoute d }

/-! ## Pewter (R305 to R315) -/

/-- A level of a queue: parse address, units left, and units from the start of its buffer (R305). -/
structure Level where
  addr : W64 := 0
  left : Nat := 0
  used : Nat := 0
deriving DecidableEq, Repr, Inhabited

/-- An open loop: address of the packet after its LOOP, passes left, and its level (R305, R330). -/
structure LoopEntry where
  start : W64 := 0
  left : Nat := 0
  level : Nat := 0
deriving DecidableEq, Repr, Inhabited

/-- Pewter's copy of a queue's descriptor, from the check that it passed to the next unbinding (R305, R309): what the
descriptor holds, the outermost loop first, and the clock at which the queue became eligible. -/
structure Queue where
  base : W64 := 0
  lsize : Nat := 12
  prio : Nat := 0
  gen : Nat := 0
  asid : Nat := 0
  level : Nat := 0
  /-- levels 1 to 4 -/
  levels : List Level := [{}, {}, {}, {}]
  loops : List LoopEntry := []
  ri : W32 := 0
  wa : W32 := 0
  error : W64 := 0
  elig : Option Nat := none
  /-- read by a check since the last unbinding -/
  fresh : Bool := true
  /-- unit offset of the last packet completed (R457) -/
  lastOff : Option W32 := none
  /-- the COPY with its wait bit at which the lane stood when it was unbound (R311, R334) -/
  copyWait : Option Nat := none
deriving DecidableEq, Repr, Inhabited

/-- What a lane waits for (R310, R325). -/
inductive LaneWait where
  | none
  /-- WAITMEM: its line, the clock of its last read, whether a write of the line has been performed since (R332) -/
  | waitmem (line : Nat) (since : Nat) (woken : Bool)
  | drain
  /-- a full task range table (R314) -/
  | table_ (k : Packet)
  /-- a COPY with its wait bit: the launch entry of the copy (R334) -/
  | copy (lid : Nat)
  /-- a packet of n units has written outside the device, and its write is being performed (R312, R331) -/
  | sent (n : Nat)
  /-- room in the egress buffer that a packet's write needs (R218) -/
  | egress
  /-- the host's translation of what the packet reads; it is tried again (R408) -/
  | host
  /-- a page, by a virtual address and its size: pending-invalid or not, and whether the access is a packet fetch (R325) -/
  | page (pi : Bool) (va : W64) (fetch : Bool) (size : Nat)
deriving DecidableEq, Repr, Inhabited

/-- A bound lane (R310 to R313). -/
structure Lane where
  q : Nat := 0
  /-- fetch-ahead of levels 0 to 4: doublewords from the parse address on, each with the code that its bytes raise, 0 for
  none (R313, R457) -/
  fetched : List (List (W64 × Nat)) := [[], [], [], [], []]
  wait : LaneWait := .none
  /-- clock since which the lane has not been ready -/
  waitSince : Nat := 0
  /-- packets parsed since binding, and steps in which the lane was ready and passed over -/
  parsed : Nat := 0
  passed : Nat := 0
  overdue : Bool := false
  /-- the next packet at this level is skipped (R329) -/
  skip : Bool := false
  /-- a stop that waits for the packet being executed: code, offset and packet address (R457) -/
  stop : Option (Nat × W32 × W64) := none
deriving DecidableEq, Repr, Inhabited

/-- The Pewter of an I/O die (R306, R307, R310, R401). -/
structure Pewter where
  qdbase : W64 := 0
  qctl : Bool := false
  qign : W32 := 0
  qerrs : W32 := 0
  permit : Nat := 16
  lanes : KV Lane := []
  queues : KV Queue := []
  pmc : Sparse 48 := []
  pms : Sparse 11 := []
  /-- the lanes of the step under way that have not executed their packet yet (R312) -/
  mask : List Nat := []
  /-- unit offset of the last packet completed of queues of which Pewter holds no copy (R457) -/
  offs : KV W32 := []
deriving DecidableEq, Repr, Inhabited

/-- Where a launch stands (R18, R314, R316, R338, R356). -/
inductive Stage where
  | table_
  /-- in the lead distributor's order, its prologue not started -/
  | atLead
  | prologue
  /-- its prologue has ended with LGO or LREPEAT -/
  | handout
  | running
  /-- between two runs of a repeat series -/
  | between
  | signal
  /-- the completion signal has been stored outside the device and is being performed (R338) -/
  | signalSent
  /-- the completion signal waits for its page: base, size and whether it is pending-invalid (R458) -/
  | signalWait (base size : Nat) (pi : Bool)
deriving DecidableEq, Repr, Inhabited

/-- What a COPY packet asks of its engine (R334). -/
structure CopyArg where
  src : W64 := 0
  dst : W64 := 0
  len : Nat := 0
  loc : Bool := false
  wait : Bool := false
deriving DecidableEq, Repr, Inhabited

/-- An entry of a Pewter's task range table: a launch from its parse to its completion, or a COPY packet (R314, R334,
R335). -/
structure Launch where
  /-- the copy, for a COPY packet -/
  copy : Option CopyArg := none
  iod : Nat := 0
  q : Nat := 0
  /-- unit offset and address of its packet -/
  pktOff : W32 := 0
  pktAddr : W64 := 0
  asid : Nat := 0
  prio : Nat := 0
  stage : Stage := .table_
  /-- body fields by their number (R335), as LSET and LGET know them -/
  field : Sparse 64 := []
  prologue : W64 := 0
  /-- declared ranges: base and length in bytes -/
  reads : List (Nat × Nat) := []
  writes : List (Nat × Nat) := []
  hots : List Hot := []
  /-- the repeat series: runs in all, the run under way, whether a series is open (R356) -/
  runs : Nat := 1
  run : Nat := 0
  inSeries : Bool := false
  /-- teams of the run that have not retired -/
  teamsLeft : Nat := 0
  /-- the die whose distributor leads it, and the die whose distributor retired the last team (R18, R338) -/
  leadDie : Nat := 0
  lastDie : Nat := 0
  /-- the store of its completion signal has waited for a page (R458) -/
  waited : Bool := false
  /-- dies whose instances have admitted a team of it (R26) -/
  admitted : List Nat := []
  /-- a team of it has been killed: the completion signal is not written (R175) -/
  cancelled : Bool := false
deriving DecidableEq, Repr, Inhabited

/-- A gang (R15, R319, R396). -/
structure Gang where
  lid : Nat := 0
  /-- the sub-rectangle -/
  ox : Nat := 0
  oy : Nat := 0
  w : Nat := 1
  h : Nat := 1
  /-- number of its first team, run, priority and place in the order of hand-out -/
  first : Nat := 0
  run : Nat := 0
  prio : Nat := 0
  order : Nat := 0
  /-- not admitted yet; the clock at which it entered, and whether 64 µs have passed (R319) -/
  waiting : Bool := true
  since : Nat := 0
  expired : Bool := false
  /-- the teams, by gang-relative index -/
  tids : List Nat := []
  /-- gang-relative indexes of teams that have retired, with the clock, and the (core index, peer) pairs known -/
  retired : KV Nat := []
  known : List (Nat × Nat) := []
  /-- gb0 to gb7: expected, arrived, drops, phase -/
  gb : KV (Nat × Nat × Nat × Bool) := []
  xwin : Nat := 0
deriving DecidableEq, Repr, Inhabited

/-! ## The outside (R218, R237, R406 to R413, R416 to R418) -/

/-- An outbound write in egress quarantine (R218). -/
structure Egress where
  route : Nat := 0
  addr : W64 := 0
  data : KV Byte := []
  /-- source tag: unit, and for a core the team -/
  unit : Nat := 0
  team : Nat := 0
  slice : Nat := 0
  /-- a release at SYS, which leaves after every earlier write of its source (R219) -/
  rel : Bool := false
  /-- the launch of the storing team, which a completion signal waits for (R19) -/
  lid : Option Nat := none
  /-- its translation by the host stands in the ATS cache, or it needs none (R408) -/
  ready : Bool := true
  /-- it has left over Holusk, and is kept until it has been acknowledged (R412) -/
  left : Bool := false
  at_ : Nat := 0
  serial : Nat := 0
deriving DecidableEq, Repr, Inhabited

/-- An inbound request at an I/O ordering point, until it has been acknowledged or its data returned (R237, R407, R424). -/
structure Inbound where
  off : Nat := 0
  data : List Byte := []
  len : Nat := 0
  isRead : Bool := false
  relaxed : Bool := false
  /-- for each of its lines, once they have been translated, the places of its first byte and the kind of its page -/
  dest : List (List Nat × PageKind) := []
  /-- clock and address space of that translation (R368) -/
  since : Nat := 0
  asid : Nat := 0
  /-- lines performed so far, with what a read took there -/
  done : KV (List Byte) := []
  /-- held on a page since this clock (R407) -/
  held : Option Nat := none
  serial : Nat := 0
deriving DecidableEq, Repr, Inhabited

/-- A slot of a Holusk send window (R411, R412): both copies' health and the payload. -/
structure SendSlot where
  seq : Nat := 0
  good0 : Bool := true
  good1 : Bool := true
  payload : List Byte := []
  /-- serial number of the entry in egress quarantine, or of the request, that it comes from (R412) -/
  src : Option Nat := none
deriving DecidableEq, Repr, Inhabited

/-- A Holusk port (R411 to R413). -/
structure Port where
  window : List SendSlot := []
  nextSeq : Nat := 0
  /-- the latest cumulative acknowledgement, which names the last flit taken; none has been taken at reset -/
  acked : Nat := 65535
  expect : Nat := 0
  lastAdvance : Nat := 0
  sent : Nat := 0
  errors : Nat := 0
  replays : Nat := 0
  received : List (List Byte) := []
  resyncs : Nat := 0
  /-- flits that have gone out, newest first, for the world to see -/
  out : List (List Byte) := []
  /-- payloads that wait for a slot, each with the serial number of its request -/
  waiting : List (List Byte × Option Nat) := []
  /-- audits that have been made -/
  audits : Nat := 0
  /-- lost slot that a RESYNC has named, until its answer -/
  resync : Option Nat := none
deriving DecidableEq, Repr, Inhabited

/-- Power state of a die-link router or port (R413). -/
structure Link where
  off : Bool := false
  /-- end of its last wake -/
  wakeAt : Option Nat := none
  idleSince : Nat := 0
  rewait : Bool := false
  /-- flits that have arrived while it was off or waking, oldest first -/
  held : List (List Byte) := []
deriving DecidableEq, Repr, Inhabited

/-- An I/O die's ports and queues. -/
structure Iod where
  egress : List Egress := []
  /-- outbound writes that the die links hold back while every place of the buffer is taken, oldest first (R218) -/
  linkQ : List Egress := []
  /-- writes that have left, for the world to see: route, address, bytes -/
  sent : List (Nat × W64 × KV Byte) := []
  inbound : List Inbound := []
  inSerial : Nat := 0
  /-- values returned to the host, newest first; none is a Completer Abort -/
  returned : List (Option (List Byte)) := []
  /-- host pages whose IOMMU translation the ATS cache holds; pages asked of the host by PRI (R408) -/
  hostAts : List Nat := []
  pri : List Nat := []
  /-- host invalidations that are not completed: page, and the serial number of the next outbound write at their arrival -/
  invals : List (Nat × Nat) := []
  /-- Holusk route table (R384) -/
  routes : Sparse 64 := []
deriving DecidableEq, Repr, Inhabited

/-- Smify: boot, mailbox, lifetime counters (R404, R414, R416 to R418). -/
structure Smify where
  /-- boot stages that have been verified and run, with their images' hashes and security versions -/
  stage : Nat := 0
  hashes : List (List Byte) := []
  versions : List W32 := []
  /-- device number that the system's configuration gives the module (R454) -/
  configNum : BitVec 22 := 0
  /-- mailbox: the command under way, STAT, and the 4 KiB buffer -/
  cmd : Nat := 0
  stat : W64 := 1
  buffer : Sparse 8 := []
  /-- lifetime counters: corrected errors by unit, strikes by sensor region, rollbacks, parks, swaps, retrains,
  resynchronisations (assumption 72) -/
  life : Sparse 64 := []
  /-- the units' tallies since the last update, and its clock -/
  due : Sparse 64 := []
  updated : Nat := 0
  histo : Sparse 32 := []
  /-- the stay under way: band and seconds, for temperature, voltage and utilisation -/
  stays : List (Nat × Nat) := [(0, 0), (0, 0), (0, 0)]
  pcap : Nat := 2400
deriving DecidableEq, Repr, Inhabited

/-- The agent whose word exec carries out. -/
inductive Cur where
  | none
  /-- the context and the word it issues -/
  | gen (id : Nat) (w : W32)
  /-- the group, the word's queue entry, and the issue slot -/
  | grp (gid : Nat) (e : QEntry) (slot : Nat)
  | mat (tid : Nat) (e : QEntry)
  | lane (iod lane : Nat) (k : Packet)
  | event (x : EvArg)
deriving DecidableEq, Repr

/-- The whole module. -/
structure State where
  /-- fabric clocks since Smify released the module (R6, R402) -/
  clk : Nat
  released : Bool
  turns : List Turn
  /-- free values used so far, and turns taken from the free schedule (the model's own) -/
  freeCtr : Nat
  turnCtr : Nat
  cur : Cur
  /-- physical memory of the device by local address (R209) -/
  mem : List Host.Cell
  /-- poisoned sectors by address / 64, rising (R207) -/
  poison : List Nat
  /-- sectors that do not match their CRC, with their erroneous bytes, 1 to 64 (R206, R207) -/
  errs : KV Nat
  ctxs : KV Ctx
  teams : KV Team
  groups : KV Group
  cores : KV Core
  dies : KV Die
  copies : List Copy
  dir : KV DirEntry
  /-- leases at the home slices: line, (holder core, expiry clock, recalled) (R380) -/
  leases : KV (Nat × Nat × Bool)
  /-- last release narrower than DEV that wrote a line: its core, and that core's next store at the time (R230) -/
  lastRel : KV (Nat × Nat)
  engines : KV (List CopyOp)
  opSerial : Nat
  records : List Rec2
  launches : KV Launch
  nextLid : Nat
  gangs : KV Gang
  nextGang : Nat
  pewters : KV Pewter
  /-- Tombac: messages in send queues in order of arrival (context id, clock, message), next sequence number (R323) -/
  sends : List (Nat × Nat × Message)
  tombacSeq : W64
  iods : KV Iod
  ports : KV Port
  links : KV Link
  smify : Smify
  /-- snapshot latch pending: its tick, and the times of its triggers (R405) -/
  snapTick : Option (Nat × List Nat)
deriving DecidableEq, Repr

/-- The module right after cold reset (R7): time stands at 0, no context runs, nothing is resident, memory lists nothing,
and every register holds its reset value; a register without one holds zero (assumption 3). -/
def State.reset : State :=
  { clk := 0, released := false, turns := [], freeCtr := 0, turnCtr := 0, cur := .none, mem := [], poison := [], errs := []
    ctxs := [], teams := [], groups := [], cores := [], dies := [], copies := [], dir := [], leases := [], lastRel := []
    engines := [], opSerial := 0, records := [], launches := [], nextLid := 0, gangs := [], nextGang := 0, pewters := []
    sends := [], tombacSeq := 0, iods := [], ports := [], links := [], smify := {}, snapTick := none }

end Sys2Proof.Machine
end

