-- ==== Sys2Proof/Machine/Tables.lean ====
section
/-! DEFINITION. Machine/Tables.lean: reading and writing of sparse storage and keyed tables, each in one canonical form
(keys strictly rising; sparse storage lists no zero), and byte order (R4). -/

namespace Sys2Proof.Machine

/-- The value at a key of sparse storage; an unlisted key reads zero. -/
def spGet {w : Nat} (l : Sparse w) (k : Nat) : BitVec w :=
  match l with
  | [] => 0
  | (j, v) :: t => if k = j then v else spGet t k

/-- Sparse storage without one key. -/
def spDel {w : Nat} (l : Sparse w) (k : Nat) : Sparse w :=
  match l with
  | [] => []
  | (j, v) :: t => if k = j then spDel t k else (j, v) :: spDel t k

/-- Sparse storage with a value at a key, whatever the value. -/
def spPut {w : Nat} (l : Sparse w) (k : Nat) (x : BitVec w) : Sparse w :=
  match l with
  | [] => [(k, x)]
  | (j, v) :: t => if k = j then (k, x) :: t else if k < j then (k, x) :: (j, v) :: t else (j, v) :: spPut t k x

/-- Sparse storage with a value at a key; zero is not listed. -/
def spSet {w : Nat} (l : Sparse w) (k : Nat) (x : BitVec w) : Sparse w :=
  if x = 0 then spDel l k else spPut l k x

/-- Keys rise strictly from a bound on, and no cell is zero. -/
def spFrom {w : Nat} (b : Nat) (l : Sparse w) : Bool :=
  match l with
  | [] => true
  | (j, v) :: t => decide (b ≤ j) && v != 0 && spFrom (j + 1) t

/-- The canonical form of sparse storage. -/
def spWf {w : Nat} (l : Sparse w) : Bool := spFrom 0 l

/-- The entry of a table, if there is one. -/
def kvFind {α : Type} (l : KV α) (k : Nat) : Option α :=
  match l with
  | [] => none
  | (j, v) :: t => if k = j then some v else kvFind t k

/-- The entry of a table, or the value an unlisted key stands for. -/
def kvGet {α : Type} (d : α) (l : KV α) (k : Nat) : α := (kvFind l k).getD d

/-- A table with an entry. -/
def kvSet {α : Type} (l : KV α) (k : Nat) (x : α) : KV α :=
  match l with
  | [] => [(k, x)]
  | (j, v) :: t => if k = j then (k, x) :: t else if k < j then (k, x) :: (j, v) :: t else (j, v) :: kvSet t k x

/-- A table without an entry. -/
def kvDel {α : Type} (l : KV α) (k : Nat) : KV α :=
  match l with
  | [] => []
  | (j, v) :: t => if k = j then kvDel t k else (j, v) :: kvDel t k

/-- Every entry of a table, changed. -/
def kvMap {α : Type} (f : Nat → α → α) (l : KV α) : KV α := l.map (fun e => (e.1, f e.1 e.2))

/-- Bytes in a row, the lowest address first. -/
def bytesAt (f : Nat → Byte) (a n : Nat) : List Byte :=
  match n with
  | 0 => []
  | k + 1 => f a :: bytesAt f (a + 1) k

/-- Bytes as a number, little-endian (R4). -/
def leNat (l : List Byte) : Nat :=
  match l with
  | [] => 0
  | b :: t => b.toNat + 256 * leNat t

/-- The n low bytes of a number, little-endian (R4). -/
def natLe (n x : Nat) : List Byte :=
  match n with
  | 0 => []
  | k + 1 => BitVec.ofNat 8 x :: natLe k (x / 256)

/-- Bytes written in a row into sparse storage. -/
def spBytes (l : Sparse 8) (a : Nat) (bs : List Byte) : Sparse 8 :=
  match bs with
  | [] => l
  | b :: t => spBytes (spSet l a b) (a + 1) t

/-- Bytes written in a row into a table of bytes. -/
def kvBytes (l : KV Byte) (a : Nat) (bs : List Byte) : KV Byte :=
  match bs with
  | [] => l
  | b :: t => kvBytes (kvSet l a b) (a + 1) t

/-- A number in a rising list of numbers. -/
def natAdd (l : List Nat) (k : Nat) : List Nat :=
  match l with
  | [] => [k]
  | j :: t => if k = j then l else if k < j then k :: l else j :: natAdd t k

/-- A number out of a list of numbers. -/
def natDel (l : List Nat) (k : Nat) : List Nat := l.filter (fun j => j != k)

/-- The least of some candidates by a key, the first among equals. -/
def leastBy {α : Type} (key : α → List Nat) (l : List α) : Option α :=
  match l with
  | [] => none
  | x :: t =>
    match leastBy key t with
    | none => some x
    | some y => if key y < key x then some y else some x

/-- Sets element n of a list. -/
def setAt {α : Type} (l : List α) (n : Nat) (x : α) : List α := l.set n x

/-- Removes element n of a list. -/
def delAt {α : Type} (l : List α) (n : Nat) : List α := l.eraseIdx n

/-- Folds a state change over a list. -/
def each {α σ : Type} (f : σ → α → σ) (l : List α) (s : σ) : σ := l.foldl f s

/-- Adds one, saturating at all ones. -/
def satInc {w : Nat} (x : BitVec w) : BitVec w := if x = BitVec.allOnes w then x else x + 1

/-- A number as a 64-bit pattern. -/
abbrev w64 (n : Nat) : W64 := BitVec.ofNat 64 n

/-- A bit as a Nat. -/
def bitN (b : Bool) : Nat := if b then 1 else 0

/-- A field of a pattern as a number. -/
def fieldOf {w : Nat} (x : BitVec w) (lo n : Nat) : Nat := (x.extractLsb' lo n).toNat

end Sys2Proof.Machine
end

