-- ==== Sys2Proof/Machine/Access.lean ====
section
/-! DEFINITION. Machine/Access.lean: accessors of contexts, groups, teams, cores and dies; time; counters; physical
memory; trap and level-two records; monitors; freeing and killing a team. -/

namespace Sys2Proof.Machine

/-- What a meaning answers. -/
abbrev Out := Host.Outcome State Fault Refusal

/-! ## Names and places (R11, R12) -/

/-- x coordinate of a core. -/
def coreX (c : Nat) : Nat := c % 32
/-- y coordinate of a core. -/
def coreY (c : Nat) : Nat := c / 32
/-- Module core number of a coordinate. -/
def coreAt (x y : Nat) : Nat := y * 32 + x
/-- Die of a core. -/
def coreDie (c : Nat) : Nat := coreY c / 8 * 2 + coreX c / 16
/-- Cluster of a core within its die. -/
def coreCluster (c : Nat) : Nat := coreY c % 8 / 2 * 4 + coreX c % 16 / 4
/-- Place of a core within its cluster. -/
def coreInCluster (c : Nat) : Nat := coreY c % 2 * 4 + coreX c % 4
/-- Core of a team or of a team's generator context. -/
def teamCore (tid : Nat) : Nat := tid / 4
/-- Team of a group. -/
def groupTeam (gid : Nat) : Nat := gid / 16
/-- Name of a team's group. -/
def groupId (tid g : Nat) : Nat := tid * 16 + g
/-- The context belongs to a team. -/
def isTeamCtx (id : Nat) : Bool := id < 4096
/-- The context is a supervisor's. -/
def isSup (id : Nat) : Bool := 4096 ≤ id && id < 4136
/-- The context is a distributor's, for prologues. -/
def isPro (id : Nat) : Bool := 4136 ≤ id
/-- Die of a context. -/
def ctxDie (id : Nat) : Nat :=
  if id < 4096 then coreDie (id / 4) else if id < 4136 then (id - 4096) / 4 else id - 4136
/-- Prologue context of a die's distributor. -/
def proCtx (die : Nat) : Nat := 4136 + die
/-- Column and row of a compute die (R11). -/
def dieCol (d : Nat) : Nat := d % 2
/-- Row of a compute die (R11). -/
def dieRow (d : Nat) : Nat := d / 2
/-- Fewest die-link hops between two dies (R212, R383). -/
def hops (a b : Nat) : Nat :=
  let toIo (c io : Nat) : Nat := if io = 8 then dieRow c + 1 else 3 - dieRow c + 1
  let dist (x y : Nat) : Nat := if x < y then y - x else x - y
  if a = b then 0
  else if a < 8 && b < 8 then dist (dieCol a) (dieCol b) + dist (dieRow a) (dieRow b)
  else if a < 8 then toIo a b
  else if b < 8 then toIo b a
  else 5

/-! ## Accessors -/

/-- Registers of a generator context; an absent one reads as zeros. -/
def State.ctx (s : State) (id : Nat) : Ctx := kvGet {} s.ctxs id
/-- Sets a generator context. -/
def State.setCtx (s : State) (id : Nat) (c : Ctx) : State := { s with ctxs := kvSet s.ctxs id c }
/-- Changes a generator context. -/
def State.updCtx (s : State) (id : Nat) (f : Ctx → Ctx) : State := s.setCtx id (f (s.ctx id))
/-- Registers of a team. -/
def State.team (s : State) (tid : Nat) : Team := kvGet {} s.teams tid
/-- Whether a team is resident. -/
def State.hasTeam (s : State) (tid : Nat) : Bool := (kvFind s.teams tid).isSome
/-- Sets a team. -/
def State.setTeam (s : State) (tid : Nat) (t : Team) : State := { s with teams := kvSet s.teams tid t }
/-- Changes a team. -/
def State.updTeam (s : State) (tid : Nat) (f : Team → Team) : State := s.setTeam tid (f (s.team tid))
/-- Registers of a group. -/
def State.grp (s : State) (gid : Nat) : Group := kvGet { armed := false } s.groups gid
/-- Sets a group. -/
def State.setGrp (s : State) (gid : Nat) (g : Group) : State := { s with groups := kvSet s.groups gid g }
/-- Changes a group. -/
def State.updGrp (s : State) (gid : Nat) (f : Group → Group) : State := s.setGrp gid (f (s.grp gid))
/-- A core; an unlisted one is as at cold reset. -/
def State.core (s : State) (c : Nat) : Core := kvGet {} s.cores c
/-- Sets a core. -/
def State.setCore (s : State) (c : Nat) (k : Core) : State := { s with cores := kvSet s.cores c k }
/-- Changes a core. -/
def State.updCore (s : State) (c : Nat) (f : Core → Core) : State := s.setCore c (f (s.core c))
/-- A die; an unlisted one is as at cold reset. -/
def State.die (s : State) (d : Nat) : Die := kvGet (Die.boot d) s.dies d
/-- Sets a die. -/
def State.setDie (s : State) (d : Nat) (k : Die) : State := { s with dies := kvSet s.dies d k }
/-- Changes a die. -/
def State.updDie (s : State) (d : Nat) (f : Die → Die) : State := s.setDie d (f (s.die d))
/-- The Pewter of I/O die 0 or 1. -/
def State.pewter (s : State) (i : Nat) : Pewter := kvGet {} s.pewters i
/-- Changes a Pewter. -/
def State.updPewter (s : State) (i : Nat) (f : Pewter → Pewter) : State :=
  { s with pewters := kvSet s.pewters i (f (s.pewter i)) }
/-- A lane of a Pewter. -/
def State.lane (s : State) (i l : Nat) : Lane := kvGet {} (s.pewter i).lanes l
/-- Sets a lane of a Pewter. -/
def State.setLane (s : State) (i l : Nat) (x : Lane) : State :=
  s.updPewter i (fun p => { p with lanes := kvSet p.lanes l x })
/-- The I/O side of I/O die 0 or 1. -/
def State.iod (s : State) (i : Nat) : Iod := kvGet {} s.iods i
/-- Changes an I/O side. -/
def State.updIod (s : State) (i : Nat) (f : Iod → Iod) : State := { s with iods := kvSet s.iods i (f (s.iod i)) }
/-- A launch. -/
def State.launch (s : State) (l : Nat) : Launch := kvGet {} s.launches l
/-- Sets a launch. -/
def State.setLaunch (s : State) (l : Nat) (x : Launch) : State := { s with launches := kvSet s.launches l x }
/-- Changes a launch that stands. -/
def State.updLaunch (s : State) (l : Nat) (f : Launch → Launch) : State :=
  match kvFind s.launches l with
  | some x => s.setLaunch l (f x)
  | none => s
/-- A gang. -/
def State.gang (s : State) (g : Nat) : Gang := kvGet {} s.gangs g
/-- Changes a gang that stands. -/
def State.updGang (s : State) (g : Nat) (f : Gang → Gang) : State :=
  match kvFind s.gangs g with
  | some x => { s with gangs := kvSet s.gangs g (f x) }
  | none => s
/-- The queue of a copy engine. -/
def State.engine (s : State) (e : Nat) : List CopyOp := kvGet [] s.engines e
/-- Sets the queue of a copy engine. -/
def State.setEngine (s : State) (e : Nat) (l : List CopyOp) : State := { s with engines := kvSet s.engines e l }

/-- The next free value (assumption 8). -/
def State.free (s : State) : W64 := Config.freeWord s.freeCtr
/-- One free value has been used. -/
def State.used (s : State) : State := { s with freeCtr := s.freeCtr + 1 }

/-- Global time in ns (R6, R402): a fabric clock is 0.625 ns. -/
def State.now (s : State) : Nat := s.clk * 5 / 8
/-- Global time as a register shows it. -/
def State.time (s : State) : W64 := w64 s.now

/-- Groups of a team that are armed, lowest first. -/
def State.armedGroups (s : State) (tid : Nat) : List Nat :=
  (List.range (s.team tid).groups).filter (fun g => (s.grp (groupId tid g)).armed)

/-- Whether a core is absent: a disabled row, or a hole (R24, R25, R50). -/
def State.absent (s : State) (c : Nat) : Bool :=
  let d := s.die (coreDie c)
  (s.core c).absent || d.hole || !d.rows.getLsbD (coreY c % 8)

/-! ## Generator registers (R29) -/

/-- A scalar register as a G-word reads it: s0 is zero (R29, R111). -/
def Ctx.get (c : Ctx) (r : BitVec 6) : W64 := if r = 0 then 0 else spGet c.s r.toNat
/-- A scalar register as a G-word writes it: a write of s0 is discarded (R29, R111). -/
def Ctx.put (c : Ctx) (r : BitVec 6) (x : W64) : Ctx := if r = 0 then c else { c with s := spSet c.s r.toNat x }
/-- Condition bit n. -/
def Ctx.cond (c : Ctx) (n : BitVec 3) : Bool := c.c.getLsbD n.toNat
/-- Sets condition bit n. -/
def Ctx.setCond (c : Ctx) (n : BitVec 3) (b : Bool) : Ctx :=
  let m : BitVec 8 := 1#8 <<< n.toNat
  { c with c := if b then c.c ||| m else c.c &&& ~~~m }
/-- A token is pending on the register (R32); none ever is on s0. -/
def Ctx.token (c : Ctx) (r : BitVec 6) : Bool := r != 0 && c.tok.getLsbD r.toNat
/-- Sets a token bit. -/
def Ctx.setTok (c : Ctx) (r : Nat) (b : Bool) : Ctx :=
  let m : W64 := 1#64 <<< r
  { c with tok := if b then c.tok ||| m else c.tok &&& ~~~m }
/-- pc as a 64-bit address (R31). -/
def Ctx.va (c : Ctx) : W64 := c.pc.signExtend 64
/-- Whether a 64-bit address is one a generator may fetch from (R31). -/
def pcOk (t : W64) : Bool := t.extractLsb' 0 2 == 0 && (t.extractLsb' 0 48).signExtend 64 == t
/-- TSTATUS.mask (R37). -/
def Ctx.mask (c : Ctx) : Bool := c.tstatus.getLsbD 0
/-- TSTATUS.level (R37). -/
def Ctx.level (c : Ctx) : Nat := fieldOf c.tstatus 1 2
/-- GMODE.trapen (R36). -/
def Ctx.trapen (c : Ctx) : Bool := c.gmode.getLsbD 7
/-- GMODE.scope (R36). -/
def Ctx.scope (c : Ctx) : Nat := fieldOf c.gmode 0 3
/-- GMODE.promote (R36). -/
def Ctx.promote (c : Ctx) : Bool := c.gmode.getLsbD 3
/-- GMODE.colour (R36). -/
def Ctx.colour (c : Ctx) : BitVec 3 := c.gmode.extractLsb' 4 3
/-- PSTAT.ctxpark (R39). -/
def Ctx.setPark (c : Ctx) (b : Bool) : Ctx :=
  { c with pstat := if b then c.pstat ||| 1#32 else c.pstat &&& 0xFFFFFFFE#32 }

/-- The G-word has executed: pc advances by 4 and nothing waits (R111). -/
def Ctx.done (c : Ctx) : Ctx := { c with pc := c.pc + 4, wait := .ready, arrived := none, issues := c.issues + 1 }
/-- The G-word has executed and set pc (R111). -/
def Ctx.jump (c : Ctx) (t : BitVec 48) : Ctx := { c with pc := t, wait := .ready, arrived := none, issues := c.issues + 1 }

/-! ## Performance counters (R401) -/

/-- Counts n events of a kind in eight counters; true if a counter that fires a snapshot wrapped. -/
def pmcAdd (pmc : Sparse 48) (pms : Sparse 11) (ev n : Nat) : Sparse 48 × Sparse 11 × Bool :=
  each (fun (a : Sparse 48 × Sparse 11 × Bool) i =>
    let m := spGet a.2.1 i
    if m.getLsbD 8 && fieldOf m 0 8 == ev then
      let v := (spGet a.1 i).toNat + n
      let wrap := decide (2 ^ 48 ≤ v)
      (spSet a.1 i (BitVec.ofNat 48 v), (if wrap then spSet a.2.1 i (m ||| 0x200#11) else a.2.1),
        a.2.2 || (wrap && m.getLsbD 10))
    else a) (List.range 8) (pmc, pms, false)

/-- Whether any unit is armed for a snapshot (R405). -/
def State.anyArmed (s : State) : Bool := s.cores.any (fun e => e.2.snapArmed)

/-- A snapshot trigger (R405): it joins a latch that is on its way, and does nothing while no unit is armed. The tick is
the first multiple of 256 ns at least 512 ns on. -/
def State.trigger (s : State) : State :=
  if s.anyArmed then
    match s.snapTick with
    | some (t, l) => { s with snapTick := some (t, natAdd l s.now) }
    | none => { s with snapTick := some ((s.now + 512 + 255) / 256 * 256, [s.now]) }
  else s

/-- A fault record, a KILL record or a strike fires a snapshot trigger where its kind is enabled on its die (R405): kinds 0
to 5 are G-faults, C-faults, M-faults, queue errors, KILL records and strikes. -/
def State.fire (s : State) (die kind : Nat) : State :=
  if (s.die die).snaptrig.getLsbD (8 + kind) then s.trigger else s

/-- Counts n events on a core. -/
def State.countN (s : State) (c ev n : Nat) : State :=
  if (s.core c).pms.isEmpty then s
  else
    let r := pmcAdd (s.core c).pmc (s.core c).pms ev n
    let s1 := s.updCore c (fun k => { k with pmc := r.1, pms := r.2.1 })
    if r.2.2 then s1.trigger else s1

/-- Counts one event on a core. -/
def State.count (s : State) (c ev : Nat) : State := s.countN c ev 1

/-- Entries of one slice, by counter. -/
def sliceSub {w : Nat} (l : Sparse w) (sl : Nat) : Sparse w :=
  (l.filter (fun e => e.1 / 8 == sl)).map (fun e => (e.1 % 8, e.2))

/-- One slice's counters put back. -/
def sliceBack {w : Nat} (l m : Sparse w) (sl : Nat) : Sparse w :=
  (List.range 8).foldl (fun a i => spSet a (sl * 8 + i) (spGet m i)) l

/-- Counts n events on a slice of a die. -/
def State.countSlice (s : State) (d sl ev n : Nat) : State :=
  let k := s.die d
  if k.spms.isEmpty then s
  else
    let r := pmcAdd (sliceSub k.spmc sl) (sliceSub k.spms sl) ev n
    let s1 := s.setDie d { k with spmc := sliceBack k.spmc r.1 sl, spms := sliceBack k.spms r.2.1 sl }
    if r.2.2 then s1.trigger else s1

/-- Counts n events on a Pewter. -/
def State.countPewter (s : State) (i ev n : Nat) : State :=
  if (s.pewter i).pms.isEmpty then s
  else
    let r := pmcAdd (s.pewter i).pmc (s.pewter i).pms ev n
    let s1 := s.updPewter i (fun k => { k with pmc := r.1, pms := r.2.1 })
    if r.2.2 then s1.trigger else s1

/-! ## Physical memory (R207, R209) -/

/-- Where a local address lies: die of its memory window and offset, if it lies in one. -/
def windowOf (la : Nat) : Option (Nat × Nat) :=
  if la < 0x10000000000 then some (la / 0x2000000000, la % 0x2000000000)
  else if la < 0x20000000000 then some (8, la - 0x10000000000)
  else if la < 0x30000000000 then some (9, la - 0x20000000000)
  else none

/-- Home die of a local address in a memory window. -/
def homeDie (la : Nat) : Nat := match windowOf la with | some (d, _) => d | none => 0

/-- Whether an address lies in populated memory (R209): below the DMEMCAP of its window. -/
def State.populated (s : State) (la : Nat) : Bool :=
  match windowOf la with
  | some (d, off) => off < (s.die d).dmemcap.toNat
  | none => false

/-- Erroneous bytes in the block of 4 KiB of a sector: its parity corrects 64 of them, or a whole sector (R206). -/
def State.blockErrs (s : State) (sec : Nat) : Nat :=
  (s.errs.filter (fun e => e.1 / 64 == sec / 64)).foldl (fun a e => a + e.2) 0

/-- The sector of an address does not match its CRC and cannot be corrected, and no L2 slice holds its line (R206, R207). -/
def State.lostSector (s : State) (la : Nat) : Bool :=
  match kvFind s.errs (la / 64) with
  | none => false
  | some _ => decide (64 < s.blockErrs (la / 64)) && !s.copies.any (fun k => decide (2048 ≤ k.cache) && k.line == la / 128)

/-- Whether a read of an address returns poison (R207, R209, R26). -/
def State.poisoned (s : State) (la : Nat) : Bool :=
  match windowOf la with
  | some (d, off) =>
    decide ((s.die d).dmemcap.toNat ≤ off) || (s.die d).hole || s.poison.contains (la / 64) || s.lostSector la
  | none => false

/-- An RDC holds a line dirty: it supplies every reader, and what has become of the memory below shows in no read (R204,
R215). -/
def State.dirtyLine (s : State) (line : Nat) : Bool :=
  s.copies.any (fun k => k.dirty && k.line == line) && !(s.die (homeDie (line * 128))).hole

/-- A read of an address returns poison: its memory has none but poison to give, and no owner supplies the line (R207,
R215). -/
def State.readsBad (s : State) (pl : Nat) : Bool := s.poisoned pl && !s.dirtyLine (pl / 128)

/-- A byte of memory at a local address. -/
def State.byte (s : State) (la : Nat) : Byte := if s.populated la then spGet s.mem la else 0

/-- n bytes of memory from a local address on. -/
def State.bytes (s : State) (la n : Nat) : List Byte := bytesAt s.byte la n

/-- n bytes of memory as a number. -/
def State.readN (s : State) (la n : Nat) : Nat := leNat (s.bytes la n)

/-- One byte written to memory; a write outside populated memory is dropped (R209). -/
def State.putByte (s : State) (la : Nat) (b : Byte) : State :=
  if s.populated la then { s with mem := spSet s.mem la b } else s

/-- Bytes written in a row. A sector written whole loses its poison, and one written in part keeps it (R207). -/
def State.putBytes (s : State) (la : Nat) (bs : List Byte) : State :=
  let s1 := (bs.zipIdx).foldl (fun t e => t.putByte (la + e.2) e.1) s
  let n := bs.length
  let part (p : Nat) : Bool := decide (p * 64 < la) || decide (la + n < p * 64 + 64)
  { s1 with poison := s1.poison.filter part, errs := s1.errs.filter (fun e => part e.1) }

/-- A number written as n bytes. -/
def State.putN (s : State) (la n x : Nat) : State := s.putBytes la (natLe n x)

/-- A table of bytes written to memory, the sectors it covers whole losing their poison. -/
def State.putCells (s : State) (l : KV Byte) : State :=
  let s1 := l.foldl (fun t e => t.putByte e.1 e.2) s
  let part (p : Nat) : Bool := (List.range 64).any (fun i => (kvFind l (p * 64 + i)).isNone)
  { s1 with poison := s1.poison.filter part, errs := s1.errs.filter (fun e => part e.1) }

/-- Marks a sector poisoned; one outside the device bears the mark as well (R207, R456). -/
def State.poisonSector (s : State) (la : Nat) : State :=
  if s.populated la || decide (2 ^ 42 ≤ la) then { s with poison := natAdd s.poison (la / 64) } else s

/-- An event joins the tallies from which Smify takes its lifetime counters (R404; assumption 72): 0 to 17 corrected errors
by base die and controller, 18 to 153 strikes by sensor region, 154 rollbacks, 155 parks, 156 swaps, 157 link retrains, 158
window resynchronisations. -/
def State.tally (s : State) (k : Nat) : State :=
  { s with smify := { s.smify with due := spSet s.smify.due k (satInc (spGet s.smify.due k)) } }

/-- Base die or controller of an address: two HBM4E stacks to a compute die, and one controller to an I/O die (assumption
109). -/
def memUnit (la : Nat) : Nat :=
  let d := homeDie la
  if d < 8 then 2 * d + bitN (Config.upperStack (la / 64)) else 8 + d

/-- The sector of an address is read (R206, R207), from its memory unless an L2 slice holds its line: on a CRC mismatch it is
corrected, written back and counted; or, where its block has lost more than the parity restores, marked poisoned, and the
block stays as it is. -/
def State.correct (s : State) (la : Nat) : State :=
  if (kvFind s.errs (la / 64)).isNone || s.copies.any (fun k => decide (2048 ≤ k.cache) && k.line == la / 128) then s
  else if 64 < s.blockErrs (la / 64) then s.poisonSector la
  else
    (({ s with errs := kvDel s.errs (la / 64) } : State).updDie (homeDie la) (fun d => { d with
      corrected := kvSet d.corrected (memUnit la) (kvGet 0 d.corrected (memUnit la) + 1) })).tally (memUnit la)

/-! ## Trap records (R38, R165) -/

/-- A record's registers in order. -/
def TrapRec.regs (r : TrapRec) : List W64 := [r.t0, r.t1, r.t2, r.t3, r.t4, r.t5, r.t6, r.t7]

/-- A record from its registers. -/
def TrapRec.ofRegs (l : List W64) : TrapRec :=
  { t0 := l.getD 0 0, t1 := l.getD 1 0, t2 := l.getD 2 0, t3 := l.getD 3 0,
    t4 := l.getD 4 0, t5 := l.getD 5 0, t6 := l.getD 6 0, t7 := l.getD 7 0 }

/-- TREC0 of a record: sequence number, kind, group, cause. -/
def trec0 (kind g code : Nat) (seq : W32) : W64 :=
  seq ++ BitVec.ofNat 4 kind ++ BitVec.ofNat 4 g ++ 0#8 ++ BitVec.ofNat 16 code

/-- Cause code of a record. -/
def TrapRec.code (r : TrapRec) : Nat := fieldOf r.t0 0 16
/-- Kind of a record: 0 G, 1 C, 2 M. -/
def TrapRec.kind (r : TrapRec) : Nat := fieldOf r.t0 28 4
/-- Group of a record. -/
def TrapRec.group (r : TrapRec) : Nat := fieldOf r.t0 24 4
/-- Agent whose word a record reports. -/
def TrapRec.agent (r : TrapRec) : Agent :=
  if r.kind = 1 then .grp r.group else if r.kind = 2 then .mat else .gen

/-- A G-fault: cause, address, two words of information. -/
structure GFault where
  code : Nat
  t3 : W64 := 0
  t4 : W64 := 0
  t5 : W64 := 0
deriving DecidableEq, Repr, Inhabited

/-- The record of a G-fault (R165). -/
def GFault.toRec (f : GFault) (pc : BitVec 48) (w : W32) : TrapRec :=
  { t0 := trec0 0 0 f.code 0, t1 := pc.zeroExtend 64, t3 := f.t3, t4 := f.t4, t5 := f.t5, t7 := w.zeroExtend 64 }

/-! ## Level two (R172 to R175) -/

/-- Doubleword 0x00 of a record (R172). -/
def recHead (kind reason die core slot : Nat) : W64 :=
  BitVec.ofNat 8 kind ++ BitVec.ofNat 8 reason ++ BitVec.ofNat 4 die ++ 0#2 ++ BitVec.ofNat 10 core ++ 0#2
    ++ BitVec.ofNat 2 slot ++ 0#28

/-- Launch tag of a team (R200's launch body, R172). -/
def State.tagOf (s : State) (tid : Nat) : W64 := (s.team tid).tag

/-- A record that an agent of a team sends to level two. -/
def State.teamRec (s : State) (tid kind reason : Nat) (body : TrapRec) (src : Source) : Rec2 :=
  let c := teamCore tid
  { kind := kind, head := recHead kind reason (coreDie c) c (tid % 4), tag := s.tagOf tid, body := body,
    die := coreDie c, permit := .core c, src := src, tid := some tid }

/-- Sends a record to level two: it is written when a permit and a free entry are found (R174). -/
def State.send (s : State) (r : Rec2) : State := { s with records := s.records ++ [r] }

/-! ## Monitors (R270, R271, R379) -/

/-- Number of a line in its device, from the number that its place has here: the physical address [63:7] (R209, R379). -/
def physLine (dev line : Nat) : Nat :=
  if line < 2 ^ 35 then dev * 2 ^ 35 + line else (line / 2 ^ 35 - 1) * 2 ^ 35 + line % 2 ^ 35

/-- The three hashes of a line, as the device of a number sees it (R379). -/
def lineHash (dev l : Nat) : Nat × Nat × Nat :=
  let line := physLine dev l
  let rot (c k : Nat) : Nat := (c * 2 ^ (k % 12) + c / 2 ^ (12 - k % 12)) % 4096
  let h (k : Nat) : Nat := (List.range 5).foldl (fun a i => a ^^^ rot (line / 2 ^ (12 * i) % 4096) (k * i)) 0
  (h 1, h 2, h 3)

/-- A slot is armed in a filter: its bits are set and counted. -/
def Filter.arm (f : Filter) (h : Nat × Nat × Nat) : Filter :=
  { f with bits := f.bits ||| (1#4096 <<< h.1) ||| (1#4096 <<< h.2.1) ||| (1#4096 <<< h.2.2), armed := f.armed + 1 }

/-- A slot of a filter is freed: the count falls, and at zero every bit is cleared. -/
def Filter.free (f : Filter) : Filter :=
  let n := f.armed - 1
  { f with bits := if n = 0 then 0 else f.bits, armed := n }

/-- The line lies on another device, whose filter has its waiter slots. -/
def isPeerLine (line : Nat) : Bool := decide (2 ^ 35 ≤ line) && decide (line / 2 ^ 35 ≤ 2 ^ 22)

/-- I/O die (0 or 1) nearer to a die. -/
def ioNear (die : Nat) : Nat := if hops die 8 ≤ hops die 9 then 0 else 1

/-- A Holusk route entry matches a device number. -/
def routeHit (e : W64) (dev : Nat) : Bool :=
  let n := fieldOf e 22 5
  e.getLsbD 63 && decide (n ≤ 22) && fieldOf e 0 22 / 2 ^ (22 - n) == dev / 2 ^ (22 - n)

/-- Port of the I/O die that a line of another device takes: the longest prefix, ties to the lower entry, and then by the
line's number among the ports of the mask (R384). -/
def State.route (s : State) (io dev line : Nat) : Option Nat :=
  let es := (s.iod io).routes.filter (fun e => routeHit e.2 dev)
  match leastBy (fun e => [22 - fieldOf e.2 22 5, e.1]) es with
  | none => none
  | some e =>
    let ports := (List.range 12).filter (fun p => e.2.getLsbD (27 + p))
    ports[line % ports.length]?

/-- What a Holusk flit says of a filter (assumption 95): 2 a slot is armed, 3 it is freed, 4 a write's hashes; the line or the
hashes; and the device it comes from. -/
def filterFlit (kind x dev : Nat) : List Byte := natLe 1 kind ++ natLe 8 x ++ natLe 4 dev

/-- A payload waits at the Holusk port of the route to a device (R384, R411). -/
def State.post (s : State) (io dev line : Nat) (l : List Byte) (src : Option Nat) : State :=
  match s.route io dev line with
  | none => s
  | some p =>
    let n := io * 12 + p
    let q : Port := kvGet {} s.ports n
    { s with ports := kvSet s.ports n { q with waiting := q.waiting ++ [(l, src)] } }

/-- A waiter slot is armed at the home of a line: in its die's filter, or over Holusk in that of another device (R379). -/
def State.arm (s : State) (line : Nat) (die : Nat := 0) (src : Option Nat := none) : State :=
  let own := (s.die 0).devnum.toNat
  if isPeerLine line then s.post (ioNear die) (line / 2 ^ 35 - 1) (physLine own line) (filterFlit 2 (physLine own line) own) src
  else if 2 ^ 35 ≤ line then s
  else s.updDie (homeDie (line * 128)) (fun d => { d with filter := d.filter.arm (lineHash own line) })

/-- A waiter slot is freed at the home of its line (R379). -/
def State.disarm (s : State) (m : Option Monitor) : State :=
  match m with
  | none => s
  | some x =>
    let own := (s.die 0).devnum.toNat
    if isPeerLine x.line then
      s.post (ioNear x.die) (x.line / 2 ^ 35 - 1) (physLine own x.line) (filterFlit 3 (physLine own x.line) own) none
    else if 2 ^ 35 ≤ x.line then s
    else s.updDie (homeDie (x.line * 128)) (fun d => { d with filter := d.filter.free })

/-- The home of a slot's line has not armed it yet: the flit that asks for it has not been acknowledged (R379). -/
def State.arming (s : State) (m : Option Monitor) : Bool :=
  match m.bind (fun x => x.src) with
  | none => false
  | some n => s.ports.any (fun p => p.2.waiting.any (fun w => w.2 == some n) || p.2.window.any (fun w => w.src == some n))

/-- Waiter slots in use on a core, of 16. -/
def State.waiters (s : State) (c : Nat) : Nat :=
  ((s.ctxs.filter (fun e => isTeamCtx e.1 && e.1 / 4 == c && e.2.monitor.isSome)).length
    + (s.groups.filter (fun e => e.1 / 64 == c && e.2.monitor.isSome)).length)

/-! ## Freeing and killing a team (R129, R175) -/

/-- The name under which a store of a team that is gone stays in hold-back. -/
def orphan : Nat := 8192

/-- No agent of a team waits for the record any more. -/
def Rec2.forget (tid : Nat) (r : Rec2) : Rec2 :=
  match r.src with
  | .agent x _ => if x = tid then { r with src := .nobody } else r
  | _ => r

/-- Every agent, queue and resource of a team is taken from its core (R129, R175, R179). Its held stores are discarded,
or stay to drain normally. Copies and replies under way no longer find it. -/
def State.freeTeam (s : State) (tid : Nat) (discard : Bool) : State :=
  let t := s.team tid
  let c := teamCore tid
  let gs := (List.range 16).map (groupId tid)
  let s1 := s.disarm (s.ctx tid).monitor
  let s2 := gs.foldl (fun a g => a.disarm (a.grp g).monitor) s1
  let s3 := s2.updCore c (fun k =>
    { k.dropJob (tid % 4) with
      hold := if discard then k.hold.filter (fun h => h.team != tid)
              else k.hold.map (fun h => if h.team = tid then { h with team := orphan } else h)
      unitsUsed := k.unitsUsed.filter (fun u => !t.units.contains u)
      lent := t.units.foldl natAdd k.lent
      accUsed := k.accUsed.filter (fun u => !t.slots.contains u)
      barsUsed := k.barsUsed - t.bars })
  { s3 with
    teams := kvDel s3.teams tid
    ctxs := kvDel s3.ctxs tid
    groups := gs.foldl kvDel s3.groups
    engines := kvMap (fun _ l => l.map (fun o =>
      match o.by_ with
      | .ctx id _ => if id = tid then { o with gone := true } else o
      | _ => o)) s3.engines
    records := s3.records.map (Rec2.forget tid)
    dies := kvMap (fun _ d => { d with fq := kvMap (fun _ r => r.forget tid) d.fq }) s3.dies }

/-- A gang's team has left: its peers' cores learn of it later (R267). -/
def State.leaveGang (s : State) (t : Team) : State :=
  match t.gang with
  | some g => s.updGang g (fun x => { x with retired := kvSet x.retired t.gangIdx s.clk })
  | none => s

/-- An agent has reissued its parked access, or has been taken from its park: those released after it go on (R177). -/
def State.replayed (s : State) (tid : Nat) (a : Agent) : State :=
  if (s.team tid).replay.contains a then s.updTeam tid (fun t => { t with replay := t.replay.erase a }) else s

/-! ## The end of a launch's teams (R338, R356, R376, R377) -/

/-- A gang's sub-rectangle reaches a die. -/
def Gang.touches (g : Gang) (d : Nat) : Bool :=
  (List.range (g.w * g.h)).any (fun i => coreDie (coreAt (g.ox + i % g.w) (g.oy + i / g.w)) == d)

/-- A launch still has a team on a die: resident, waiting, or of a gang that waits. -/
def State.teamsLeftOn (s : State) (lid d : Nat) : Bool :=
  s.teams.any (fun e => e.2.lid == lid && coreDie (teamCore e.1) == d) || (s.die d).pending.any (fun w => w.lid == lid) ||
    s.gangs.any (fun e => e.2.lid == lid && e.2.waiting && e.2.touches d)

/-- A range's measured miss ratio is above 4 times or below a quarter of what its class expects (R377). -/
def Hot.odd (h : Hot) : Bool :=
  let q := match h.cls with | 0 => 1 | 1 => 2 | 2 => 8 | _ => 32
  decide (65536 ≤ h.accesses) && (decide (4 * h.accesses < h.misses * q) || decide (4 * h.misses * q < h.accesses))

/-- The ADVISORY record of a hotness range (R378). DESIGN CHOICE (assumption 121): a count beyond its four bytes wraps. -/
def Hot.advisory (h : Hot) (d : Nat) : Rec2 :=
  { kind := 5, head := recHead 5 0 d 0 0, tag := h.tag, die := d, permit := .dist d
    body := { t0 := 1, t1 := h.base, t2 := h.len, t3 := w64 h.cls
              t4 := w64 (h.accesses % 2 ^ 32 + h.misses % 2 ^ 32 * 2 ^ 32) } }

/-- The last team of a launch on a die has gone: its hotness ranges are judged and freed (R377). -/
def State.hotEnd (s : State) (lid d : Nat) : State :=
  let l := (s.die d).hot.filter (fun h => h.lid == lid)
  if l.isEmpty || s.teamsLeftOn lid d then s
  else (l.filter Hot.odd).foldl (fun a h => a.send (h.advisory d))
    (s.updDie d (fun k => { k with hot := k.hot.filter (fun h => h.lid != lid) }))

/-- A team of a launch's run is gone: after the last, the next run of the series or the completion signal is due. -/
def Launch.teamGone (l : Launch) (die : Nat) (killed : Bool) : Launch :=
  let n := l.teamsLeft - 1
  { l with
    teamsLeft := n, lastDie := die, cancelled := l.cancelled || killed
    stage := if n ≠ 0 then l.stage else if l.inSeries && decide (l.run + 1 < l.runs) then .between else .signal }

/-- A team has left a die for good. -/
def State.teamGone (s : State) (lid die : Nat) (killed : Bool) : State :=
  (s.updLaunch lid (fun l => l.teamGone die killed)).hotEnd lid die

/-- A team is killed (R175): its agents stop, its queues are discarded, its resources are freed and a KILL record goes to
level two. The launch runs on, and its completion signal is not written. -/
def State.kill (s : State) (tid reason : Nat) : State :=
  if s.hasTeam tid then
    let t := s.team tid
    let r := s.teamRec tid 4 reason {} .nobody
    let die (o : CopyOp) : CopyOp :=
      match o.by_ with
      | .ctx id _ => if id = tid ∧ !o.gone then { o with dead := true } else o
      | _ => o
    let sd := { s with engines := kvMap (fun _ l => l.map die) s.engines }
    let s0 := ((sd.freeTeam tid (reason == 3 || reason == 4)).leaveGang t).send r
    let s1 := s0.fire (coreDie (teamCore tid)) 4
    s1.teamGone t.lid (coreDie (teamCore tid)) true
  else s

/-! ## Failure of a die (R25, R26, R163, R214) -/

/-- Die of a cache. -/
def cacheDie (k : Nat) : Nat :=
  if k < 1024 then coreDie k else if k < 2048 then (k - 1024) / 16 else (k - 2048) / 128

/-- The cache is an RDC. -/
def isRdc (k : Nat) : Bool := 1024 ≤ k && k < 2048

/-- The directory entry of a line of which a die holds no copy any more; a dirty one has been written back (R375). -/
def DirEntry.leave (e : DirEntry) (die : Nat) : DirEntry :=
  let v := e.vec &&& ~~~(1#8 <<< die)
  if e.owner = die then (if v = 0 then {} else { state := .s, owner := 15, vec := v })
  else if v = 0 ∧ e.owner = 15 then {} else { e with vec := v }

/-- The only current copy of a line is in an RDC of the die (R214). -/
def DirEntry.only (e : DirEntry) (die : Nat) : Bool :=
  e.owner == die && (e.state == .m || (e.state == .o && (e.vec &&& ~~~(1#8 <<< die)) == 0))

/-- Launches with a team on a die, resident or swapped out. -/
def State.launchesOn (s : State) (d : Nat) : List Nat :=
  ((s.teams.filter (fun e => coreDie (teamCore e.1) == d)).map (fun e => e.2.lid) ++
    ((s.die d).pending.filter (fun w => w.swapped.isSome)).map (fun w => w.lid)).eraseDups

/-- A launch that is ended leaves a die's lists. -/
def Die.dropLaunches (k : Die) (ls : List Nat) : Die :=
  { k with
    pending := k.pending.filter (fun w => !ls.contains w.lid), prologues := k.prologues.filter (fun l => !ls.contains l)
    hot := k.hot.filter (fun h => !ls.contains h.lid)
    prologue := match k.prologue with | some l => (if ls.contains l then none else some l) | none => none }

/-- A record of the end of a launch goes to each surviving instance that had admitted one of its teams and holds none now;
the others get the KILL records of their teams (R26). -/
def State.reportEnded (s : State) (d lid : Nat) : State :=
  let left := (s.launch lid).admitted.filter (fun x => x != d && !(s.die x).hole &&
    !s.teams.any (fun e => e.2.lid == lid && coreDie (teamCore e.1) == x))
  left.foldl (fun a x => (a.send { kind := 4, head := recHead 4 7 x 0 0, tag := spGet (s.launch lid).field 23, die := x, permit := .dist x }).fire x 4) s

/-! ## Links (R383, R413) -/

/-- A Holusk port's link, or the router of a die link, which has a number from 24 on. -/
def State.link (s : State) (n : Nat) : Link := kvGet {} s.links n
/-- Changes a link. -/
def State.updLink (s : State) (n : Nat) (f : Link → Link) : State := { s with links := kvSet s.links n (f (s.link n)) }

/-- A link carries packets. -/
def Link.up (l : Link) (clk : Nat) : Bool :=
  !l.off && (match l.wakeAt with | some t => decide (t ≤ clk) | none => true)

/-- A packet approaches a link (R413): one that is up is idle no longer; one that is off wakes for 200 ns, 320 fabric clocks,
but against a power-down of the same fabric clock the wake wins. -/
def Link.wake (l : Link) (clk : Nat) : Link :=
  if l.off then
    (if l.idleSince = clk then { l with off := false, wakeAt := none, rewait := true }
     else { l with off := false, wakeAt := some (clk + 320), idleSince := clk + 320, rewait := false })
  else if l.up clk then { l with wakeAt := none, idleSince := clk, rewait := false }
  else l

/-- Dies that a packet from one die to another passes, by the route tables; n bounds their number (R383). -/
def State.path (s : State) (a b n : Nat) : List Nat :=
  match n with
  | 0 => []
  | k + 1 => if a = b then [a] else a :: s.path (fieldOf ((s.die a).droute.zeroExtend 64) (4 * b) 4) b k

/-- A packet passes from one die to another: each router on its way is idle no longer (R383, R413; assumption 110). -/
def State.between (s : State) (a b : Nat) : State :=
  if a = b then s else (s.path a b 10).foldl (fun t d => t.updLink (24 + d) (fun k => k.wake t.clk)) s

/-! ## A die that fails (R26, R214) -/

/-- Frame of an entry: local address bits [41:16]. -/
def pteFrame (e : W64) : Nat := fieldOf e 16 26 * 65536
/-- Tier of a leaf. -/
def pteTier (e : W64) : Nat := fieldOf e 14 2
/-- Where a local address lies in an MMIO window: die and offset (R209). -/
def mmioOf (la : Nat) : Option (Nat × Nat) :=
  if 0x30000000000 ≤ la && la < 0x3A000000000 then
    some ((la - 0x30000000000) / 0x1000000000, la % 0x1000000000)
  else none
/-- The place is a register's. -/
def isMmio (pl : Nat) : Bool := (mmioOf pl).isSome

/-- A leaf as re-homing leaves it (R26, R214): where its page's home has failed, the lowest surviving copy is the home, and is
no longer in the mask; a copy on a die that has failed is no copy. DESIGN CHOICE (assumption 122): every walk and every cached
translation has it so from the failure on. -/
def State.rehome (s : State) (e : W64) : W64 :=
  let lost (d : Nat) : Bool := (s.die d).hole
  if pteTier e ≠ 0 || isMmio (pteFrame e) then e
  else
    let copies := (List.range 8).filter (fun d => (fieldOf e 56 8).testBit d && !lost d)
    let e1 := (e &&& 0x00FFFFFFFFFFFFFF#64) ||| w64 ((copies.map (fun d => 2 ^ (56 + d))).foldl (· + ·) 0)
    match copies with
    | [] => e1
    | d :: _ => if lost (pteFrame e / 0x2000000000) then
        (e1 &&& ~~~w64 (7 * 2 ^ 37 + 2 ^ (56 + d))) ||| w64 (d * 2 ^ 37) else e1

/-- A cached translation after a die's failure. -/
def State.rehomeTlb (s : State) (t : Tlb) : Tlb := { t with pte := s.rehome t.pte }

/-- A compute die fails: it becomes a hole, its cores report as absent, its teams and the launches they belong to are
ended with kill reason 7, and each surviving instance that had admitted one of a launch's teams gets a record. Lines that
only its caches held dirty are poisoned at their homes. -/
def State.failDie (s : State) (d : Nat) : State :=
  let ls := s.launchesOn d
  let tids := (s.teams.filter (fun e => ls.contains e.2.lid)).map (fun e => e.1)
  let s0 := ls.foldl (fun a l => a.reportEnded d l) s
  let s1 := tids.foldl (fun a t => a.kill t 7) s0
  let lost := s1.dir.filter (fun e => e.2.only d)
  let s2 := lost.foldl (fun a e => (a.poisonSector (e.1 * 128)).poisonSector (e.1 * 128 + 64)) s1
  let failed := { s2.die d with hole := true, pending := [], prologues := [], prologue := none, fq := [], hot := [] }
  let s3 := s2.setDie d failed
  let put (l : List Tlb) : List Tlb := l.map s3.rehomeTlb
  { s2 with
    dies := kvMap (fun _ k => { k with
      l2tlb := kvMap (fun _ l => put l) k.l2tlb, cetlb := kvMap (fun _ l => put l) k.cetlb, ats := put k.ats })
      (kvSet (kvMap (fun _ k => k.dropLaunches ls) s2.dies) d failed)
    cores := kvMap (fun _ k => { k with tlb := put k.tlb }) s2.cores
    gangs := s2.gangs.filter (fun e => !(e.2.waiting && ls.contains e.2.lid))
    copies := s2.copies.filter (fun c => cacheDie c.cache != d), dir := kvMap (fun _ e => e.leave d) s2.dir
    ctxs := s2.ctxs.filter (fun e => isTeamCtx e.1 || (ctxDie e.1 != d && !(isPro e.1 &&
      (match (s2.die (ctxDie e.1)).prologue with | some l => ls.contains l | none => false))))
    launches := s2.launches.filter (fun e => !ls.contains e.1)
    records := s2.records.filter (fun r => r.die != d)
    sends := s2.sends.filter (fun e => ctxDie e.1 != d) }

end Sys2Proof.Machine
end

