-- ==== Sys2Proof/Machine/Flags.lean ====
section
/-! DEFINITION. Machine/Flags.lean: every condition, flag and signature the spec computes: condition codes of the
generator (R118), sticky FP flags (R96, R100), the trees of predicates, and the signature fold (R48). -/

namespace Sys2Proof.Machine

/-- Condition codes of CMP and CMPI (R118): 0 EQ, 1 NE, 2 LT, 3 GE, 4 LTU, 5 GEU. -/
def condHolds (cc : Nat) (a b : W64) : Bool :=
  match cc with
  | 0 => a == b
  | 1 => a != b
  | 2 => a.slt b
  | 3 => b.sle a
  | 4 => a.ult b
  | _ => b.ule a

/-- Operations of CBOP (R119). -/
def condOp (op : Nat) (a b : Bool) : Bool :=
  match op with
  | 0 => a && b
  | 1 => a || b
  | 2 => a != b
  | 3 => a && !b
  | 4 => true
  | _ => false

/-- Sticky flags of an FP result (R40): invalid, divide by zero, overflow, underflow, inexact. -/
structure FFlags where
  nv : Bool := false
  dz : Bool := false
  of : Bool := false
  uf : Bool := false
  nx : Bool := false
deriving DecidableEq, Repr, Inhabited

/-- The flags as FPX holds them: [4] invalid to [0] inexact. -/
def FFlags.bits (f : FFlags) : BitVec 5 :=
  BitVec.ofBool f.nv ++ BitVec.ofBool f.dz ++ BitVec.ofBool f.of ++ BitVec.ofBool f.uf ++ BitVec.ofBool f.nx

/-- Either's flags. -/
def FFlags.or (a b : FFlags) : FFlags :=
  { nv := a.nv || b.nv, dz := a.dz || b.dz, of := a.of || b.of, uf := a.uf || b.uf, nx := a.nx || b.nx }

/-- n steps of the signature's shift (R48). -/
def sigShift (n : Nat) (x : W32) : W32 :=
  match n with
  | 0 => x
  | k + 1 => sigShift k (if x.getLsbD 0 then (x >>> 1) ^^^ 0x82F63B78#32 else x >>> 1)

/-- The fold of a word into a signature (R48): its four bytes, the lowest first. -/
def sigFold (x w : W32) : W32 :=
  let byte (x : W32) (i : Nat) : W32 := sigShift 8 (x ^^^ (w.extractLsb' (8 * i) 8).zeroExtend 32)
  byte (byte (byte (byte x 0) 1) 2) 3

/-- The signature at admission, GARM, a marker and rollback (R48). -/
def sigInit : W32 := 0xFFFFFFFF#32

end Sys2Proof.Machine
end

