-- ==== Sys2Proof/Machine/Groups.lean ====
section
/-! DEFINITION. Machine/Groups.lean: a group's issue queue, its clauses and loops, the consumption of words, the K and
return queues, and the raising of a C-fault (R40 to R48, R63 to R74, R151 to R153, R164 to R169). -/

namespace Sys2Proof.Machine

/-! ## Vector registers (R40 to R42) -/

/-- A lane of a vector register. -/
def Group.vget (g : Group) (x l : Nat) : W32 := spGet g.v (x * 32 + l)
/-- Writes a lane of a vector register; code 127 discards (R41). -/
def Group.vput (g : Group) (x l : Nat) (w : W32) : Group :=
  if x = 127 then g else { g with v := spSet g.v (x * 32 + l) w }
/-- A predicate register. -/
def Group.pget (g : Group) (p : BitVec 3) : Lanes := spGet g.p p.toNat
/-- Writes a predicate register. -/
def Group.pput (g : Group) (p : BitVec 3) (x : Lanes) : Group := { g with p := spSet g.p p.toNat x }
/-- A base register. -/
def Group.base (g : Group) (n : BitVec 3) : W64 := spGet g.ab n.toNat
/-- A completion flag. -/
def Group.flag (g : Group) (f : Nat) : Nat := (spGet g.cf f).toNat

/-! ## MODE (R43) -/

/-- Element type of a MODE. -/
def modeType (m : W32) : Nat := fieldOf m 5 4
/-- Rounding of a MODE. -/
def modeRound (m : W32) : Nat := fieldOf m 9 3
/-- Saturation of a MODE. -/
def modeSat (m : W32) : Bool := m.getLsbD 12
/-- Scope of a MODE. -/
def modeScope (m : W32) : Nat := fieldOf m 13 3
/-- Promote bit of a MODE. -/
def modePromote (m : W32) : Bool := m.getLsbD 16
/-- Store colour of a MODE. -/
def modeColour (m : W32) : BitVec 3 := m.extractLsb' 17 3
/-- Engines of a MODE: [0] CE, [1] MX, [2] IO. -/
def modeEngines (m : W32) : Nat := fieldOf m 20 3
/-- Fence mask of a MODE. -/
def modeFence (m : W32) : Nat := fieldOf m 23 8
/-- FP trapping of a MODE. -/
def modeTrap (m : W32) : Bool := m.getLsbD 31
/-- A value that MODE may hold (R44). -/
def modeOk (m : W32) : Bool :=
  decide (fieldOf m 0 4 ≤ 8) && decide (modeType m ≤ 10) && decide (modeRound m ≤ 4) && decide (modeScope m ≤ 4)

/-- Lanes that execute a word: the active mask under the guard (R133). -/
def Group.lanes (g : Group) : Lanes :=
  let n := fieldOf g.mode 0 4
  if n = 0 then g.active
  else
    let p := spGet g.p (n - 1)
    g.active &&& (if g.mode.getLsbD 4 then ~~~p else p)

/-- The lane that a uniform source is read in (R134): the lowest of the active mask, or 0. -/
def Group.uniLane (g : Group) : Nat := ctzL 32 g.active.toNat
where
  /-- Place of the lowest one bit, 0 for none. -/
  ctzL (n x : Nat) : Nat :=
    match n with
    | 0 => 0
    | k + 1 => if x = 0 then 0 else if x % 2 = 1 then 0 else 1 + ctzL k (x / 2)

/-! ## The issue queue (R64, R65, R185) -/

/-- Entries not consumed yet. -/
def Group.live (g : Group) : List QEntry := g.queue.filter (fun e => !e.consumed)
/-- The entry at the head. -/
def Group.head (g : Group) : Option QEntry := g.live.head?
/-- Retained entries (R185). -/
def Group.retained (g : Group) : Nat := g.queue.length
/-- A queue with its oldest live entry consumed. -/
def consumeHead (l : List QEntry) : List QEntry :=
  match l with
  | [] => []
  | e :: t => if e.consumed then e :: consumeHead t else { e with consumed := true } :: t
/-- The low word of an entry. -/
def QEntry.word (e : QEntry) : W32 := e.val.extractLsb' 0 32
/-- The entry is a clause header (R59). -/
def QEntry.isHeader (e : QEntry) : Bool := e.kind == .word && fieldOf e.val 28 4 == 15
/-- Body words that a header owes (R59). -/
def headerLen (w : W32) : Nat := fieldOf w 4 4 + 1
/-- An entry counts as arrived from the core clock after its push (R65). -/
def QEntry.arrived (e : QEntry) (clk : Nat) : Bool := decide (e.at_ / 2 < clk / 2)

/-- The K constants that stand at the head, oldest first. -/
def Group.kLive (g : Group) : List W32 := (g.kq.filter (fun e => !e.popped)).map (fun e => e.val)
/-- Pops n constants of a K queue, which keep their places (R343). -/
def popK (l : List KEntry) (n : Nat) : List KEntry :=
  match l, n with
  | [], _ => []
  | l, 0 => l
  | e :: t, n + 1 => if e.popped then e :: popK t (n + 1) else { e with popped := true } :: popK t n

/-- Constants that a word pops (R41): one for each vector source field that names 127, two for a 64-bit one. -/
def kPops (i : Instr) : Nat :=
  let k (x : BitVec 7) (n : Nat) : Nat := if x = 127 then n else 0
  match i with
  | .cFma _ a b c | .cFms _ a b c | .cFnma _ a b c | .cImad _ a b c | .cImadh _ a b c | .cDp4a _ a b c
  | .cShf _ a b c => k a 1 + k b 1 + k c 1
  | .cSelv _ a b _ | .cFadd _ a b | .cFsub _ a b | .cFmul _ a b | .cFmin _ a b | .cFmax _ a b
  | .cFcmpEq _ a b | .cFcmpNe _ a b | .cFcmpLt _ a b | .cFcmpLe _ a b | .cFcmpGt _ a b | .cFcmpGe _ a b
  | .cFcmpUn _ a b | .cIadd _ a b | .cIsub _ a b | .cImul _ a b | .cImin _ a b | .cImax _ a b | .cIand _ a b
  | .cIor _ a b | .cIxor _ a b | .cIandn _ a b | .cIshl _ a b | .cIshr _ a b | .cIsra _ a b | .cIcmpEq _ a b
  | .cIcmpNe _ a b | .cIcmpLt _ a b | .cIcmpLe _ a b | .cIcmpGt _ a b | .cIcmpGe _ a b | .cIbfx _ a b
  | .cPack _ a b | .cShfl _ a b | .cShflup _ a b | .cShfldn _ a b | .cShflx _ a b | .cLds _ a b | .cLds64 _ a b
  | .cLdsf _ a b | .cLdsfk _ a b | .cPushg a b | .cPushgNb _ a b => k a 1 + k b 1
  | .cSts d a b | .cStse d a b | .cStsf d a b | .cSptag d a b | .cXst d a b => k a 1 + k b 1 + k d 1
  | .cSts64 d a b => k a 1 + k b 1 + k d 2
  | .cFabs _ a | .cFneg _ a | .cFrcp _ a | .cFrsq _ a | .cFsqrt _ a | .cFex2 _ a | .cFlg2 _ a | .cFclass _ a
  | .cIabs _ a | .cIneg _ a | .cIpopc _ a | .cIclz _ a | .cIbrev _ a | .cMov _ a | .cCvt _ a _ | .cUnpkl _ a
  | .cUnpkh _ a | .cBcast _ a | .cBallot _ a | .cRedadd _ a | .cRedmax _ a | .cRedmin _ a | .cPset _ a
  | .cRepeat a | .cSetmode a | .cTrapg a | .cMwaitb a => k a 1
  | .cLd _ _ _ b _ | .cLd64 _ _ b _ | .cLdp _ _ _ b _ | .cGather _ _ _ b _ | .cBarwait _ b => k b 1
  | .cSt d _ _ _ b _ | .cAmo d _ _ b _ | .cMonw d _ b | .cAmos d _ _ b => k b 1 + k d 1
  | .cSt64 d _ _ b _ => k b 1 + k d 2
  | .cSigchk => 1
  | _ => 0

/-- A FENCE among the entries of a queue that keeps back what was pushed or issued after its EMIT: bit says which engine, n
its count at the push. A FENCE takes its engine set from MODE as the words before it leave it, m while that is known; ks are
the constants that they pop (R41, R155, R228; assumption 41). -/
def fenceAhead (bit n : Nat) (l : List QEntry) (ks : List W32) (m : Option W32) : Bool :=
  match l with
  | [] => false
  | e :: t =>
    match (if e.kind == .word then decodeC e.word else none) with
    | none => fenceAhead bit n t ks m
    | some i =>
      let k1 := ks.drop (kPops i)
      match i with
      | .cFence _ =>
        (decide ((if bit = 0 then e.mark else e.mws) ≤ n) && (match m with | some x => (modeEngines x).testBit bit | none => true)) ||
          fenceAhead bit n t k1 m
      | .cSetmode a => fenceAhead bit n t k1 (if a = 127 then ks.head? else none)
      | .cElse | .cEndif => fenceAhead bit n t k1 none
      | _ => fenceAhead bit n t k1 m

/-- A FENCE that stands in a group's queue, or has issued and not completed, keeps an engine's later work back (R228). -/
def Group.fenceHolds (g : Group) (bit n : Nat) : Bool :=
  let rest := match g.clause with | some c => c.words.drop c.pos | none => []
  [g.wait, g.after].any (fun w => match w with
    | .fence _ _ eng _ copies mws => eng.testBit bit && decide ((if bit = 0 then copies else mws) ≤ n)
    | _ => false) || fenceAhead bit n (rest ++ g.live) g.kLive (some g.mode)

/-! ## Consumption (R48, R72, R152) -/

/-- The ESN that the word at turn bears, or would take (R72). -/
def Group.wordEsn (g : Group) : W32 :=
  match g.clause with
  | some c => c.esns.getD c.pos g.esn
  | none => g.esn

/-- The word at the head takes its ESN and is folded into SIG. -/
def Group.consume (g : Group) (w : W32) : Group :=
  { g with esn := g.esn + 1, sig := sigFold g.sig w, queue := consumeHead g.queue }

/-- The loop ends: the active mask of its REPEAT returns (R152). -/
def Group.endLoop (g : Group) : Group := { g with active := g.loopMask, loopOn := false, loopLeft := 0, clause := none }

/-- A group that has issued its word waits; an end-of-pass fault of that word holds it first (R152). -/
def Group.waitNext (g : Group) (w : GWait) : Group :=
  match g.wait with
  | .ready => { g with wait := w }
  | .held => { g with after := w }
  | _ => g

/-- A group goes on to what it waited for, unless a word that completed late, or the word at its turn, holds it (R164,
R169). -/
def Group.letGo (g : Group) : Group :=
  if g.late.isEmpty ∧ (g.heldCode = 0 ∨ g.skip ∨ g.noTrap) then { g with wait := g.after, after := .ready } else g

/-- A group that the end-of-pass fault held goes on to the wait of its word (R169). -/
def Group.goOn (g : Group) : Group := ({ g with heldCode := 0 } : Group).letGo

/-- A word that completed late no longer holds its group. -/
def Group.endLate (g : Group) (esn : W32) : Group := ({ g with late := g.late.erase esn } : Group).letGo

/-- A word that completed late holds its group: a barrier word or FENCE that has issued is waited for afterwards, and a word
that only stands at its turn is tried again (R164). -/
def Group.holdLate (g : Group) (esn : W32) : Group :=
  { g with
    late := g.late ++ [esn], wait := .held, park := if g.wait = .parked then 0 else g.park
    after := match g.wait with
      | .held => g.after
      | .barrier b ph => .barrier b ph
      | .fence a b c d e f => .fence a b c d e f
      | _ => .ready }

/-- After a body word: the next word, the next pass, or the end of the clause; the flag is the end-of-pass fault of
R152. -/
def Group.nextWord (g : Group) : Group × Bool :=
  match g.clause with
  | none => (g, false)
  | some c =>
    if c.pos + 1 < c.words.length then ({ g with clause := some { c with pos := c.pos + 1 } }, false)
    else if g.loopOn then
      if g.stack.length != g.loopDepth.toNat then (g.endLoop, true)
      else if g.loopLeft = 0 then (g.endLoop, false)
      else ({ g with loopLeft := g.loopLeft - 1, clause := some { c with pos := g.loopStart.toNat } }, false)
    else ({ g with clause := none }, false)

/-- A word of a clause has issued: it is consumed at its first issue, n constants are popped, and the group goes on. -/
def Group.issued (g : Group) (w : W32) (n : Nat) : Group × Bool :=
  let g1 := { g with kq := popK g.kq n, wait := .ready, noTrap := false, skip := false, heldWord := none, heldCode := 0,
                     issues := g.issues + 1, readyFor := 0, overdue := false }
  match g1.clause with
  | none => (g1.consume w, false)
  | some c =>
    if c.esns.length ≤ c.pos then
      ({ g1.consume w with clause := some { c with esns := c.esns ++ [g1.esn] } }).nextWord
    else g1.nextWord

/-! ## C-faults (R164, R165) -/

/-- A C-fault: cause, lanes, address, two words of information. -/
structure CFault where
  code : Nat
  lanes : Lanes := 0
  t3 : W64 := 0
  t4 : W64 := 0
  t5 : W64 := 0
deriving DecidableEq, Repr, Inhabited

/-- The record of a C-fault (R165). -/
def CFault.toRec (f : CFault) (g : Nat) (esn : W32) (pc : BitVec 48) (w : W32) : TrapRec :=
  { t0 := trec0 1 g f.code esn, t1 := pc.zeroExtend 64, t2 := f.lanes.zeroExtend 64, t3 := f.t3, t4 := f.t4, t5 := f.t5,
    t7 := w.zeroExtend 64 }

/-- A fault of a group with a given sequence number: the group is held, and the record waits until every older word has
completed (R164). -/
def State.raiseAt (s : State) (gid : Nat) (f : CFault) (esn : W32) (pc : BitVec 48) (w : W32) : State :=
  let s1 := (s.updGrp gid (fun g => { g with wait := .held, heldCode := f.code })).fire (coreDie (gid / 64)) 1
  s1.updTeam (groupTeam gid) (fun t =>
    { t with faults := t.faults ++ [{ agent := .grp (gid % 16), trec := f.toRec (gid % 16) esn pc w }] })

/-- A fault of a word that completes after younger ones have issued: it holds the group too, and its record comes before
those of younger words (R164). -/
def State.raiseLate (s : State) (gid : Nat) (f : CFault) (esn : W32) (pc : BitVec 48) (w : W32) : State :=
  let s1 := (s.updGrp gid (fun g => g.holdLate esn)).fire (coreDie (gid / 64)) 1
  let younger (p : Pended) : Bool :=
    p.agent == .grp (gid % 16) && decide (((p.trec.t0.extractLsb' 32 32) - esn).toNat < 2 ^ 31)
  let p : Pended := { agent := .grp (gid % 16), trec := f.toRec (gid % 16) esn pc w }
  s1.updTeam (groupTeam gid) (fun t =>
    let i := (t.faults.findIdx? younger).getD t.faults.length
    { t with faults := t.faults.take i ++ p :: t.faults.drop i })

/-- A fault of the word at a group's turn: nothing changes but that the group is held at it (R9, R164). -/
def State.raiseC (s : State) (gid : Nat) (f : CFault) (e : QEntry) : State :=
  (s.updGrp gid (fun g => { g with heldWord := some e })).raiseAt gid f (s.grp gid).wordEsn e.pc e.word

/-- A fault that does not arise per lane names the active mask (R165). -/
def State.raiseCMask (s : State) (gid code : Nat) (t4 t5 : W64) (e : QEntry) : State :=
  s.raiseC gid { code := code, lanes := (s.grp gid).active, t4 := t4, t5 := t5 } e

/-- The word at a group's turn has issued; the end-of-pass fault of R152 is reported at it, and it stands. DESIGN CHOICE
(assumption 98): TREC2 of that C_RECONV is the active mask after loop.mask has been restored. -/
def State.finish (s : State) (gid : Nat) (e : QEntry) (n : Nat) : State :=
  let g := s.grp gid
  let r := g.issued e.word n
  let s1 := s.setGrp gid r.1
  if r.2 then
    s1.raiseAt gid { code := 0x107, lanes := r.1.active, t4 := w64 g.stack.length, t5 := 1 } g.wordEsn e.pc e.word
  else s1

/-- Constants that the skip of a held word pops (R169): none for an illegal word or a header. -/
def skipPops (e : QEntry) (code : Nat) : Nat :=
  if e.isHeader || code == 0x101 then 0 else match decodeC e.word with | some i => kPops i | none => 0

/-- The held word of a group is skipped once its constants are there (R169): it is consumed and changes no lane. -/
def State.skipWord (s : State) (gid : Nat) : State :=
  let g := s.grp gid
  match g.heldWord with
  | none => s.setGrp gid { g with skip := false, wait := .ready }
  | some e =>
    if g.kLive.length < skipPops e g.heldCode then s.setGrp gid { g with wait := .kqueue }
    else s.finish gid e (skipPops e g.heldCode)

end Sys2Proof.Machine
end

