-- ==== Sys2Proof/Machine/Regions.lean ====
section
/-! DEFINITION. Machine/Regions.lean: the matrix queue, batches, barriers, region commit and rollback (R183 to R191, R280
to R298, R389 to R393). -/

namespace Sys2Proof.Machine

/-! ## Barriers (R389 to R391) -/

/-- Members of a barrier. -/
def barMember (b : W64) : Nat := fieldOf b 0 18
/-- Agents that have arrived. -/
def barArrived (b : W64) : Nat := fieldOf b 18 18
/-- Agents that leave at the next flip. -/
def barDrop (b : W64) : Nat := fieldOf b 36 18
/-- Phase of a barrier. -/
def barPhase (b : W64) : Bool := b.getLsbD 54
/-- A barrier from its parts. -/
def barMk (m a d : Nat) (p : Bool) : W64 :=
  0#9 ++ BitVec.ofBool p ++ BitVec.ofNat 18 d ++ BitVec.ofNat 18 a ++ BitVec.ofNat 18 m
/-- A barrier whose arrived mask equals its member mask, which is not 0, flips (R391). -/
def barSettle (b : W64) : W64 :=
  if barArrived b = barMember b ∧ barMember b ≠ 0 then
    barMk (barMember b &&& (0x3FFFF ^^^ barDrop b)) 0 0 (!barPhase b)
  else b
/-- The agent may arrive: it is a member and has not arrived (R390). -/
def barMay (b : W64) (a : Nat) : Bool := (barMember b).testBit a && !(barArrived b).testBit a
/-- An arrival, with or without a drop (R390). -/
def barArrive (b : W64) (a : Nat) (drop : Bool) : W64 :=
  barMk (barMember b) (barArrived b ||| 2 ^ a) (if drop then barDrop b ||| 2 ^ a else barDrop b) (barPhase b)
/-- The drop of a retiring group (R157, R390). -/
def barRetire (b : W64) (a : Nat) : W64 :=
  if !(barMember b).testBit a then b else barArrive b a true

/-- Number of an agent in a barrier's masks (R389). -/
def agentBit (a : Agent) : Nat := match a with | .grp g => g | .gen => 16 | .mat => 17

/-- A barrier of a team. -/
def Team.bar (t : Team) (b : Nat) : W64 := spGet t.bn b

/-- A team's barrier takes a value. -/
def State.putBar (s : State) (tid b : Nat) (x : W64) : State := s.updTeam tid (fun t => { t with bn := spSet t.bn b x })

/-- The wait is for a phase that its barrier has (R392). -/
def Team.awaits (t : Team) (w : GWait) : Bool :=
  match w with
  | .barrier b ph => barPhase (t.bar b) == ph
  | _ => false

/-- A group whose awaited phase is there goes on. -/
def Group.releaseBar (g : Group) (t : Team) : Group :=
  { g with wait := if t.awaits g.wait then .ready else g.wait, after := if t.awaits g.after then .ready else g.after }

/-- A generator in BARWAIT or BARAW whose awaited phase is there: its word has executed (R392, R394). -/
def Ctx.releaseBar (c : Ctx) (t : Team) : Ctx :=
  match c.wait with
  | .barrier b ph false => if barPhase (t.bar b) = ph then c.done else c
  | _ => c

/-- The end of a core clock for a team's barriers (R391): each whose members have all arrived flips, and every wait for the
new phase is released. -/
def State.settleBars (s : State) (tid : Nat) : State :=
  let t := s.team tid
  let n := (t.bn.filter (fun e => barSettle e.2 != e.2)).length
  let t1 := { t with bn := t.bn.foldl (fun l e => spSet l e.1 (barSettle e.2)) t.bn }
  let s1 := (s.countN (teamCore tid) 13 n).setTeam tid t1
  let s2 := (List.range t.groups).foldl (fun a g => a.updGrp (groupId tid g) (fun k => k.releaseBar t1)) s1
  let c1 := (s2.ctx tid).releaseBar t1
  if c1.issues = (s2.ctx tid).issues then s2 else (s2.setCtx tid c1).count (teamCore tid) 14

/-! ## The matrix queue (R280, R298) -/

/-- The matrix unit still executes a word of the team: the clocks of R301 have not all come. -/
def State.matBusy (s : State) (tid : Nat) : Bool :=
  (s.core (teamCore tid)).served == tid % 4 && !(s.core (teamCore tid)).matJob.isEmpty

/-- Live entries of a matrix queue. -/
def Team.mLive (t : Team) : List QEntry := t.mq.filter (fun e => !e.consumed)
/-- The M-word is an MBATCH of a batch (R70). -/
def isBatch (e : QEntry) (b : Nat) : Bool :=
  e.kind == .word && fieldOf e.val 27 5 == 8 && fieldOf e.val 0 10 == b
/-- A batch is complete: the queue holds no MBATCH of its number that has not completed (R296). -/
def Team.batchDone (t : Team) (b : Nat) : Bool := !(t.mLive.any (fun e => isBatch e b))
/-- The M-word at the head is consumed and takes its MSN (R73, R280). -/
def Team.consumeM (t : Team) : Team := { t with mq := consumeHead t.mq, msn := t.msn + 1, mDone := t.mDone + 1 }

/-- Pending MWAIT tokens whose batch is complete: s[sd] takes a value and the token clears (R298). -/
def Ctx.endWaits (c : Ctx) (t : Team) (x : W64) : Ctx :=
  let (ended, rest) := c.mwaits.partition (fun m => t.batchDone m.1)
  ended.foldl (fun a m => (a.put (BitVec.ofNat 6 m.2.1) x).setTok m.2.1 false) { c with mwaits := rest }

/-- Tokens of a team's generator that wait for a batch end with a value. -/
def State.endWaits (s : State) (tid : Nat) (x : W64) : State :=
  s.updCtx tid (fun c => c.endWaits (s.team tid) x)

/-! ## Region commit (R184) -/

/-- The group waits at a marker: it stands at a boundary, the marker is at its head and nothing holds it. -/
def Group.atMarker (g : Group) : Bool :=
  g.clause.isNone && g.wait == .ready && g.stack.isEmpty &&
    (match g.head with | some e => e.kind == .marker | none => false)

/-- The matrix unit waits at the team's marker. -/
def Team.mAtMarker (t : Team) : Bool :=
  t.mHeld.isNone && (match t.mLive.head? with | some e => e.kind == .marker | none => false)

/-- The region that a marker ends can commit (R184): every armed group and the matrix unit wait at it, and hold-back
holds no store that the team issued before it. -/
def State.mayCommit (s : State) (tid : Nat) : Bool :=
  let t := s.team tid
  s.hasTeam tid && decide (t.regCommitted < t.regIssued) && t.mAtMarker &&
    (s.armedGroups tid).all (fun g => (s.grp (groupId tid g)).atMarker) &&
    (s.core (teamCore tid)).hold.all (fun h => h.team != tid || decide (t.regCommitted < h.region))

/-- A group consumes its marker at the commit (R47, R48, R184, R343, R353): n regions have then committed. -/
def Group.commit (g : Group) (n : Nat) : Group :=
  let c := if g.armed then
      { g with resn := g.esn, rmode := g.mode, esn := g.esn + 1, sig := sigInit, marked := true,
               queue := (consumeHead g.queue).filter (fun e => !e.consumed) }
    else { g with queue := g.queue.filter (fun e => !e.consumed) }
  { c with kq := c.kq.filter (fun e => !e.popped), rq := c.rq.filter (fun e => !(e.popped && decide (e.poppedAt < n)))
           armedThen := c.armed }

/-- The oldest region commits (R184, R185, R188). -/
def State.commit (s : State) (tid : Nat) : State :=
  let t := s.team tid
  let n := t.regCommitted + 1
  let s1 := (List.range t.groups).foldl (fun a g => a.updGrp (groupId tid g) (fun x => x.commit n)) s
  let s2 := s1.updCtx tid (fun c => { c with regpc := c.pendEntry })
  s2.setTeam tid { t with
    mq := (consumeHead t.mq).filter (fun e => !e.consumed), msn := t.msn + 1
    regCommitted := n, sealed := t.sealed && decide (n < t.sealEnd), rolls := 0, roll := { bars := t.bn, msn := t.msn + 1, ah := t.ah }
    free := t.released.foldl (fun a r => natAdd a r.2) t.free, released := []
    slotState := kvMap (fun _ x => { x with inregion := false }) t.slotState }

/-! ## Seals (R128, R186) -/

/-- The team's uncommitted regions are sealed, the open one among them (R186). -/
def Team.seal (t : Team) : Team := { t with sealed := true, sealEnd := t.regIssued + 1 }
/-- A team's uncommitted regions are sealed. -/
def State.seal (s : State) (tid : Nat) : State := s.updTeam tid Team.seal

/-! ## Rollback (R47, R188, R189, R343, R353) -/

/-- What a rollback makes of a group; n regions have committed. -/
def Group.rollback (g : Group) (n : Nat) : Group :=
  { g with
    esn := if g.marked then g.resn + 1 else 0
    mode := g.rmode, active := BitVec.allOnes 32, stack := [], sig := sigInit
    loopOn := false, loopLeft := 0, clause := none, wait := .ready, after := .ready, monitor := none, park := 0, parkVa := 0, parkCode := 0
    heldWord := none, heldCode := 0, late := [], skip := false, noTrap := false, armed := g.armedThen, queue := []
    kq := (g.kq.filter (fun e => decide (e.epoch < n))).map (fun e => { e with popped := false })
    rq := (g.rq.filter (fun e => decide (e.pushed < n))).map (fun e =>
      if n ≤ e.poppedAt then { e with popped := false } else e)
    pend := g.pend.map (fun p => { p with dead := true }) }

/-- The record is a copy engine's, whose operation runs on through a rollback. -/
def Rec2.ofEngine (r : Rec2) : Bool := match r.src with | .engine _ _ => true | _ => false

/-- What a rollback makes of a team's generator: pc and PendingEntry return to REGPC, no handler runs, and the context
waits for its pending token operations. -/
def Ctx.rollback (c : Ctx) : Ctx :=
  { c.setPark false with
    pc := c.regpc, pendEntry := c.regpc, tstatus := 0, tepc := 0, trec := {}, tq := [], watch := none
    pended := none, monitor := none, arrived := none, reply := none, wait := if c.tok = 0 then .ready else .rolling }

/-- Handles return to the entry (R188): a slot that none of them names is on the free list again, one that they name stays
with its contents and its state (R286). -/
def Team.rollbackSlots (t : Team) : Team :=
  let keep := (t.roll.ah.filter (fun h => h.2.getLsbD 15)).map (fun h => fieldOf h.2 0 4)
  { t with
    ah := t.roll.ah, released := [], free := t.slots.filter (fun x => !keep.contains x)
    slotState := t.slotState.filter (fun e => keep.contains e.1) }

/-- A rollback of a team (R189); the M-word under way is abandoned mid-step (R300). -/
def State.rollback (s : State) (tid : Nat) : State :=
  let t := s.team tid
  let c := teamCore tid
  let gs := (List.range t.groups).map (groupId tid)
  let s0 := (gs.foldl (fun a g => a.disarm (a.grp g).monitor) (s.disarm (s.ctx tid).monitor))
  let s1 := s0.updCore c (fun k => { k.dropJob (tid % 4) with
    hold := k.hold.filter (fun h => h.team != tid), rolls := satInc k.rolls })
  let s2 := gs.foldl (fun a g => a.updGrp g (fun x => x.rollback t.regCommitted)) s1
  let t1 := t.rollbackSlots
  let s3 := s2.setTeam tid { t1 with
    emit := [], expSig := t.expSig.map (fun e => (e.1, sigInit)), bn := t.roll.bars, msn := t.roll.msn, mq := [], mHeld := none
    regIssued := t.regCommitted, faults := [], life := .running, blockedSince := none, mDone := t.mPushed
    replay := [], gbOwed := (t.gbOwed.filter (fun o => decide (o.region ≤ t.regCommitted))).map (fun o =>
      { o with left := true }) }
  let s4 := { s3 with
    records := s3.records.filter (fun r => r.tid != some tid || r.kind != 1 || r.ofEngine)
    dies := kvMap (fun _ d => { d with fq := kvMap (fun _ r => if r.kind = 1 then r.forget tid else r) d.fq }) s3.dies }
  let s5 := s4.endWaits tid (BitVec.allOnes 64)
  ((s5.updCtx tid Ctx.rollback).count c 9).tally 154

/-- The rollback of a signature or poison fault (R187, R191): the second in one region, or one in a sealed region,
kills. -/
def State.rollbackFor (s : State) (tid : Nat) : State :=
  let t := s.team tid
  if t.sealed || decide (1 ≤ t.rolls) then s.kill tid 3
  else (s.rollback tid).updTeam tid (fun t => { t with rolls := t.rolls + 1 })

/-- A strike on a core (R187, R190): every team of it rolls back, or is killed where its region is sealed. -/
def State.strikeTeams (s : State) (c : Nat) : State :=
  ([0, 1, 2, 3].map (fun k => c * 4 + k)).foldl (fun a tid =>
    if a.hasTeam tid then (if (a.team tid).sealed then a.kill tid 4 else a.rollback tid) else a) s

end Sys2Proof.Machine
end

