-- ==== Sys2Proof/Machine/Ops.lean ====
section
/-! DEFINITION. Machine/Ops.lean: THE TAKING OF A TRAP, one operation for every fault of a generator context, and the
return from it; the disposition of held agents; and what becomes of the replies of level two (R163 to R173). Accessors of
registers and memory stand in Machine/Access.lean. -/

namespace Sys2Proof.Machine

/-! ## Disposition (R169) -/

/-- A held group goes on to skip its word. -/
def State.skipGroup (s : State) (gid : Nat) : State :=
  let g := s.grp gid
  if g.wait ≠ .held then s
  else if g.late.isEmpty then (s.setGrp gid { g with skip := true, wait := .ready }).skipWord gid
  else s.setGrp gid { g with skip := true }

/-- The held matrix unit discards its word, whose MSN is spent (R169); a batch may be complete by it (R296, R298). -/
def State.skipM (s : State) (tid : Nat) : State :=
  match (s.team tid).mHeld with
  | none => s
  | some _ => (s.updTeam tid (fun t => { t.consumeM with mHeld := none })).endWaits tid (BitVec.allOnes 64)

/-- The disposition of the agent that a record holds, when the record leaves TREC0 to TREC7 or a reply of 0 comes: by its
kind and cause (R169). -/
def State.dispose (s : State) (tid : Nat) (r : TrapRec) : State :=
  let gid := groupId tid r.group
  match r.kind, r.code with
  | 0, c => if c = 0xD then s.rollbackFor tid else s
  | 1, c =>
    if c = 0x10A ∨ c = 0x110 then s.rollbackFor tid
    else if c = 0x109 then s.kill tid 5
    else if (s.grp gid).wait ≠ .held then s
    else if c = 0x106 then s.updGrp gid (fun g => ({ g with noTrap := true } : Group).letGo)
    else if c = 0x107 ∧ r.t5 = 1 then s.updGrp gid Group.goOn
    else s.skipGroup gid
  | _, c => if c = 0x208 then s.rollbackFor tid else s.skipM tid

/-- The disposition of a reply of 1 (R173): the word is skipped; a word that completed late has been consumed already. -/
def State.disposeSkip (s : State) (tid : Nat) (r : TrapRec) : State :=
  match r.kind with
  | 0 => s.updCtx tid (fun c => { c with pc := c.pc + 4 })
  | 1 =>
    let esn := r.t0.extractLsb' 32 32
    if r.code = 0x107 ∧ r.t5 = 1 then s.updGrp (groupId tid r.group) Group.goOn
    else if (s.grp (groupId tid r.group)).late.contains esn then s.updGrp (groupId tid r.group) (fun g => g.endLate esn)
    else s.skipGroup (groupId tid r.group)
  | _ => s.skipM tid

/-! ## Delivery (R167, R168, R170, R171) -/

/-- The word at pc needs only its wait: a BARAW that has arrived (R394), or a GBARARV or GBARDROP whose REGION has been
executed, so that its arrival follows of itself (R398; assumption 18). -/
def Ctx.pastArrival (c : Ctx) : Bool :=
  c.arrived.isSome || (match c.wait with | .gangRegion _ _ => true | _ => false)

/-- What delivery of the oldest queued record does to a context's registers (R167): TREC0 to TREC7 take the record, TEPC
the pc of the next G-word, TSTATUS level 1 and mask 1, and pc the handler's address. A stall or a park is left, and the
watchdog of a team's handler starts (R171). A word that is past its arrival resumes after itself (R394). -/
def Ctx.deliver (c : Ctx) (team : Bool) (now : Nat) : Ctx :=
  match c.tq with
  | [] => c
  | r :: rest =>
    let next := if c.pastArrival then c.pc + 4 else c.pc
    { c.setPark false with
      trec := r, tq := rest, tepc := next.signExtend 64
      tstatus := (c.tstatus &&& 8#32) ||| 3#32
      pc := c.tvec.extractLsb' 0 48, wait := .ready, arrived := none, pended := none
      watch := if team then some (now + 50000) else none, delivered := now }

/-- A context that level two or the watchdog holds takes no delivery. One that a fault holds until its token words have
completed is taken from its word, which issues again after RTE (R164, R167). -/
def Ctx.holdsTraps (c : Ctx) : Bool :=
  match c.wait with
  | .held => c.pended.isNone
  | .reply | .watchdog => true
  | _ => false

/-- A trap takes a team's context from a GBARARV or GBARDROP that owes its arrival (R398). -/
def State.leaveOwed (s : State) (id : Nat) : State :=
  match (s.ctx id).wait with
  | .gangRegion _ _ => s.updTeam id (fun t => { t with gbOwed := t.gbOwed.map (fun o => { o with left := true }) })
  | _ => s

/-- The oldest queued record is delivered, if the mask is 0 and nothing holds the context. A record still in TREC0 to
TREC7 leaves first, and the agent it held is disposed of (R169). -/
def State.deliver (s : State) (id : Nat) : State :=
  let c := s.ctx id
  if c.mask || c.tq.isEmpty || c.holdsTraps then s
  else
    let s1 := if isTeamCtx id && c.trec.code != 0 then
        (s.setCtx id { c with trec := {} }).dispose id c.trec
      else s
    if isTeamCtx id && !s1.hasTeam id then s1
    else ((s1.leaveOwed id).updCtx id (fun c => c.deliver (isTeamCtx id) s.now)).replayed id .gen

/-- The double fault of R170, for the record of the new fault: TSTATUS.dfault, G_DOUBLE to level two, and the kill; the die
of a supervisor fails. -/
def State.doubleFault (s : State) (id : Nat) (f : TrapRec) : State :=
  let c := s.ctx id
  let s1 := s.setCtx id { c with tstatus := c.tstatus ||| 8#32 }
  if isTeamCtx id then
    let r : TrapRec := { t0 := trec0 0 0 0x11 0, t1 := f.t1, t4 := w64 c.trec.code, t5 := w64 f.code, t7 := f.t7 }
    (s1.send (s1.teamRec id 1 0 r .nobody)).kill id 1
  else s1.failDie (ctxDie id)

/-- The fifth queued record of R170: G_TRAPQ to level two, and the kill; the die of a supervisor fails. -/
def State.fifthRecord (s : State) (id : Nat) (r : TrapRec) : State :=
  if isTeamCtx id then
    let k := w64 (r.kind * 2 ^ 28 + (if r.kind = 1 then r.group * 2 ^ 24 else 0))
    let q := ({ code := 0x13, t4 := w64 r.code, t5 := k } : GFault).toRec (s.ctx id).pc 0
    ((s.fire (ctxDie id) 0).send (s.teamRec id 1 0 q .nobody)).kill id 2
  else s.failDie (ctxDie id)

/-- A record of a team's agent goes to level two; the agent stays held (R163, R173). -/
def State.levelTwo (s : State) (tid : Nat) (r : TrapRec) : State :=
  s.send (s.teamRec tid 1 0 r (.agent tid r.agent))

/-- A record is offered to the handler of a context: it queues, in order of arrival, and is delivered at once while the
mask is 0 (R167, R170). -/
def State.offer (s : State) (id : Nat) (r : TrapRec) : State :=
  let c := s.ctx id
  if (if c.mask || c.holdsTraps then 4 else 5) ≤ c.tq.length then s.fifthRecord id r
  else (s.setCtx id { c with tq := c.tq ++ [r] }).deliver id

/-- THE TAKING OF A G-FAULT by its record (R163, R167, R170): while the mask is 1 it is a double fault, whatever trapen
holds (assumption 87); with the handler enabled it is delivered; a team without a handler, and a prologue (R354), hand it to
level two and are held. -/
def State.takeG (s0 : State) (id : Nat) (r : TrapRec) : State :=
  let s := s0.fire (ctxDie id) 0
  let c := s.ctx id
  if isPro id then
    let d := ctxDie id
    let l := (s.die d).prologue.getD 0
    (s.setCtx id { c with wait := .held }).send
      { kind := 1, head := recHead 1 0 d 0 0, tag := spGet (s.launch l).field 23, body := r, die := d,
        permit := .dist d, src := .prologue d }
  else if c.mask then s.doubleFault id r
  else if isTeamCtx id && !c.trapen then (s.setCtx id { c with wait := .held }).levelTwo id r
  else s.offer id r

/-- A G-fault of the word at turn. No register, condition bit or pc changes but those that delivery writes (R9, R111); the
record waits while a token word of the context has not completed, and the context is held meanwhile (R164); a double fault
waits for none (R170). -/
def State.raiseG (s : State) (id : Nat) (f : GFault) (w : W32) : State :=
  let c := s.ctx id
  let r := f.toRec c.pc w
  if c.tok = 0 ∨ (c.mask ∧ !isPro id) then s.takeG id r else s.setCtx id { c with wait := .held, pended := some r }

/-- A G-fault whose context has no token word pending any more is taken (R164). -/
def State.takePended (s : State) (id : Nat) : State :=
  let c := s.ctx id
  match c.pended with
  | some r => if c.tok = 0 ∧ c.wait = .held then (s.setCtx id { c with pended := none, wait := .ready }).takeG id r else s
  | none => s

/-- THE RETURN FROM A TRAP (R127): pc := TEPC, level and mask 0, the record leaves TREC0 to TREC7 and the agent it held is
disposed of (R169); the next queued record is delivered before the G-word at pc issues, or the record reads zero. -/
def State.returnG (s : State) (id : Nat) : State :=
  let c := s.ctx id
  let c1 := { c with pc := c.tepc.extractLsb' 0 48, tstatus := c.tstatus &&& 8#32, trec := {}, watch := none,
                     wait := .ready, issues := c.issues + 1 }
  let s1 := s.setCtx id c1
  let s2 := if isTeamCtx id then s1.dispose id c.trec else s1
  if isTeamCtx id && !s2.hasTeam id then s2 else s2.deliver id

/-- The oldest fault of a team's groups and matrix unit whose older words have completed is delivered, or goes to level
two (R163, R164, R167). -/
def State.takeFault (s : State) (tid : Nat) : State :=
  let t := s.team tid
  let ready (p : Pended) : Bool := match p.agent with
    | .grp g => (s.grp (groupId tid g)).pend.isEmpty
    | _ => true
  match t.faults.find? ready with
  | none => s
  | some p =>
    let s1 := s.setTeam tid { t with faults := t.faults.erase p }
    if (s.ctx tid).trapen then s1.offer tid p.trec else s1.levelTwo tid p.trec

end Sys2Proof.Machine
end

