-- ==== Sys2Proof/Machine/GenOperands.lean ====
section
/-! DEFINITION. Machine/GenOperands.lean: what every G-word shares (R111): the context at turn, the stall on a pending
token (R32), its operands and immediates, and its faults. -/

namespace Sys2Proof.Machine

/-- A G-word that uses the listed registers: it stalls while a token is pending on one of them (R32), and otherwise acts
on its context. -/
def gWord (use : List (BitVec 6)) (s : State) (k : Nat → W32 → Ctx → State) : Out :=
  match s.cur with
  | .gen id w =>
    let c := s.ctx id
    if use.any c.token then .next (s.setCtx id { c with wait := .token }) else .next (k id w c)
  | _ => .fault .noContext

/-- The G-word whose one effect is a new value of s[d] (R111). -/
def gSet (d : BitVec 6) (use : List (BitVec 6)) (f : Ctx → W64) (s : State) : Out :=
  gWord (d :: use) s (fun id _ c => s.setCtx id ((c.put d (f c)).done))

/-- The G-word whose one effect is a new value of c[n] (R111). -/
def gSetC (n : BitVec 3) (use : List (BitVec 6)) (f : Ctx → Bool) (s : State) : Out :=
  gWord use s (fun id _ c => s.setCtx id ((c.setCond n (f c)).done))

/-- Control goes to a target, or G_PC is raised and nothing changes (R31, R120, R121). -/
def gGoto (s : State) (id : Nat) (w : W32) (c : Ctx) (t : W64) : State :=
  if pcOk t then s.setCtx id (c.jump (t.extractLsb' 0 48)) else s.raiseG id { code := 0x3, t3 := t } w

/-- The context stalls in its word, which has not issued (R167, R196). -/
def gStall (s : State) (id : Nat) (wt : Wait) : State := s.updCtx id (fun c => { c with wait := wt })

/-- A fault of the G-word at turn, in any context. -/
def gFault (f : GFault) (s : State) : Out :=
  match s.cur with
  | .gen id w => .next (s.raiseG id f w)
  | _ => .fault .noContext

/-- Sign-extended immediate of format GI (R116). -/
def immS (i : BitVec 14) : W64 := i.signExtend 64
/-- Zero-extended immediate of format GI (R116). -/
def immZ (i : BitVec 14) : W64 := i.zeroExtend 64
/-- Immediate of format GU, times 2^12 (R117). -/
def immU (i : BitVec 20) : W64 := (i.signExtend 64) <<< 12

end Sys2Proof.Machine
end

