-- ==== Sys2Proof/Machine/Translate.lean ====
section
/-! DEFINITION. Machine/Translate.lean: canonical addresses, the page walk, translation caches, and where a page's bytes
lie (R208, R209, R212, R361 to R366, R409). A place is a number: a local address of the own device; 2^42 × (1 + device)
plus the local address for another device; 2^42 × (2^23 + target) plus the address for an outside target. -/

namespace Sys2Proof.Machine

/-- What an access needs of its page (R364). -/
structure Need where
  r : Bool := false
  w : Bool := false
  x : Bool := false
deriving DecidableEq, Repr, Inhabited

/-- A load. -/
def Need.load : Need := { r := true }
/-- A store. -/
def Need.store : Need := { w := true }
/-- An atomic. -/
def Need.amo : Need := { r := true, w := true }
/-- A fetch, or a read of an EMITL literal. -/
def Need.fetch : Need := { x := true }

/-- How a walk ends (R364). -/
inductive Walk where
  | ok (pte : W64) (size : Nat)
  | perm (entry : W64)
  /-- an entry with V = 0: a PERM outcome for a first access, and the UNMAPPED cause for a parked one (R368) -/
  | gone (entry : W64)
  | poison
  /-- pending-invalid, or not resident: the page's base and size -/
  | park (pi : Bool) (base size : Nat)
deriving DecidableEq, Repr, Inhabited

/-- Bits [63:57] all equal bit 56 (R208). -/
def canonical (va : W64) : Bool := (va.extractLsb' 0 57).signExtend 64 == va
/-- The upper half (R208). -/
def upperHalf (va : W64) : Bool := va.getLsbD 56

/-- V of an entry. -/
def pteV (e : W64) : Bool := e.getLsbD 0
/-- Size code of a leaf. -/
def pteSize (e : W64) : Nat := fieldOf e 12 2
/-- Hint identifier of a leaf; a tier-2 page has identifier 0 (R362). -/
def pteHint (e : W64) : Nat := if fieldOf e 14 2 = 2 then 0 else fieldOf e 48 8
/-- OS mode; a tier-2 page reads as WT (R362). -/
def pteOs (e : W64) : Bool := e.getLsbD 9 && pteTier e != 2
/-- What a leaf says of its lines. -/
def pteKind (e : W64) : PageKind := { os := pteOs e, hint := pteHint e }
/-- The frame lies in the MMIO window of a compute die, or of an I/O die, and its page is of 64 KiB (R211; assumption 7). -/
def mmioFrame (e : W64) (io : Bool) : Bool :=
  match mmioOf (fieldOf e 16 26 * 65536) with
  | some (d, _) => decide (8 ≤ d) == io && fieldOf e 12 2 == 0
  | none => false
/-- Bytes of a page of a size code. -/
def sizeBytes (z : Nat) : Nat := if z = 0 then 65536 else if z = 1 then 2097152 else 1073741824

/-- A pointer entry holds V and a frame, every other bit zero (R363). -/
def ptrOk (e : W64) : Bool := (e &&& ~~~0x3FFFFFF0001#64) == 0

/-- A leaf entry is well formed for its size (R362, R364, R409); dev is the device's own number. A page of registers has the
tier of its die (R211, R252; assumption 7). -/
def leafOk (dev : Nat) (e : W64) : Bool :=
  let tier := pteTier e
  let fr := pteFrame e
  decide (pteSize e ≤ 2) && decide (tier ≤ 2) && decide (fieldOf e 10 2 ≤ 1) && fieldOf e 6 3 == 0 && !e.getLsbD 2 &&
    fr % sizeBytes (pteSize e) == 0 &&
    (if tier = 0 then (decide (fr < 0x10000000000) || mmioFrame e false) && fieldOf e 42 6 == 0
     else if tier = 1 then
       ((decide (0x10000000000 ≤ fr) && decide (fr < 0x30000000000)) || mmioFrame e true) && fieldOf e 42 6 == 0
     else fieldOf e 42 22 != dev || decide (fieldOf e 38 4 ≤ 5))

/-- The last rows of R364, for a well-formed leaf that maps an address. -/
def leafEnd (n : Need) (e : W64) (va : W64) : Walk :=
  let z := sizeBytes (pteSize e)
  if (n.r && !e.getLsbD 3) || (n.w && !e.getLsbD 4) || (n.x && !e.getLsbD 5) then .perm e
  else if e.getLsbD 1 then .park true (va.toNat / z * z) z
  else if fieldOf e 10 2 = 1 then .park false (va.toNat / z * z) z
  else .ok e z

/-- An entry of a table node, or poison. -/
def State.entry (s : State) (node i : Nat) : Option W64 :=
  let a := node + 8 * i
  if s.readsBad a then none else some (w64 (s.readN a 8))

/-- A leaf found in a node, by way of the entry that stands for its group (R363). -/
def State.leafAt (s : State) (node i : Nat) (n : Need) (va : W64) (e : W64) (z group : Nat) : Walk :=
  let dev := (s.die 0).devnum.toNat
  if pteSize e = 0 then (if z = 0 ∧ leafOk dev e then leafEnd n (s.rehome e) va else .perm e)
  else if pteSize e ≠ group then .perm e
  else
    match s.entry node (i / (if group = 1 then 32 else 2) * (if group = 1 then 32 else 2)) with
    | none => .poison
    | some h =>
      if !pteV h then .gone h
      else if pteSize h = group ∧ leafOk dev h then leafEnd n (s.rehome h) va
      else .perm h

/-- Level 3 of a walk (R361). -/
def State.walk3 (s : State) (node : Nat) (n : Need) (va : W64) : Walk :=
  let i := fieldOf va 16 13
  match s.entry node i with
  | none => .poison
  | some e => if pteV e then s.leafAt node i n va e 0 1 else .gone e

/-- Level 2 of a walk: a pointer, or a leaf of a 1 GiB page (R361). -/
def State.walk2 (s : State) (node : Nat) (n : Need) (va : W64) : Walk :=
  let i := fieldOf va 29 13
  match s.entry node i with
  | none => .poison
  | some e =>
    if !pteV e then .gone e
    else if ptrOk e then s.walk3 (pteFrame e) n va
    else s.leafAt node i n va e 1 2

/-- A pointer level of a walk, and what follows it. -/
def State.walkPtr (s : State) (node i : Nat) (k : Nat → Walk) : Walk :=
  match s.entry node i with
  | none => .poison
  | some e => if !pteV e then .gone e else if ptrOk e then k (pteFrame e) else .perm e

/-- A walk of a die's replica for an address space (R361). -/
def State.walk (s : State) (die asid : Nat) (va : W64) (n : Need) : Walk :=
  let root := fieldOf (s.die die).atroot 0 42
  s.walkPtr root asid (fun n0 => s.walkPtr n0 (fieldOf va 55 2) (fun n1 =>
    s.walkPtr n1 (fieldOf va 42 13) (fun n2 => s.walk2 n2 n va)))

/-- Addresses of the entries that a walk reads, in order (R361, R363). -/
def State.walkReads (s : State) (die asid : Nat) (va : W64) : List Nat :=
  let read (node i : Nat) (k : W64 → List Nat) : List Nat :=
    (node + 8 * i) :: (match s.entry node i with | some e => if pteV e then k e else [] | none => [])
  let ptr (e : W64) (k : Nat → List Nat) : List Nat := if ptrOk e then k (pteFrame e) else []
  let first (node i g : Nat) : List Nat := [node + 8 * (i / g * g)]
  let i2 := fieldOf va 29 13
  let i3 := fieldOf va 16 13
  read (fieldOf (s.die die).atroot 0 42) asid (fun e => ptr e (fun n0 =>
    read n0 (fieldOf va 55 2) (fun e0 => ptr e0 (fun n1 =>
      read n1 (fieldOf va 42 13) (fun e1 => ptr e1 (fun n2 =>
        read n2 i2 (fun e2 =>
          if ptrOk e2 then read (pteFrame e2) i3 (fun e3 => if pteSize e3 = 1 then first (pteFrame e2) i3 32 else [])
          else if pteSize e2 = 2 then first n2 i2 2 else [])))))))

/-- The leaf of an address as a die's replica maps it, pending-invalid or not: entry and page size. -/
def State.leafOf (s : State) (die asid : Nat) (va : W64) : Option (W64 × Nat) :=
  match s.walk die asid va {} with
  | .ok e z => some (e, z)
  | .park _ _ z => ((s.walkReads die asid va).getLast?).map (fun a => (s.rehome (w64 (s.readN a 8)), z))
  | _ => none

/-! ## Translation caches (R366) -/

/-- A cached translation serves an address. -/
def Tlb.hit (t : Tlb) (asid : Nat) (va : W64) : Bool := t.asid == asid && t.base == va.toNat / t.size * t.size

/-- What a cached translation answers. -/
def Tlb.answer (t : Tlb) (n : Need) (va : W64) : Walk := leafEnd n t.pte va

/-- A cache takes a translation; the oldest makes room (assumption 14). -/
def tlbFill (l : List Tlb) (cap : Nat) (t : Tlb) : List Tlb := t :: (l.filter (fun x => x != t)).take (cap - 1)

/-- The cluster L2 TLB of a core. -/
def State.l2 (s : State) (c : Nat) : List Tlb := kvGet [] (s.die (coreDie c)).l2tlb (coreCluster c)

/-- Puts a translation into a core's L1 TLB. -/
def State.fillL1 (s : State) (c : Nat) (t : Tlb) : State := s.updCore c (fun k => { k with tlb := tlbFill k.tlb 64 t })

/-- Puts a translation into the L2 TLB of a core's cluster. -/
def State.fillL2 (s : State) (c : Nat) (t : Tlb) : State :=
  s.updDie (coreDie c) (fun d => { d with l2tlb := kvSet d.l2tlb (coreCluster c) (tlbFill (s.l2 c) 4096 t) })

/-- Translation by a walk alone, for supervisor contexts and distributors; a supervisor with SUPPER reaches the upper half
through address space 0 (R208, R415). -/
def State.translateWalk (s : State) (die asid : Nat) (upper : Bool) (va : W64) (n : Need) : Walk :=
  if !canonical va || (upperHalf va && !upper) then .perm 0
  else s.walk die (if upperHalf va then 0 else asid) va n

/-- Address space of a context's lower half. -/
def State.asidOf (s : State) (id : Nat) : Nat :=
  if isTeamCtx id then (s.team id).asid.toNat
  else if isSup id then (s.ctx id).sasid.toNat
  else (s.launch ((s.die (ctxDie id)).prologue.getD 0)).asid

/-! ## Places (R209, R212, R409) -/

/-- Base of the places of another device, or of an outside target. -/
def farBase (k : Nat) : Nat := k * 2 ^ 42
/-- The place lies in the own device. -/
def isLocal (pl : Nat) : Bool := pl < 2 ^ 42
/-- The place is outside the device: host memory, CXL memory or a peer. -/
def isFar (pl : Nat) : Bool := !isLocal pl

/-- Places of an address on a page, one for each copy, in ascending die order with the home among them (R212). -/
def placesOf (dev : Nat) (e : W64) (z : Nat) (va : W64) : List Nat :=
  let off := va.toNat % z
  let la := pteFrame e + off
  if pteTier e = 0 && !isMmio la then
    let home := la / 0x2000000000
    let mask := fieldOf e 56 8
    ((List.range 8).filter (fun d => d = home || mask.testBit d)).map (fun d => d * 0x2000000000 + la % 0x2000000000)
  else if pteTier e ≤ 1 then [la]
  else if fieldOf e 42 22 = dev then
    [farBase (2 ^ 23 + fieldOf e 38 4) + fieldOf e 16 22 * 65536 + off]
  else [farBase (1 + fieldOf e 42 22) + la]

/-- The home place of an address on a page. -/
def homePlace (dev : Nat) (e : W64) (z : Nat) (va : W64) : Nat :=
  if pteTier e ≤ 1 then pteFrame e + va.toNat % z else (placesOf dev e z va).headD 0

/-- The copy that a reader on a die reads: fewest hops, then the lower die (R212). -/
def nearest (die : Nat) (l : List Nat) : Nat := (leastBy (fun p => [hops die (homeDie p), homeDie p]) l).getD 0

end Sys2Proof.Machine
end

