-- ==== Sys2Proof/Machine/Mmio.lean ====
section
/-! DEFINITION. Machine/Mmio.lean: what a load of an MMIO window reads: the control blocks of cores, dies, slices and
Pewters, the mailbox, and the kick registers with the descriptors behind them (R50, R53, R209, R210, R305, R306, R322, R365,
R384, R401 to R405, R417). -/

namespace Sys2Proof.Machine

/-- CID of a core (R50): spare, absent, die, y, x. -/
def State.cid (s : State) (c : Nat) : W64 :=
  w64 (bitN (s.core c).spare * 2 ^ 15 + bitN (s.absent c) * 2 ^ 14 + coreDie c * 2 ^ 10 + coreY c * 2 ^ 5 + coreX c)

/-! ## Queues as memory and Pewter hold them (R305, R309) -/

/-- Pewter's copy of a queue. -/
def State.queue (s : State) (i q : Nat) : Queue := kvGet {} (s.pewter i).queues q
/-- Physical address of a queue's descriptor (R305). -/
def State.descAddr (s : State) (i q : Nat) : Nat := fieldOf (s.pewter i).qdbase 17 25 * 131072 + q % 2048 * 128

/-- A descriptor as memory holds it: its state byte, its values, and whether the check of R309 refuses it. -/
structure RawQueue where
  state : Nat
  x : Queue
  bad : Bool
deriving DecidableEq, Repr

/-- The descriptor of a queue, read once. DESIGN CHOICE (assumption 119): the bytes of a poisoned sector count as they stand. -/
def State.readDesc (s : State) (i q : Nat) : RawQueue :=
  let n (o k : Nat) : Nat := s.readN (s.descAddr i q + o) k
  let levels := (List.range 4).map (fun j =>
    ({ addr := w64 (n (32 + 16 * j) 8), left := n (40 + 16 * j) 4, used := n (44 + 16 * j) 4 } : Level))
  let open_ (j : Nat) : Bool := n (109 + 16 * j) 1 % 2 == 1
  let loops := ([0, 1].filter open_).map (fun j =>
    ({ start := w64 (n (96 + 16 * j) 8), left := n (104 + 16 * j) 4, level := n (108 + 16 * j) 1 } : LoopEntry))
  let base := n 0 8
  let lsize := n 8 1
  let level := n 15 1
  { state := n 14 1
    x := { base := w64 base, lsize := lsize, prio := n 9 1 % 8, gen := n 10 2, asid := n 12 2, level := level
           levels := levels, loops := loops, ri := BitVec.ofNat 32 (n 16 4), wa := BitVec.ofNat 32 (n 20 4)
           error := w64 (n 24 8) }
    bad := decide (lsize < 12) || decide (30 < lsize) || base % 2 ^ lsize != 0 || decide (2 ^ 56 ≤ base) ||
      decide (8 ≤ n 9 1) || decide (4 < level) || (levels.drop level).any (fun x => x != {}) ||
      [0, 1].any (fun j => !open_ j && n (96 + 16 * j) 16 != 0) || loops.any (fun x => decide (level < x.level)) }

/-! ## Registers (R50, R210, R306, R322, R365, R384, R401 to R405) -/

/-- A PMC or PMS register. -/
def pmcRead (pmc : Sparse 48) (pms : Sparse 11) (off : Nat) : W64 :=
  if 0x100 ≤ off ∧ off < 0x140 then (spGet pmc ((off - 0x100) / 8)).zeroExtend 64
  else if 0x140 ≤ off ∧ off < 0x180 then (spGet pms ((off - 0x140) / 8)).zeroExtend 64
  else 0

/-- A register of a core's control block (R50, R401 to R403). -/
def State.coreRead (s : State) (c off : Nat) : W64 :=
  let k := s.core c
  match off with
  | 0x000 => s.cid c
  | 0x010 => k.tswap.zeroExtend 64
  | 0x018 => k.tmax.zeroExtend 64
  | 0x020 => w64 (k.hbHigh % 256 * 2 ^ 16 + bitN k.hold.isEmpty * 2 ^ 8 + k.hold.length % 256)
  | 0x028 => k.strikes.zeroExtend 64
  | 0x030 => k.strikeT
  | 0x038 => w64 k.permit
  | 0x040 => w64 (bitN k.snapArmed + 2 * bitN k.snapLatched)
  | 0x048 => k.snapTime
  | 0x050 => k.rolls.zeroExtend 64
  | 0x058 => k.parks.zeroExtend 64
  | 0x060 => k.swaps.zeroExtend 64
  | 0x068 => k.renorms.zeroExtend 64
  | 0x070 => w64 (k.syncErr.toNat + bitN k.clockStopped * 2 ^ 32)
  | _ => pmcRead k.pmc k.pms off

/-- A register of a die control block. -/
def State.blockRead (s : State) (d off : Nat) : W64 :=
  let k := s.die d
  match off with
  | 0x000 => w64 d
  | 0x008 => w64 (k.rows.toNat + k.spares.toNat * 2 ^ 8 + bitN k.hole * 2 ^ 11)
  | 0x010 => k.dhbm
  | 0x018 => k.dstrikes.zeroExtend 64
  | 0x020 => k.dmemcap.zeroExtend 64
  | 0x028 => s.time
  | 0x030 => k.snaptrig.zeroExtend 64
  | 0x040 => k.throt.zeroExtend 64
  | 0x048 => k.bootst.zeroExtend 64
  | 0x050 => k.devnum.zeroExtend 64
  | 0x100 => k.fqbase
  | 0x108 => k.fqtail.zeroExtend 64
  | 0x110 => match k.fq with | e :: _ => w64 (e.1 + 256) | [] => 0
  | 0x200 => k.atroot
  | 0x300 => k.droute.zeroExtend 64
  | 0x500 => k.apbase
  | 0x508 => k.apasid
  | _ => if 0x400 ≤ off ∧ off < 0x440 then spGet k.hintcls ((off - 0x400) / 8) else 0

/-- A register of a Pewter control block. -/
def State.pewterRead (s : State) (i off : Nat) : W64 :=
  let p := s.pewter i
  match off with
  | 0x000 => p.qdbase
  | 0x008 => w64 (bitN p.qctl)
  | 0x010 => p.qign.zeroExtend 64
  | 0x018 => p.qerrs.zeroExtend 64
  | _ => if 0x100 ≤ off then pmcRead p.pmc p.pms (off - 0x100) else 0

/-- A register of the mailbox. -/
def State.mailRead (s : State) (off : Nat) : W64 :=
  if off = 8 then s.smify.stat
  else if 0x1000 ≤ off ∧ off < 0x2000 then w64 (leNat (bytesAt (spGet s.smify.buffer) (off - 0x1000) 8))
  else 0

/-- An aligned 64-bit read of an offset of a die's MMIO window (R53, R210). -/
def State.mmioRead (s : State) (d off : Nat) : W64 :=
  if off % 8 ≠ 0 then 0
  else if off < 0x1000 then s.blockRead d off
  else if d < 8 then
    (if 0x100000 ≤ off ∧ off < 0x180000 then
      let l := (off - 0x100000) / 0x1000
      s.coreRead (coreAt (d % 2 * 16 + l % 16) (d / 2 * 8 + l / 16)) (off % 0x1000)
     else if 0x400000 ≤ off ∧ off < 0x480000 then
      let sl := (off - 0x400000) / 0x1000
      pmcRead (sliceSub (s.die d).spmc sl) (sliceSub (s.die d).spms sl) (off % 0x1000)
     else 0)
  else
    let i := d - 8
    if 0x200000 ≤ off ∧ off < 0x201000 then s.pewterRead i (off - 0x200000)
    else if 0x300000 ≤ off ∧ off < 0x300800 then spGet (s.iod i).routes ((off - 0x300000) / 8)
    else if d = 8 ∧ 0x600000 ≤ off ∧ off < 0x602000 then s.mailRead (off - 0x600000)
    else if 0x100000000 ≤ off ∧ off % 0x10000 = 0 ∧ (off - 0x100000000) / 0x10000 / 2048 = i then
      let q := (off - 0x100000000) / 0x10000
      let x := if (kvFind (s.pewter i).queues q).isSome then s.queue i q else (s.readDesc i q).x
      w64 (x.gen * 2 ^ 32 + x.ri.toNat)
    else 0

/-- Bytes that a load of n bytes takes from a register's place: an aligned doubleword, or 0 (R50). -/
def State.mmioBytes (s : State) (pl n : Nat) : List Byte :=
  match mmioOf pl with
  | some (d, off) => if n = 8 then natLe 8 (s.mmioRead d off).toNat else List.replicate n 0
  | none => []

end Sys2Proof.Machine
end

