-- ==== Sys2Proof/Machine/GenCsr.lean ====
section
/-! DEFINITION. Machine/GenCsr.lean: the control registers and the CSR words (R33 to R39, R123 to R125, R415). -/

namespace Sys2Proof.Machine

/-- What may be done to a control register: bits it holds, bits that CSRW, CSRS and CSRC may write (R124). -/
structure CsrRule where
  live : W64
  w : W64 := 0
  s : W64 := 0
  c : W64 := 0
deriving DecidableEq, Repr, Inhabited

/-- The group of a group view or of GFPXn. -/
def csrGroup (n : Nat) : Nat := n % 16

/-- The rules of a listed control register; none for a number that is not listed in R33 or R415. -/
def csrRule (n : Nat) : Option CsrRule :=
  if n = 0x000 then some { live := 0xFFF#64, w := 0xFFF#64, s := 0xFFF#64, c := 0xFFF#64 }
  else if n = 0x001 then let m := BitVec.allOnes 64; some { live := m, w := m, s := m, c := m }
  else if n = 0x002 then some { live := 0xF#64, w := 1, s := 1, c := 1 }
  else if n = 0x003 then some { live := BitVec.allOnes 64, w := BitVec.allOnes 64 }
  else if n = 0x004 ∨ n = 0x005 ∨ n = 0x007 ∨ n = 0x800 ∨ n = 0xC00 then some { live := BitVec.allOnes 64 }
  else if n = 0x006 then some { live := 0xFFFF03#64, c := 0xFFFF02#64 }
  else if 0x010 ≤ n ∧ n ≤ 0x017 then some { live := BitVec.allOnes 64 }
  else if 0x100 ≤ n ∧ n ≤ 0x10F then some { live := 0x1F#64, c := 0x1F#64 }
  else if 0x110 ≤ n ∧ n ≤ 0x13F then some { live := BitVec.allOnes 64 }
  else if n = 0xC01 then some { live := 0xFFFF#64, w := 0xFFFF#64, s := 0xFFFF#64, c := 0xFFFF#64 }
  else if n = 0xC02 then some { live := 1, w := 1, s := 1, c := 1 }
  else none

/-- The group view of a number, as the last core-clock edge saw it (R34, R125): zero for a group that the team does not
hold. -/
def State.viewOf (s : State) (id n : Nat) (f : Edge → W64) : W64 :=
  if isTeamCtx id && decide (csrGroup n < (s.team id).groups) then f (s.grp (groupId id (csrGroup n))).edge else 0

/-- The value of a listed control register (R33, R415). A context that lies on no core has no CID of a core to view: its
value is free (assumption 13). -/
def State.csrGet (s : State) (id n : Nat) : W64 :=
  let c := s.ctx id
  if n = 0x000 then c.gmode.zeroExtend 64
  else if n = 0x001 then c.tvec
  else if n = 0x002 then c.tstatus.zeroExtend 64
  else if n = 0x003 then c.tepc
  else if n = 0x004 then w64 c.tq.length
  else if n = 0x005 then c.regpc.zeroExtend 64
  else if n = 0x006 then c.pstat.zeroExtend 64
  else if n = 0x007 then c.tok
  else if n < 0x018 then c.trec.regs.getD (n - 0x10) 0
  else if n < 0x110 then s.viewOf id n (fun e => e.fpx.zeroExtend 64)
  else if n < 0x120 then s.viewOf id n (fun e => e.sig.zeroExtend 64)
  else if n < 0x130 then s.viewOf id n (fun e => e.esn.zeroExtend 64)
  else if n < 0x140 then s.viewOf id n (fun e => e.park)
  else if n = 0x800 then (if isTeamCtx id then s.cid (teamCore id) else s.free)
  else if n = 0xC00 then w64 (ctxDie id + (id - 4096) % 4 * 16)
  else if n = 0xC01 then c.sasid.zeroExtend 64
  else w64 (bitN c.supper)

/-- Writes a control register that has writable bits. Of a group's flags those are cleared that the edge saw and the value
does not hold: a flag set since stays (R125). -/
def State.csrPut (s : State) (id n : Nat) (x : W64) : State :=
  let c := s.ctx id
  if n = 0x000 then s.setCtx id { c with gmode := x.extractLsb' 0 32 }
  else if n = 0x001 then s.setCtx id { c with tvec := x }
  else if n = 0x002 then s.setCtx id { c with tstatus := x.extractLsb' 0 32 }
  else if n = 0x003 then s.setCtx id { c with tepc := x }
  else if n = 0x006 then s.setCtx id { c with pstat := x.extractLsb' 0 32 }
  else if n = 0xC01 then s.setCtx id { c with sasid := x.extractLsb' 0 16 }
  else if n = 0xC02 then s.setCtx id { c with supper := x.getLsbD 0 }
  else if isTeamCtx id && decide (csrGroup n < (s.team id).groups) then
    s.updGrp (groupId id (csrGroup n)) (fun g => { g with fpx := g.fpx &&& ~~~(g.edge.fpx &&& ~~~(x.extractLsb' 0 5)) })
  else s

/-- The value would be one that the register may not hold (R36, R124). -/
def csrReserved (n : Nat) (x : W64) : Bool :=
  if n = 0x000 then fieldOf x 8 2 == 3 || decide (4 < fieldOf x 0 3)
  else if n = 0x001 then !pcOk x
  else false

/-- What the three writing words do (R123): 1 CSRW, 2 CSRS, 3 CSRC. -/
inductive CsrOp where
  | w | s | c
deriving DecidableEq, Repr

/-- The value a writing word places, from the old value and its source; only the bits it may write change. -/
def CsrOp.apply (o : CsrOp) (r : CsrRule) (old v : W64) : W64 :=
  match o with
  | .w => (old &&& ~~~r.w) ||| (v &&& r.w)
  | .s => old ||| (v &&& r.s)
  | .c => old &&& ~~~(v &&& r.c)

/-- The word touches a bit that it may not write (R124). -/
def CsrOp.bad (o : CsrOp) (r : CsrRule) (n : Nat) (old v : W64) : Bool :=
  let ro := r.w == 0 && r.s == 0 && r.c == 0
  match o with
  | .w => ro || ((v ^^^ old) &&& r.live &&& ~~~r.w) != 0
  | .s => ro || n == 0x003 || (v &&& r.live &&& ~~~r.s) != 0
  | .c => ro || n == 0x003 || (v &&& r.live &&& ~~~r.c) != 0

/-- The fault of an access to a control register that is privileged or not listed (R124 orders 1 and 2). -/
def csrFault (id n : Nat) (v : W64) : Option GFault :=
  if 0xC00 ≤ n ∧ !isSup id then some { code := 0x2 }
  else if (csrRule n).isNone then some { code := 0x4, t4 := w64 n, t5 := v }
  else none

/-- A word that writes a control register: its faults in the order of R124, the write, and the delivery that an unmasked
trap then brings (R35, R124). -/
def csrWrite (o : CsrOp) (d : BitVec 6) (n : Nat) (s : State) : Out :=
  gWord [d] s (fun id w c =>
    let v := c.get d
    match csrFault id n v with
    | some f => s.raiseG id f w
    | none =>
      let r := (csrRule n).getD { live := 0 }
      let old := s.csrGet id n
      let x := o.apply r old v
      if o.bad r n old v || csrReserved n x then s.raiseG id { code := 0x4, t4 := w64 n, t5 := v } w
      else ((s.csrPut id n x).updCtx id (fun c => c.done)).deliver id)

/-- CSRR (R123). -/
def execGCsrr (d : BitVec 6) (n : BitVec 12) (s : State) : Out :=
  gWord [d] s (fun id w c =>
    match csrFault id n.toNat 0 with
    | some f => s.raiseG id f w
    | none =>
      let s1 := if n = 0x800#12 && !isTeamCtx id then s.used else s
      s1.setCtx id ((c.put d (s.csrGet id n.toNat)).done))

/-- CSRW (R123, R124). -/
def execGCsrw (d : BitVec 6) (n : BitVec 12) (s : State) : Out := csrWrite .w d n.toNat s
/-- CSRS (R123, R124). -/
def execGCsrs (d : BitVec 6) (n : BitVec 12) (s : State) : Out := csrWrite .s d n.toNat s
/-- CSRC (R123, R124). -/
def execGCsrc (d : BitVec 6) (n : BitVec 12) (s : State) : Out := csrWrite .c d n.toNat s

end Sys2Proof.Machine
end

