-- ==== Sys2Proof/Machine/Float.lean ====
section
/-! DEFINITION. Machine/Float.lean: number formats, rounding, and the float operations of an element (R87 to R102). A code
is a number below 2^bits; values are exact. -/

namespace Sys2Proof.Machine

/-! ## Formats (R87 to R91) -/

/-- A float format: exponent bits, fraction bits; F8e4 has no infinity, no −0 and the one NaN 0x80 (R88). -/
structure Fmt where
  eb : Nat
  fb : Nat
  e4 : Bool := false
deriving DecidableEq, Repr, Inhabited

/-- FP32. -/
def fp32 : Fmt := { eb := 8, fb := 23 }
/-- FP16. -/
def fp16 : Fmt := { eb := 5, fb := 10 }
/-- BF16. -/
def bf16 : Fmt := { eb := 8, fb := 7 }
/-- F8e4. -/
def f8e4 : Fmt := { eb := 4, fb := 3, e4 := true }
/-- F8e5. -/
def f8e5 : Fmt := { eb := 5, fb := 2 }

/-- Exponent bias. -/
def Fmt.bias (f : Fmt) : Nat := 2 ^ (f.eb - 1) - 1
/-- Significand bits, the hidden one included (R95). -/
def Fmt.p (f : Fmt) : Nat := f.fb + 1
/-- Exponent of the least normal value. -/
def Fmt.emin (f : Fmt) : Int := 1 - (f.bias : Int)
/-- Exponent of the largest finite value. -/
def Fmt.emax (f : Fmt) : Int := if f.e4 then 8 else f.bias
/-- Place of the sign bit. -/
def Fmt.signBit (f : Fmt) : Nat := 2 ^ (f.eb + f.fb)
/-- The canonical NaN (R90). -/
def Fmt.nan (f : Fmt) : Nat := if f.e4 then 0x80 else (2 ^ f.eb - 1) * 2 ^ f.fb + 2 ^ (f.fb - 1)
/-- Largest finite code without its sign. -/
def Fmt.maxCode (f : Fmt) : Nat := if f.e4 then 0x7F else (2 ^ f.eb - 1) * 2 ^ f.fb - 1

/-- The value of a code (R87 to R89). -/
def Fmt.val (f : Fmt) (x : Nat) : FVal :=
  let neg := x / f.signBit % 2 == 1
  let ex := x / 2 ^ f.fb % 2 ^ f.eb
  let fr := x % 2 ^ f.fb
  if f.e4 && x == 0x80 then .nan
  else if !f.e4 && ex == 2 ^ f.eb - 1 then (if fr = 0 then .inf neg else .nan)
  else if ex = 0 then .fin neg fr (f.emin - f.fb)
  else .fin neg (2 ^ f.fb + fr) (f.emin - f.fb + (ex - 1 : Nat))

/-- A code with a sign; F8e4 has no −0. -/
def Fmt.sign (f : Fmt) (neg : Bool) (x : Nat) : Nat :=
  if neg && !(f.e4 && x == 0) then f.signBit + x else x

/-- An infinity of a format that has them. -/
def Fmt.inf (f : Fmt) (neg : Bool) : Nat := f.sign neg ((2 ^ f.eb - 1) * 2 ^ f.fb)

/-! ## Rounding (R94 to R97) -/

/-- A magnitude m / 2^k goes to the next integer up, by the mode (R94). -/
def roundsUp (mode : Nat) (neg : Bool) (m k : Nat) : Bool :=
  let q := m / 2 ^ k
  let r := m % 2 ^ k
  match mode with
  | 0 => decide (2 ^ k < 2 * r) || (2 * r == 2 ^ k && q % 2 == 1)
  | 1 => false
  | 2 => r != 0 && !neg
  | 3 => r != 0 && neg
  | _ => decide (2 ^ k ≤ 2 * r) && r != 0

/-- The integer that R94 chooses for m × 2^e. -/
def neighbour (mode : Nat) (neg : Bool) (m : Nat) (e : Int) : Nat :=
  if 0 ≤ e then m * 2 ^ e.toNat
  else m / 2 ^ (-e).toNat + bitN (roundsUp mode neg m (-e).toNat)

/-- m × 2^e is an integer. -/
def isWhole (m : Nat) (e : Int) : Bool := decide (0 ≤ e) || m % 2 ^ (-e).toNat == 0

/-- The result of an overflow (R96). -/
def Fmt.overflow (f : Fmt) (neg sat : Bool) (mode : Nat) : Nat :=
  if f.e4 then (if sat then f.sign neg f.maxCode else f.nan)
  else
    let toMax := sat || mode == 1 || (mode == 2 && neg) || (mode == 3 && !neg)
    if toMax then f.sign neg f.maxCode else f.inf neg

/-- RoundTo (R95), with the flags of R97. -/
def roundTo (f : Fmt) (mode : Nat) (sat : Bool) (x : FVal) : Nat × FFlags :=
  match x with
  | .nan => (f.nan, {})
  | .inf neg => if f.e4 then ((if sat then f.sign neg f.maxCode else f.nan), { nv := true }) else (f.inf neg, {})
  | .fin neg m e =>
    if m = 0 then (f.sign neg 0, {})
    else
      let lg : Int := Nat.log2 m + e
      let q := max lg f.emin - f.p + 1
      let k := neighbour mode neg m (e - q)
      let qmax := f.emax - f.p + 1
      let nx := !isWhole m (e - q)
      if qmax ≤ q ∧ 2 ^ f.p - 1 < k * 2 ^ (q - qmax).toNat then
        (f.overflow neg sat mode, { of := true, nx := true })
      else
        let wide := neighbour mode neg m (e - (lg - f.p + 1))
        let tiny := decide (lg < f.emin) && !(lg == f.emin - 1 && wide == 2 ^ f.p)
        (f.sign neg ((q - (f.emin - f.p + 1)).toNat * 2 ^ f.fb + k), { uf := nx && tiny, nx := nx })

/-! ## Exact arithmetic of values -/

/-- Sign as a factor. -/
def signed (neg : Bool) (m : Nat) : Int := if neg then -(m : Int) else m

/-- The opposite value. -/
def FVal.neg (x : FVal) : FVal :=
  match x with
  | .nan => .nan
  | .inf n => .inf (!n)
  | .fin n m e => .fin (!n) m e

/-- An exact sum; the flag is invalid (R97, R98). -/
def FVal.add (mode : Nat) (x y : FVal) : FVal × Bool :=
  match x, y with
  | .nan, _ => (.nan, false)
  | _, .nan => (.nan, false)
  | .inf a, .inf b => if a = b then (.inf a, false) else (.nan, true)
  | .inf a, _ => (.inf a, false)
  | _, .inf b => (.inf b, false)
  | .fin a m e, .fin b n g =>
    let l := min e g
    let t := signed a (m * 2 ^ (e - l).toNat) + signed b (n * 2 ^ (g - l).toNat)
    if t = 0 then (.fin (if a = b then a else mode == 3) 0 0, false)
    else (.fin (decide (t < 0)) t.natAbs l, false)

/-- An exact product; the flag is invalid (R97, R98). -/
def FVal.mul (x y : FVal) : FVal × Bool :=
  match x, y with
  | .nan, _ => (.nan, false)
  | _, .nan => (.nan, false)
  | .inf a, .inf b => (.inf (a != b), false)
  | .inf a, .fin b n _ => if n = 0 then (.nan, true) else (.inf (a != b), false)
  | .fin a m _, .inf b => if m = 0 then (.nan, true) else (.inf (a != b), false)
  | .fin a m e, .fin b n g => (.fin (a != b) (m * n) (e + g), false)

/-- A rounded result with an invalid flag of the exact operation. -/
def roundWith (f : Fmt) (mode : Nat) (sat : Bool) (r : FVal × Bool) : Nat × FFlags :=
  let x := roundTo f mode sat r.1
  (x.1, { x.2 with nv := x.2.nv || r.2 })

/-- FADD of codes (R98). -/
def fadd (f : Fmt) (mode : Nat) (sat : Bool) (a b : Nat) : Nat × FFlags :=
  roundWith f mode sat ((f.val a).add mode (f.val b))
/-- FSUB of codes (R98). -/
def fsub (f : Fmt) (mode : Nat) (sat : Bool) (a b : Nat) : Nat × FFlags :=
  roundWith f mode sat ((f.val a).add mode (f.val b).neg)
/-- FMUL of codes (R98). -/
def fmul (f : Fmt) (mode : Nat) (sat : Bool) (a b : Nat) : Nat × FFlags :=
  roundWith f mode sat ((f.val a).mul (f.val b))

/-- One product and one sum of codes, rounded once (R98): np negates the product, nc the addend. -/
def ffma (f : Fmt) (mode : Nat) (sat np nc : Bool) (a b c : Nat) : Nat × FFlags :=
  let p := (f.val a).mul (f.val b)
  let q := if np then p.1.neg else p.1
  let z := f.val c
  let r := q.add mode (if nc then z.neg else z)
  roundWith f mode sat (r.1, r.2 || p.2)

/-- FP32 addition to nearest, without its flags: a node of TreeSum (R213). -/
def fadd32 (a b : Nat) : Nat := (fadd fp32 0 false a b).1

/-- Square root of a whole number, n bits of it at most, by its bits from the top. -/
def isqrtBits (n x r : Nat) : Nat :=
  match n with
  | 0 => r
  | k + 1 => let t := r + 2 ^ k; isqrtBits k x (if t * t ≤ x then t else r)

/-- Square root of a whole number, rounded down. -/
def isqrt (x : Nat) : Nat := isqrtBits (Nat.log2 x / 2 + 1) x 0

/-- A magnitude between two neighbours of a grid: it lies strictly above m × 2^e and below (m + 1) × 2^e. -/
def between (neg : Bool) (m : Nat) (e : Int) : FVal := .fin neg (2 * m + 1) (e - 1)

/-- FSQRT (R98). -/
def fsqrt (f : Fmt) (mode : Nat) (sat : Bool) (a : Nat) : Nat × FFlags :=
  match f.val a with
  | .nan => (f.nan, {})
  | .inf neg => if neg then (f.nan, { nv := true }) else roundTo f mode sat (.inf false)
  | .fin neg m e =>
    if m = 0 then roundTo f mode sat (.fin neg 0 0)
    else if neg then (f.nan, { nv := true })
    else
      let odd := e % 2 != 0
      let m1 := (if odd then 2 * m else m) * 4 ^ 64
      let e1 := (if odd then e - 1 else e) / 2 - 64
      let r := isqrt m1
      roundTo f mode sat (if r * r = m1 then .fin false r e1 else between false r e1)

/-- Order of finite and infinite values; −0 lies below +0 when z is set. -/
def FVal.lt (z : Bool) (x y : FVal) : Bool :=
  match x, y with
  | .nan, _ => false
  | _, .nan => false
  | .inf a, .inf b => a && !b
  | .inf a, .fin _ _ _ => a
  | .fin _ _ _, .inf b => !b
  | .fin a m e, .fin b n g =>
    let l := min e g
    let s := signed a (m * 2 ^ (e - l).toNat)
    let t := signed b (n * 2 ^ (g - l).toNat)
    decide (s < t) || (z && m == 0 && n == 0 && a && !b)

/-- The value is a NaN. -/
def FVal.isNan (x : FVal) : Bool := match x with | .nan => true | _ => false

/-- FMIN and FMAX (R98). -/
def fminmax (f : Fmt) (max : Bool) (a b : Nat) : Nat :=
  let x := f.val a
  let y := f.val b
  if x.isNan && y.isNan then f.nan
  else if x.isNan then b
  else if y.isNan then a
  else if max then (if x.lt true y then b else a)
  else if y.lt true x then b else a

/-- FABS and FNEG (R98). -/
def fabsneg (f : Fmt) (neg : Bool) (a : Nat) : Nat :=
  let m := a % f.signBit
  if (f.val a).isNan then f.nan
  else f.sign (neg && a == m) m

/-- FCMP (R98): 0 EQ, 1 NE, 2 LT, 3 LE, 4 GT, 5 GE, 6 UN. -/
def fcmp (f : Fmt) (op : Nat) (a b : Nat) : Bool :=
  let x := f.val a
  let y := f.val b
  let un := x.isNan || y.isNan
  let lt := x.lt false y
  let gt := y.lt false x
  match op with
  | 0 => !un && !lt && !gt
  | 1 => un || lt || gt
  | 2 => lt
  | 3 => !un && !gt
  | 4 => gt
  | 5 => !un && !lt
  | _ => un

/-! ## FRCP, FRSQ, FEX2, FLG2 (R99) -/

/-- Divides out the factors of two, n at most. -/
def oddPart (n m : Nat) (e : Int) : Nat × Int :=
  match n with
  | 0 => (m, e)
  | k + 1 => if m % 2 = 0 then oddPart k (m / 2) (e + 1) else (m, e)

/-- FRCP. -/
def frcp (f : Fmt) (sat : Bool) (a : Nat) : Nat × FFlags :=
  match f.val a with
  | .nan => (f.nan, {})
  | .inf neg => (f.sign neg 0, {})
  | .fin neg m e =>
    if m = 0 then
      let r := roundTo f 0 sat (.inf neg)
      (r.1, { r.2 with dz := true })
    else
      let (o, g) := oddPart 32 m e
      if o = 1 then roundTo f 0 sat (.fin neg 1 (-g))
      else
        let k := Nat.log2 o + 64
        roundTo f 0 sat (between neg (2 ^ k / o) (-g - k))

/-- FRSQ. -/
def frsq (f : Fmt) (sat : Bool) (a : Nat) : Nat × FFlags :=
  match f.val a with
  | .nan => (f.nan, {})
  | .inf neg => if neg then (f.nan, { nv := true }) else (0, {})
  | .fin neg m e =>
    if m = 0 then
      let r := roundTo f 0 sat (.inf neg)
      (r.1, { r.2 with dz := true })
    else if neg then (f.nan, { nv := true })
    else
      let (o, g) := oddPart 32 m e
      if o = 1 ∧ g % 2 = 0 then roundTo f 0 sat (.fin false 1 (-g / 2))
      else
        let o1 := if g % 2 = 0 then o else 2 * o
        let g1 := if g % 2 = 0 then g else g - 1
        roundTo f 0 sat (between false (isqrt (4 ^ 96 / o1)) (-(g1 / 2) - 96))

/-- Product of the roots 2^(2^−i) for the set bits of a fraction, from its top bit on, to 160 bits: n bits are left, x
holds them, c is the last root and acc the product so far. -/
def rootProduct (n x c acc : Nat) : Nat :=
  match n with
  | 0 => acc
  | k + 1 =>
    let c1 := isqrt (c * 2 ^ 160)
    rootProduct k (x % 2 ^ k) c1 (if x / 2 ^ k % 2 = 1 then acc * c1 / 2 ^ 160 else acc)

/-- FEX2 (assumption 17 on its precision). -/
def fex2 (f : Fmt) (sat : Bool) (a : Nat) : Nat × FFlags :=
  match f.val a with
  | .nan => (f.nan, {})
  | .inf neg => if neg then (0, {}) else roundTo f 0 sat (.inf false)
  | .fin neg m e =>
    if m = 0 then roundTo f 0 sat (.fin false 1 0)
    else if (Nat.log2 m : Int) + e < -26 then
      ((roundTo f 0 sat (.fin false 1 0)).1, { nx := true })
    else if 10 < (Nat.log2 m : Int) + e then
      roundTo f 0 sat (if neg then between false 1 (-4000) else .fin false 1 4000)
    else
      let k := (-e).toNat
      let t := signed neg (m * 2 ^ e.toNat)
      let n := t.fdiv (2 ^ k)
      let fr := (t.fmod (2 ^ k)).toNat
      if fr = 0 then roundTo f 0 sat (.fin false 1 n)
      else roundTo f 0 sat (between false (rootProduct k fr (2 ^ 161) (2 ^ 160)) (n - 160))

/-- n binary digits of log2 of y / 2^320, for y / 2^320 in [1, 2), after those in acc. -/
def logBits (n y acc : Nat) : Nat :=
  match n with
  | 0 => acc
  | k + 1 =>
    let q := y * y / 2 ^ 320
    if 2 ^ 321 ≤ q then logBits k (q / 2) (2 * acc + 1) else logBits k q (2 * acc)

/-- FLG2 (assumption 17 on its precision). -/
def flg2 (f : Fmt) (sat : Bool) (a : Nat) : Nat × FFlags :=
  match f.val a with
  | .nan => (f.nan, {})
  | .inf neg => if neg then (f.nan, { nv := true }) else roundTo f 0 sat (.inf false)
  | .fin neg m e =>
    if m = 0 then
      let r := roundTo f 0 sat (.inf true)
      (r.1, { r.2 with dz := true })
    else if neg then (f.nan, { nv := true })
    else
      let l := Nat.log2 m
      let n : Int := l + e
      if m = 2 ^ l then roundTo f 0 sat (.fin (decide (n < 0)) n.natAbs 0)
      else
        let t := n * 2 ^ 140 + (logBits 140 (m * 2 ^ (320 - l)) 0 : Nat)
        roundTo f 0 sat (if t < 0 then between true ((-t).toNat - 1) (-140) else between false t.toNat (-140))

/-! ## Integers (R101, R102) -/

/-- An integer type: width and sign. -/
structure IFmt where
  w : Nat
  sg : Bool
deriving DecidableEq, Repr, Inhabited

/-- Value of a code of an integer type. -/
def IFmt.val (t : IFmt) (x : Nat) : Int := if t.sg && decide (2 ^ (t.w - 1) ≤ x) then (x : Int) - 2 ^ t.w else x
/-- Least value of a type (R91). -/
def IFmt.lo (t : IFmt) : Int := if t.sg then -(2 ^ (t.w - 1)) else 0
/-- Largest value of a type (R91). -/
def IFmt.hi (t : IFmt) : Int := if t.sg then 2 ^ (t.w - 1) - 1 else 2 ^ t.w - 1
/-- Code of an integer, wrapped. -/
def IFmt.wrap (t : IFmt) (x : Int) : Nat := (x.fmod (2 ^ t.w)).toNat
/-- An integer into the range of a type. -/
def IFmt.clamp (t : IFmt) (x : Int) : Int := if x < t.lo then t.lo else if t.hi < x then t.hi else x
/-- An exact integer narrowed to a type (R102). -/
def IFmt.narrow (t : IFmt) (sat : Bool) (x : Int) : Nat := t.wrap (if sat then t.clamp x else x)

/-- A float value to an integer type (R101). -/
def cvtToInt (t : IFmt) (mode : Nat) (x : FVal) : Nat × FFlags :=
  match x with
  | .nan => (0, { nv := true })
  | .inf neg => (t.wrap (if neg then t.lo else t.hi), { nv := true })
  | .fin neg m e =>
    if 200 < (Nat.log2 m : Int) + e then (t.wrap (if neg then t.lo else t.hi), { nv := true })
    else
      let k := signed neg (neighbour mode neg m e)
      let c := t.clamp k
      (t.wrap c, { nv := c != k, nx := c == k && !isWhole m e })

/-- An integer to a float format (R101). -/
def cvtFromInt (f : Fmt) (mode : Nat) (sat : Bool) (x : Int) : Nat × FFlags :=
  roundTo f mode sat (.fin (decide (x < 0)) x.natAbs 0)

end Sys2Proof.Machine
end

