-- ==== Sys2Proof/Machine/Gangs.lean ====
section
/-! DEFINITION. Machine/Gangs.lean: gang barriers, exchange banks and the retirement of a team (R129, R200, R396 to
R398). -/

namespace Sys2Proof.Machine

/-- A gang barrier: expected, arrived, drops, phase. -/
abbrev Gb := Nat × Nat × Nat × Bool

/-- A gang barrier of a gang. -/
def Gang.bar (g : Gang) (b : Nat) : Gb := kvGet (g.tids.length, 0, 0, false) g.gb b

/-- Remote-data cache of a core's cluster. -/
def rdcOf (c : Nat) : Nat := 1024 + coreDie c * 16 + coreCluster c

/-- An acquire at DIE or wider drops the WT lines of the core's L1 and of its cluster's RDC (R204). -/
def State.dropWt (s : State) (c : Nat) : State :=
  { s with copies := s.copies.filter (fun k => k.os || !(k.cache == c || k.cache == rdcOf c)) }

/-- A GBARWAIT of a team completes: an acquire at gang scope, which is DIE or wider (R231, R397). -/
def State.gbRelease (s : State) (tid : Nat) : State :=
  ((s.dropWt (teamCore tid)).updCtx tid (fun c => c.done)).count (teamCore tid) 14

/-- A gang barrier flips when arrived = expected ≠ 0 (R396): the exchange banks of every team of the gang change places,
every arrival is forgotten, and every GBARWAIT on the new phase is released. -/
def State.gbSettle (s : State) (gid b : Nat) : State :=
  let g := s.gang gid
  let (e, a, d, ph) := g.bar b
  if a = e ∧ e ≠ 0 then
    let s1 := s.updGang gid (fun g => { g with gb := kvSet g.gb b (e - d, 0, 0, !ph) })
    let s2 := { s1 with teams := kvMap (fun _ t =>
        if t.gang = some gid then { t with flipped := !t.flipped, gbArrived := natDel t.gbArrived b } else t) s1.teams }
    let waits (tid : Nat) : Bool := (s2.ctx tid).wait == .barrier b (!ph) true
    ((s2.teams.filter (fun e => e.2.gang == some gid && waits e.1)).map (fun e => e.1)).foldl State.gbRelease s2
  else s

/-- A team's arrival at a gang barrier, with or without its drop (R390, R397). -/
def State.gbArrive (s : State) (tid b : Nat) (drop : Bool) : State :=
  match (s.team tid).gang with
  | none => s
  | some gid =>
    let (e, a, d, ph) := (s.gang gid).bar b
    let s1 := s.updGang gid (fun g => { g with gb := kvSet g.gb b (e, a + 1, if drop then d + 1 else d, ph) })
    let s2 := s1.updTeam tid (fun t => { t with
      gbArrived := natAdd t.gbArrived b, gbMember := if drop then natDel t.gbMember b else t.gbMember })
    s2.gbSettle gid b

/-- A team's EXIT is its drop from every gang barrier of which it is a member, and its arrival where it has not arrived
(R396). -/
def State.gbLeave (s : State) (t : Team) : State :=
  match t.gang with
  | none => s
  | some gid => t.gbMember.foldl (fun a b =>
      let (e, n, d, ph) := (a.gang gid).bar b
      let n1 := if t.gbArrived.contains b then n else n + 1
      (a.updGang gid (fun g => { g with gb := kvSet g.gb b (e, n1, d + 1, ph) })).gbSettle gid b) s

/-- Physical place of a share offset: the exchange banks stand exchanged after an odd number of flips (R200). -/
def Team.place (t : Team) (off : Nat) : Nat :=
  let x := t.xwin
  if !t.flipped || x = 0 then off
  else if t.share - 2 * x ≤ off && off < t.share - x then off + x
  else if t.share - x ≤ off && off < t.share then off - x
  else off

/-- Bytes of a share. -/
def Team.spBytesAt (t : Team) (off n : Nat) : List Byte := bytesAt (fun a => spGet t.sp (t.place a)) off n
/-- A number in a share. -/
def Team.spRead (t : Team) (off n : Nat) : Nat := leNat (t.spBytesAt off n)
/-- The poison of a word of a share (R456). -/
def Team.spPoisoned (t : Team) (off : Nat) : Bool := t.spPoison.contains (t.place (off / 4 * 4) / 4)
/-- The tag of a word of a share (R199). -/
def Team.spFull (t : Team) (off : Nat) : Bool := t.spTag.contains (t.place (off / 4 * 4) / 4)
/-- Sets the tag of a word of a share. -/
def Team.setTag (t : Team) (off : Nat) (b : Bool) : Team :=
  let w := t.place (off / 4 * 4) / 4
  { t with spTag := if b then natAdd t.spTag w else natDel t.spTag w }
/-- Sets the poison of a word of a share. -/
def Team.setPoison (t : Team) (off : Nat) (b : Bool) : Team :=
  let w := t.place (off / 4 * 4) / 4
  { t with spPoison := if b then natAdd t.spPoison w else natDel t.spPoison w }
/-- Writes bytes of a share; a word written whole loses its poison (R456). -/
def Team.spWrite (t : Team) (off : Nat) (bs : List Byte) : Team :=
  let t1 := bs.zipIdx.foldl (fun a e => { a with sp := spSet a.sp (t.place (off + e.2)) e.1 }) t
  let ws := (List.range (bs.length / 4 + 1)).map (fun i => (off + 3) / 4 * 4 + 4 * i)
  (ws.filter (fun w => decide (w + 4 ≤ off + bs.length))).foldl (fun a w => a.setPoison w false) t1

/-- Everything that EXIT waits for holds (R129): no armed group, no live M-word and none under way, no token. The words that
a retired group has issued complete first, with the faults they find (R157). DEDUCED (assumption 21), safe. -/
def State.mayExit (s : State) (tid : Nat) : Bool :=
  (s.armedGroups tid).isEmpty && (s.team tid).mLive.isEmpty && !s.matBusy tid && (s.ctx tid).tok == 0 &&
    (s.team tid).faults.isEmpty && (s.team tid).gbOwed.isNone &&
    (List.range 16).all (fun g => (s.grp (groupId tid g)).pend.isEmpty)

/-- Bytes of a team's image (R192), rounded up to 64 KiB. -/
def Team.imageSize (t : Team) : Nat :=
  (0x1C00 + t.groups * 0x6000 + t.accs * 0x6400 + t.share + 65535) / 65536 * 65536
/-- Bytes of a team's slot in the swap area (R337). -/
def Team.slotSize (t : Team) : Nat := t.imageSize + (t.share / 32 + 65535) / 65536 * 65536
/-- Address of a team's slot in the swap area (R337). -/
def Team.slotVa (t : Team) : W64 := t.swapArea + w64 (t.num * t.slotSize)

/-- An ADVISORY record of a swap: 2 done, 3 abandoned, 4 its target had completed (R378). -/
def State.swapNote (s : State) (tid sub : Nat) (at_ : W64) : State :=
  s.send { s.teamRec tid 5 0 { t0 := w64 sub, t1 := w64 (teamCore tid + tid % 4 * 2 ^ 10), t2 := at_ } .nobody with
    tid := none }

/-- The team retires (R129, R182, R396): its resources are freed, it leaves its gang, and a swap asked of it is over. -/
def State.retire (s0 : State) (tid : Nat) : State :=
  let t := s0.team tid
  let s := if t.life = .running then s0 else s0.swapNote tid 4 t.slotVa
  (((s.freeTeam tid false).gbLeave t).leaveGang t).teamGone t.lid (coreDie (teamCore tid)) false

end Sys2Proof.Machine
end

