-- ==== Sys2Proof/Machine/Memory.lean ====
section
/-! DEFINITION. Machine/Memory.lean: hold-back, caches and directories, the performing of reads and writes, leases and the
outside (R200 to R219, R230, R256 to R258, R373 to R384). -/

namespace Sys2Proof.Machine

/-! ## The outside (R218, R384) -/

/-- Route and I/O die of a far place as a die reaches it: an outside target's own I/O die, or a Holusk port (24 ports in
all). None: no entry matches. -/
def State.farRoute (s : State) (die pl : Nat) : Option (Nat × Nat) :=
  let k := pl / 2 ^ 42
  if 2 ^ 23 ≤ k then
    let t := k - 2 ^ 23
    some (if t < 2 then t else (t - 2) / 2, t)
  else
    let io := ioNear die
    (s.route io (k - 1) (physLine 0 (pl / 128))).map (fun p => (io, 16 + io * 12 + p))

/-- Address of a far place at its target. -/
def farAddr (pl : Nat) : W64 := w64 (pl % 2 ^ 42)

/-- The page of host memory that a place lies on, with the I/O die whose PCIe port reaches it (R408, R409). -/
def hostPage (pl : Nat) : Option (Nat × Nat) :=
  let k := pl / 2 ^ 42
  if 2 ^ 23 ≤ k && k < 2 ^ 23 + 2 then some (k - 2 ^ 23, pl % 2 ^ 42 / 4096) else none

/-- The host's translation of a place that is to be read does not stand in the ATS cache (R408). -/
def State.hostWaits (s : State) (pls : List Nat) : Bool :=
  pls.any (fun p => match hostPage p with
    | some (i, g) => !(s.iod i).hostAts.contains g
    | none => false)

/-- A translation of the host's is cached, and the writes that wait for it may leave (R408). -/
def Iod.hostTaken (x : Iod) (g : Nat) : Iod :=
  let wake (e : Egress) : Egress := if e.route < 2 ∧ e.addr.toNat / 4096 = g then { e with ready := true } else e
  { x with
    pri := natDel x.pri g, hostAts := natAdd (if x.hostAts.length < 8191 then x.hostAts else x.hostAts.drop 1) g
    egress := x.egress.map wake, linkQ := x.linkQ.map wake }

/-- The ATS cache of an I/O die holds a translation of the host's from now on (R360, R408). -/
def State.hostTaken (s : State) (i g : Nat) : State :=
  let s1 := s.updIod i (fun x => x.hostTaken g)
  s1.updDie (8 + i) (fun d => { d with ats := d.ats.take (8192 - (s1.iod i).hostAts.length) })

/-- A translation that does not stand in the ATS cache is asked of the host: it answers at once, or a page request goes to it
(R408; assumption 123). -/
def State.askAts (s : State) (i g : Nat) : State :=
  if (s.iod i).hostAts.contains g || (s.iod i).pri.contains g then s
  else if Config.hostMaps s.freeCtr then s.used.hostTaken i g
  else s.used.updIod i (fun x => { x with pri := natAdd x.pri g })

/-- Translations that do not stand there are asked of the host (R408). -/
def State.askHost (s : State) (pls : List Nat) : State :=
  pls.foldl (fun a p => match hostPage p with | some (i, g) => a.askAts i g | none => a) s

/-- The place is a line of another device, which caches may hold; outside targets are never cached (R202, R409). -/
def isDevice (pl : Nat) : Bool := isFar pl && decide (pl / 2 ^ 42 < 2 ^ 23)

/-- Bytes that a read of a far place returns: the outside's (assumption 11). None: poison, for a device without a route, or
where the device has written poison (R207, R456). -/
def State.readFar (s0 : State) (die pl n : Nat) : State × Option (List Byte) :=
  match s0.farRoute die pl with
  | none => (s0, none)
  | some (io, _) =>
    let s := s0.between die (8 + io)
    if (List.range ((pl % 64 + n + 63) / 64)).any (fun k => s.poison.contains (pl / 64 + k)) then (s, none)
    else ({ s with freeCtr := s.freeCtr + n }, some (bytesAt Config.outsideByte s.freeCtr n))

/-- A write arrives at an egress buffer, of 2,048 places; while all are taken the die links hold it back (R218). -/
def Iod.enter (x : Iod) (e : Egress) : Iod :=
  if x.egress.length < 2048 ∧ x.linkQ = [] then { x with egress := x.egress ++ [e] } else { x with linkQ := x.linkQ ++ [e] }

/-- Places have become free: the writes that the die links hold arrive (R218). -/
def Iod.refill (x : Iod) (clk : Nat) : Iod :=
  let n := 2048 - x.egress.length
  { x with egress := x.egress ++ (x.linkQ.take n).map (fun e => { e with at_ := clk }), linkQ := x.linkQ.drop n }

/-- Writes on their way out: in quarantine, or held back on the die links. -/
def Iod.outgoing (x : Iod) : List Egress := x.egress ++ x.linkQ

/-- An outbound write enters the egress quarantine of its I/O die; without a route it is dropped (R218, R384). -/
def State.outbound (s : State) (die pl : Nat) (data : KV Byte) (unit team slice : Nat) (rel : Bool)
    (lid : Option Nat := none) : State :=
  match s.farRoute die pl with
  | none => s
  | some (io, r) =>
    let n := s.opSerial
    let page := (farAddr pl).toNat / 4096
    let s0 := s.between die (8 + io)
    let s1 := if 2 ≤ r then s0 else s0.askAts io page
    let e : Egress :=
      { route := r, addr := farAddr pl, data := data, unit := unit, team := team, slice := slice, rel := rel, lid := lid
        ready := decide (2 ≤ r) || (s1.iod io).hostAts.contains page, at_ := s.clk, serial := n }
    { s1.updIod io (fun x => x.enter e) with opSerial := n + 1 }

/-- An egress buffer that the places need has room (R218). -/
def State.egressRoom (s : State) (die : Nat) (pls : List Nat) : Bool :=
  pls.all (fun p => match s.farRoute die p with
    | some (io, _) => isLocal p || decide ((s.iod io).egress.length < 2048)
    | none => true)

/-! ## Caches and directories (R202, R204, R373 to R375) -/

/-- The directory entry of a line whose dirty copy has been written back while its die keeps a clean one (R375). -/
def DirEntry.clean (e : DirEntry) : DirEntry :=
  match e.state with
  | .m => { e with state := .e }
  | .o => { e with state := .s, owner := 15 }
  | _ => e

/-- A cache loses a copy. Of an OS line in an RDC the package directory learns: a dirty line is written back, and the die is
no holder unless another of its RDCs is (R375). The write-back is of the whole line, whose sectors are good then (R207). -/
def State.evict (s : State) (c : Copy) : State :=
  let part (p : Nat) : Bool := !c.dirty || p / 2 != c.line
  let s1 := { s with
    copies := s.copies.erase c, poison := s.poison.filter part, errs := s.errs.filter (fun e => part e.1) }
  if !c.os || !isRdc c.cache then s1
  else
    let d := cacheDie c.cache
    let kept := s1.copies.any (fun k => k.line == c.line && isRdc k.cache && cacheDie k.cache == d)
    match kvFind s1.dir c.line with
    | some e => { s1 with dir := kvSet s1.dir c.line (if kept then (if c.dirty then e.clean else e) else e.leave d) }
    | none => s1

/-- A cache's copy of a line, which a directory eviction may have taken from it (R202, R373; assumption 10). -/
def State.lookup (s : State) (cache line : Nat) : State × Option Copy :=
  match s.copies.find? (fun c => c.cache == cache && c.line == line) with
  | none => (s, none)
  | some c => if Config.evicted s.freeCtr then (s.used.evict c, none) else (s.used, some c)

/-- A cache holds a line. -/
def State.holds (s : State) (cache line : Nat) : Bool := s.copies.any (fun k => k.cache == cache && k.line == line)

/-- Lines that an L1 or an RDC holds at most: 64 KiB and as much for each lent unit, or 2 MiB (R197, R201). -/
def State.cacheLines (s : State) (k : Nat) : Nat := if k < 1024 then 512 * (1 + (s.core k).lent.length) else 16384

/-- A cache gives a copy up where it holds more than it may; which one is open (assumption 10). -/
def State.makeRoom (s : State) (k most : Nat) : State :=
  let mine := s.copies.filter (fun c => c.cache == k)
  if mine.length ≤ most then s
  else
    match mine[s.free.toNat % mine.length]? with
    | some c => s.used.evict c
    | none => s

/-- An L1 or an RDC takes a copy, in the place of one of the same line (R202). -/
def State.insert (s : State) (c : Copy) : State :=
  let s1 := s.makeRoom c.cache (s.cacheLines c.cache - 1)
  { s1 with copies := c :: s1.copies.filter (fun k => k.cache != c.cache || k.line != c.line) }

/-- The state of an OS line's directory entry after a read by die r (R375). -/
def DirEntry.read (e : DirEntry) (r : Nat) (home : Bool) : DirEntry :=
  let add (v : BitVec 8) : BitVec 8 := if home then v else v ||| (1#8 <<< r)
  match e.state with
  | .i => if home then e else { state := .e, owner := r, vec := add 0 }
  | .e => if e.owner = r then e else { state := .s, owner := 15, vec := add e.vec }
  | .m => if e.owner = r then e else { state := .o, owner := e.owner, vec := add e.vec }
  | .s => { e with vec := add e.vec }
  | .o => { e with vec := add e.vec }

/-- The state of an OS line's directory entry after a write by die r (R375). -/
def DirEntry.write (r : Nat) (home : Bool) : DirEntry :=
  if home then {} else { state := .m, owner := r, vec := 1#8 <<< r }

/-- Slice of a line on a die (R203). -/
def sliceOf (line : Nat) : Nat :=
  let p := line * 128
  (p / 2 ^ 7 % 128) ^^^ (p / 2 ^ 14 % 128) ^^^ (p / 2 ^ 21 % 128) ^^^ (p / 2 ^ 28 % 128) ^^^ (p / 2 ^ 35 % 128)

/-- L2 slice of a line: of HBM4E of its home die only (R202, R203). -/
def l2Of (line : Nat) : Nat := 2048 + homeDie (line * 128) * 128 + sliceOf line

/-- The line lies in HBM4E. -/
def isHbm (line : Nat) : Bool := line * 128 < 0x10000000000

/-- Reuse class of a page's hint identifier on its home die; identifier 0 reads as class 2 (R365). -/
def State.hintClass (s : State) (die hint : Nat) : Nat :=
  if hint = 0 then 2 else fieldOf (spGet (s.die die).hintcls (hint / 32)) (2 * (hint % 32)) 2

/-- An L2 slice takes a line at the replacement position of its class, in a set of 16 ways whose least recently used line
makes room (R197, R365). -/
def State.fillSlice (s : State) (line cls : Nat) : State :=
  let id := l2Of line
  let mine (k : Copy) : Bool := k.cache == id && Config.l2Set k.line % 256 == Config.l2Set line % 256
  let set := (s.copies.filter mine).take 15
  let at_ := match cls with | 0 => set.length | 1 => set.length - 1 | 2 => set.length / 2 | _ => 0
  { s with copies := set.take at_ ++ ({ cache := id, line := line } : Copy) :: set.drop at_ ++
      s.copies.filter (fun k => !mine k) }

/-- A line of a slice is the last used. -/
def State.touchSlice (s : State) (line : Nat) : State :=
  let mine (k : Copy) : Bool := k.cache == l2Of line && k.line == line
  { s with copies := s.copies.filter mine ++ s.copies.filter (fun k => !mine k) }

/-- A request for a line reaches its home slice (R401). On an OS page it recalls the copies of another die (R375). -/
def State.request (s0 : State) (die line : Nat) (os write : Bool) : State :=
  let home := homeDie (line * 128)
  let s := s0.between die home
  if !isHbm line || (s.die home).spms.isEmpty then s
  else
    let s1 := s.countSlice home (sliceOf line) 1 1
    let s2 := if s.holds (l2Of line) line then s1 else s1.countSlice home (sliceOf line) 2 1
    let e := kvGet {} s.dir line
    let others := e.vec &&& ~~~(1#8 <<< die)
    let fetchBack := os && (if write then others != 0 else e.owner != 15 && e.owner != die)
    if fetchBack then s2.countSlice home (sliceOf line) 3 1 else s2

/-- A read of an address goes to its memory, unless an owner supplies the line (R206, R207, R215). -/
def State.correctLine (s : State) (la : Nat) : State := if s.dirtyLine (la / 128) then s else s.correct la

/-- A line is read at its home, for an agent whose caches do not take it: its slice holds it from then on, and the package
directory takes the read for one of a die that holds no copy (R202, R375). -/
def State.homeRead (s0 : State) (die line hint : Nat) : State :=
  let a := line * 128
  let s := (s0.correctLine a).correctLine (a + 64)
  let e := kvFind s.dir line
  let s1 := s.request die line e.isSome false
  let s2 := match e with
    | some e => { s1 with dir := kvSet s1.dir line (e.read die true) }
    | none => s1
  if !isHbm line || s2.readsBad a || s2.readsBad (a + 64) || !s2.populated a then s2
  else if s2.holds (l2Of line) line then s2.touchSlice line
  else s2.fillSlice line (s2.hintClass (homeDie a) hint)

/-! ## Walks as reads (R207, R361, R366, R375) -/

/-- A die's walk reads the entries that it uses, each at its home (R361). -/
def State.walked (s : State) (die asid : Nat) (va : W64) : State :=
  (s.walkReads die asid va).foldl (fun a x => a.homeRead die (x / 128) 0) s

/-- A walk of a die's replica. -/
def State.walkNow (s : State) (die asid : Nat) (va : W64) (n : Need) : State × Walk :=
  (s.walked die asid va, s.walk die asid va n)

/-- Translation by a walk alone, whose reads are made. -/
def State.walkRead (s : State) (die asid : Nat) (upper : Bool) (va : W64) (n : Need) : State × Walk :=
  if !canonical va || (upperHalf va && !upper) then (s, .perm 0)
  else s.walkNow die (if upperHalf va then 0 else asid) va n

/-- Translation for an agent of a core (R366): its L1 TLB, the cluster's L2 TLB, then a walk of the die's replica. Only
the last row of R364 is cached. -/
def State.translateCore (s : State) (c asid : Nat) (va : W64) (n : Need) : State × Walk :=
  if !canonical va || upperHalf va then (s, .perm 0)
  else
    match (s.core c).tlb.find? (fun t => t.hit asid va) with
    | some t => (s, t.answer n va)
    | none =>
      match (s.l2 c).find? (fun t => t.hit asid va) with
      | some t => (s.fillL1 c t, t.answer n va)
      | none =>
        let s1 := s.walked (coreDie c) asid va
        match s.walk (coreDie c) asid va n with
        | .ok e z =>
          let t : Tlb := { asid := asid, base := va.toNat / z * z, size := z, pte := e }
          ((s1.fillL2 c t).fillL1 c t, .ok e z)
        | w => (s1, w)

/-- Translation through one cache: a copy engine's TLB, or the ATS cache of an I/O die (R366). -/
def State.translateVia (s : State) (l : List Tlb) (cap die asid : Nat) (upper : Bool) (va : W64) (n : Need) :
    State × List Tlb × Walk :=
  if !canonical va || (upperHalf va && !upper) then (s, l, .perm 0)
  else
    let a := if upperHalf va then 0 else asid
    match l.find? (fun t => t.hit a va) with
    | some t => (s, l, t.answer n va)
    | none =>
      let s1 := s.walked die a va
      match s.walk die a va n with
      | .ok e z => (s1, tlbFill l cap { asid := a, base := va.toNat / z * z, size := z, pte := e }, .ok e z)
      | w => (s1, l, w)

/-- Translation for a generator context of any kind. -/
def State.translateCtx (s : State) (id : Nat) (va : W64) (n : Need) : State × Walk :=
  if isTeamCtx id then s.translateCore (teamCore id) (s.asidOf id) va n
  else s.walkRead (ctxDie id) (s.asidOf id) ((s.ctx id).supper && isSup id) va n

/-! ## Fills -/

/-- A line read from its home into the caches of a core (R202, R374, R375); a line with poison is not kept. -/
def State.fill (s0 : State) (c line : Nat) (pk : PageKind) : State :=
  let a := line * 128
  let far := homeDie a != coreDie c
  let s := s0.homeRead (coreDie c) line pk.hint
  if s.readsBad a || s.readsBad (a + 64) || !s.populated a then s
  else
    let l1 : Copy := { cache := c, line := line, os := pk.os, data := s.bytes a 128 }
    let s1 := if far then s.insert { l1 with cache := rdcOf c } else s
    let s2 := (s1.insert l1).count c 10
    if pk.os && far then
      { s2 with dir := kvSet s2.dir line (((kvGet {} s0.dir line)).read (coreDie c) false) }
    else s2

/-- An acquire of a scope by an agent of a core. -/
def State.acquire (s : State) (c scope : Nat) : State := if 2 ≤ scope then s.dropWt c else s

/-- Counts a request in the hotness ranges of a die (R376); a miss goes on to the memory or another device. -/
def State.heat (s : State) (die lid : Nat) (va : W64) (miss : Bool) : State :=
  if (s.die die).hot.isEmpty then s
  else s.updDie die (fun d => { d with hot := d.hot.map (fun h =>
    if h.lid = lid ∧ h.base.toNat ≤ va.toNat ∧ va.toNat < h.base.toNat + h.len.toNat then
      { h with accesses := h.accesses + 1, misses := h.misses + bitN miss } else h) })

/-- A request that reaches a die's L2 or RDC must also go to memory, or to another die (R376): rdc is the RDC that may
serve it. -/
def State.misses (s : State) (die pl : Nat) (rdc : Option Nat) : Bool :=
  if isFar pl || homeDie pl != die || !isHbm (pl / 128) then
    !(match rdc with | some k => s.holds k (pl / 128) | none => false)
  else !s.holds (l2Of (pl / 128)) (pl / 128)

/-- A request of a launch's team for some places reaches the L2 or RDC of its die (R376); it misses where it must go on for one
of them. -/
def State.heatReq (s : State) (die lid : Nat) (va : W64) (pls : List Nat) (rdc : Option Nat) : State :=
  if (s.die die).hot.isEmpty then s else s.heat die lid va (pls.any (fun p => s.misses die p rdc))

/-! ## Reads by an agent of a core (R217) -/

/-- The newest held byte of a place in a core's hold-back. -/
def heldByte (l : List HoldEntry) (pl : Nat) : Option Byte :=
  match (l.filter (fun h => h.xst.isEmpty && h.lines.contains (pl / 128) && (kvFind h.bytes (pl % 128)).isSome)).getLast? with
  | some h => kvFind h.bytes (pl % 128)
  | none => none

/-- Bytes of a place, held ones over those below. -/
def overlay (l : List HoldEntry) (pl : Nat) (below : List Byte) : List Byte :=
  below.zipIdx.map (fun e => (heldByte l (pl + e.2)).getD e.1)

/-- Every byte of a range is held. -/
def allHeld (l : List HoldEntry) (pl n : Nat) : Bool :=
  (List.range n).all (fun i => (heldByte l (pl + i)).isSome)

/-- A line of another device is read into the caches of a core (R202). None: the device has no route. -/
def State.fillFar (s : State) (c line : Nat) (pk : PageKind) : State × Option Copy :=
  match s.readFar (coreDie c) (line * 128) 128 with
  | (s1, none) => (s1, none)
  | (s1, some b) =>
    let l1 : Copy := { cache := c, line := line, os := pk.os, data := b }
    ((((s1.insert { l1 with cache := rdcOf c }).insert l1).count c 10), some l1)

/-- Bytes of a copy. -/
def Copy.bytes (k : Copy) (pl n : Nat) : List Byte := bytesAt (fun i => k.data.getD i 0) (pl % 128) n

/-- An agent of a core reads n bytes of a place: the newest held bytes over the L1's, the RDC's or the home's (R202,
R217). None: poison is consumed (R207). -/
def State.readAt (s : State) (c pl n : Nat) (pk : PageKind) : State × Option (List Byte) :=
  let hold := (s.core c).hold
  let merged (b : List Byte) : Option (List Byte) := some (overlay hold pl b)
  if isMmio pl then (s, merged (s.mmioBytes pl n))
  else if isFar pl && !isDevice pl then
    match s.readFar (coreDie c) pl n with
    | (s1, some b) => (s1, merged b)
    | (s1, none) => (s1, none)
  else
    let line := pl / 128
    match s.lookup c line with
    | (s1, some k) => (s1, merged (k.bytes pl n))
    | (s1, none) =>
      match (if isLocal pl && homeDie pl == coreDie c then (s1, none) else s1.lookup (rdcOf c) line) with
      | (s2, some k) => (s2.insert { k with cache := c, dirty := false }, merged (k.bytes pl n))
      | (s2, none) =>
        if isFar pl then
          match s2.fillFar c line pk with
          | (s3, some k) => (s3, merged (k.bytes pl n))
          | (s3, none) => (s3, none)
        else if s2.readsBad pl && !allHeld hold pl n then (s2.correctLine pl, none)
        else (s2.fill c line pk, merged (s2.bytes pl n))

/-- An agent of no core reads n bytes of a place at its home. None: poison is consumed (R207). -/
def State.readHome (s : State) (die pl n : Nat) (pk : PageKind) : State × Option (List Byte) :=
  if isMmio pl then (s, some (s.mmioBytes pl n))
  else if isFar pl then s.readFar die pl n
  else if s.readsBad pl then (s.correctLine pl, none)
  else (s.homeRead die (pl / 128) pk.hint, some (s.bytes pl n))

/-! ## Writes performed at the home (R204, R207, R212, R375, R379) -/

/-- A write of a line lets the WAITMEMs that wait on it read again (R332). -/
def Pewter.wrote (p : Pewter) (line : Nat) : Pewter :=
  { p with lanes := kvMap (fun _ l => match l.wait with
    | .waitmem n t _ => if n = line then { l with wait := .waitmem n t true } else l
    | _ => l) p.lanes }

/-- A write wakes the waiter slots that its home's filter points at: the hashes are on their way, to every core and to the devices that have armed slots (R379). -/
def State.notify (s0 : State) (pl : Nat) : State :=
  if isFar pl then s0
  else
    let s := { s0 with pewters := kvMap (fun _ p => p.wrote (pl / 128)) s0.pewters }
    let d := homeDie pl
    let f := (s.die d).filter
    let (a, b, c) := lineHash (s.die 0).devnum.toNat (pl / 128)
    if f.armed != 0 && f.bits.getLsbD a && f.bits.getLsbD b && f.bits.getLsbD c then
      let own := (s.die 0).devnum.toNat
      f.peers.eraseDups.foldl (fun t p =>
          t.post (ioNear d) p (physLine own (pl / 128)) (filterFlit 4 (a + b * 2 ^ 12 + c * 2 ^ 24) own) none)
        (s.updDie d (fun x => { x with wakes := x.wakes ++ [(a, b, c)] }))
    else s

/-- Bytes of a line written into a cached copy. -/
def Copy.write (k : Copy) (bs : KV Byte) : Copy :=
  { k with data := bs.foldl (fun d e => d.set e.1 e.2) k.data }

/-- What a write of a line leaves of the cached copies: the writer's own are updated; every other on the writer's die and
on the home die is dropped, and on an OS page every other (R204, R373 to R375). The slice of the home keeps the line. -/
def Copy.after (k : Copy) (line : Nat) (bs : KV Byte) (die home : Nat) (own : List Nat) (os : Bool) : Option Copy :=
  if k.line != line || decide (2048 ≤ k.cache) then some k
  else if own.contains k.cache then some (k.write bs)
  else if os || cacheDie k.cache == die || cacheDie k.cache == home then none
  else some k

/-- The lease of a line is recalled for an agent of no core, and its holder answers (R380, R381; assumption 92). -/
def State.recallNow (s : State) (line : Nat) (own : List Nat) : State :=
  match kvFind s.leases line with
  | none => s
  | some (c, _) =>
    if own.contains c then s
    else (({ s with leases := kvDel s.leases line }).updCore c (fun k => { k with leases := kvDel k.leases line })).countSlice
      (homeDie (line * 128)) (sliceOf line) 6 1

/-- The RDC that takes an OS line which its core writes (R204): the line's home is another die, and its data are good. -/
def State.ownerRdc (s : State) (die : Nat) (own : List Nat) (line : Nat) (os : Bool) : Option Nat :=
  let a := line * 128
  if os && homeDie a != die && !s.readsBad a && !s.readsBad (a + 64) && s.populated a then own.find? isRdc else none

/-- A write, of no bytes where a compare fails, of one local line takes the line, for an agent of a die whose own caches are
given. A line of an OS page of another die stays dirty in the writer's RDC (R204); what no RDC takes is written back at once.
The model's memory holds what the owner would supply (assumption 93). -/
def State.takeLine (s0 : State) (die : Nat) (own : List Nat) (line : Nat) (bs : KV Byte) (os : Bool) : State :=
  let home := homeDie (line * 128)
  let s := (s0.recallNow line own).request die line os true
  let s1 := s.putCells (bs.map (fun e => (line * 128 + e.1, e.2)))
  let rdc := s1.ownerRdc die own line os
  let back := rdc.isNone && s1.dirtyLine line
  let mine := if os && home != die && rdc.isNone then [] else own
  let s2 := { s1 with
    poison := s1.poison.filter (fun p => !back || p / 2 != line), errs := s1.errs.filter (fun e => !back || e.1 / 2 != line)
    copies := s1.copies.filterMap (fun (k : Copy) => k.after line bs die home mine os)
    dir := if os then kvSet s1.dir line (DirEntry.write die rdc.isNone) else s1.dir }
  match rdc with
  | some k => s2.insert { cache := k, line := line, os := true, dirty := true, data := s2.bytes (line * 128) 128 }
  | none => s2

/-- A write of bytes of one local line is performed at its home (R204, R379). -/
def State.performLine (s : State) (die : Nat) (own : List Nat) (line : Nat) (bs : KV Byte) (os : Bool) : State :=
  (s.takeLine die own line bs os).notify (line * 128)

/-- Stores to a line of registers reach them one by one, in the turns that come next: aligned doublewords as they are, and
stores of another size as such (R50, R53, R210). -/
def State.postMmio (s : State) (line : Nat) (bs : KV Byte) (size : Nat) : State :=
  match mmioOf (line * 128) with
  | none => s
  | some (d, off) =>
    let n := if size = 0 then 128 else size
    let ts := ((bs.map (fun e => e.1 / n)).eraseDups).map (fun k =>
      Turn.event .eRegisterWrite { a := d, b := off + k * n, val := w64 (leNat (bytesAt (fun i => (kvFind bs i).getD 0) (k * n) 8))
                                   size := if n = 8 then .aligned64 else .other })
    { s with turns := ts ++ s.turns }

/-- The copies of another device's line after a write (R374): as on a WT page homed elsewhere. A sector written whole holds no
poison of the device's any more (R207). -/
def State.writeFar (s : State) (die : Nat) (own : List Nat) (line : Nat) (bs : KV Byte) : State :=
  let part (p : Nat) : Bool := p / 2 != line || (List.range 64).any (fun i => (kvFind bs (p % 2 * 64 + i)).isNone)
  { s with
    poison := s.poison.filter part, copies := s.copies.filterMap (fun (k : Copy) => k.after line bs die 15 own false) }

/-- A write of bytes of a line reaches every copy of the line, or the outside. -/
def State.performAll (s : State) (die : Nat) (own : List Nat) (lines : List Nat) (bs : KV Byte) (os : Bool)
    (unit team : Nat) (rel : Bool) (lid : Option Nat := none) (size : Nat := 0) : State :=
  lines.foldl (fun a l =>
    if isFar (l * 128) then
      (a.writeFar die own l bs).outbound die (l * 128) bs unit team (die * 128 + sliceOf l) rel lid
    else if isMmio (l * 128) then a.postMmio l bs size
    else a.performLine die own l bs os) s

/-! ## Hold-back (R216, R217) -/

/-- One store of a word: its places, its bytes, and the page's mode. -/
structure StoreReq where
  pls : List Nat := []
  bytes : List Byte := []
  os : Bool := false
  va : W64 := 0
deriving DecidableEq, Repr, Inhabited

/-- The stores of a word as hold-back entries, one for each line: a later store of a line goes over an earlier (R216,
R260). -/
def holdEntries (d : HoldEntry) (rs : List StoreReq) : List HoldEntry :=
  rs.foldl (fun l r =>
    let ls := r.pls.map (· / 128)
    let off := r.pls.headD 0 % 128
    match l.findIdx? (fun h => h.lines == ls) with
    | some i => l.modify i (fun h => { h with bytes := kvBytes h.bytes off r.bytes })
    | none => l ++ [{ d with lines := ls, bytes := kvBytes [] off r.bytes, os := r.os, va := r.va, size := r.bytes.length }]) []

/-- A FENCE with CE that stands before the operation holds it back (R228). -/
def State.copyFenced (s : State) (o : CopyOp) : Bool :=
  match o.by_ with
  | .ctx id _ => isTeamCtx id && !o.gone &&
      (List.range (s.team id).groups).any (fun g => (s.grp (groupId id g)).fenceHolds 0 o.serial)
  | _ => false

/-- A place lies in a line that an operation of a die's engine has still to write, as its pages are mapped now. -/
def State.opOwns (s : State) (die : Nat) (o : CopyOp) (pl : Nat) : Bool :=
  let a := (o.dst.toNat + o.done) / 128 * 128
  let b := o.dst.toNat + o.len
  (List.range ((b + 65535) / 65536 - a / 65536)).any (fun k =>
    let base := (a / 65536 + k) * 65536
    match s.translateWalk die o.asid o.supper (w64 base) .store with
    | .ok e z =>
      let all := placesOf (s.die 0).devnum.toNat e z (w64 base)
      (if o.loc then [nearest die all] else all).any (fun p =>
        decide (p ≤ pl) && decide (pl < p + 65536) && decide (a ≤ base + (pl - p)) && decide (base + (pl - p) < (b + 127) / 128 * 128))
    | _ => false)

/-- A copy engine owns the line of one of some places, from the issue of its operation until it has written the line; an
operation that a FENCE keeps back has not begun (R204, R228). -/
def State.engineOwns (s : State) (pls : List Nat) : Bool :=
  s.engines.any (fun e => e.2.any (fun o =>
    !o.dstSp && o.kind != .shape && !o.dead && !o.lost && !o.badFlags && !o.overlap && !s.copyFenced o &&
      pls.any (s.opOwns (e.1 / 8) o)))

/-- Another core's lease keeps a store or atomic of a core from a line (R380). -/
def State.leaseBlocks (s : State) (c line : Nat) : Bool :=
  match kvFind s.leases line with
  | some (h, _) => h != c
  | none => false

/-- The home recalls the leases that keep a core from some lines (R380). -/
def State.recall (s : State) (c : Nat) (lines : List Nat) : State :=
  { s with leases := kvMap (fun l x => if lines.contains l && x.1 != c then (x.1, x.2.1, true) else x) s.leases }

/-- Free entries of a core's hold-back, of 128. -/
def State.holdRoom (s : State) (c : Nat) : Nat := 128 - (s.core c).hold.length

/-- Entries enter a core's hold-back, each with its serial number (R216). -/
def State.holdPush (s : State) (c : Nat) (es : List HoldEntry) : State :=
  es.foldl (fun a e => a.updCore c (fun k =>
    let l := k.hold ++ [{ e with serial := k.hbSerial, issued := s.clk }]
    { k with hold := l, hbSerial := k.hbSerial + 1, hbHigh := max k.hbHigh l.length })) s

/-- The oldest entry may leave: it has stayed 96 core clocks and its path accepts it, which a full egress buffer, a copy
engine's line and another core's lease keep from doing so (R204, R217, R218, R380). An XST arrives at the end of a core clock
(R266). -/
def State.mayLeave (s : State) (c : Nat) : Bool :=
  match (s.core c).hold with
  | [] => false
  | h :: _ => decide (h.issued + 192 ≤ s.clk) && s.egressRoom (coreDie c) (h.lines.map (· * 128)) &&
    (h.xst.isEmpty || s.clk % 2 == 1) && !(h.xst.isEmpty && s.engineOwns (h.lines.map (· * 128))) &&
    h.lines.all (fun l => !s.leaseBlocks c l)

/-- Whole words land in the exchange bank of a peer that is the shadow now, unless the team has retired (R200, R267,
R456). -/
def State.landXst (s : State) (gang tid base : Nat) (bs : KV Byte) : State :=
  if (s.team tid).gang = some gang then
    s.updTeam tid (fun t =>
      let at_ (e : Nat × Byte) : Nat := t.share - t.xwin + base + e.1
      bs.foldl (fun x e => (x.spWrite (at_ e) [e.2]).setPoison (at_ e) false) { t with xstAt := some s.clk })
  else s

/-- The oldest entry of a core's hold-back leaves, and its store is performed (R204, R217). -/
def State.leave (s : State) (c : Nat) : State :=
  match (s.core c).hold with
  | [] => s
  | h :: t =>
    let own := if s.copies.any (fun k => k.cache == rdcOf c && k.line == h.lines.headD 0 && k.dirty) then some (rdcOf c) else none
    let s1 := s.updCore c (fun k => { k with hold := t })
    if h.xst.isEmpty then
      let s2 := (s1.heatReq (coreDie c) h.lid h.va (h.lines.map (· * 128)) own).performAll (coreDie c) [c, rdcOf c] h.lines h.bytes h.os c h.team (h.order == 2 && h.scope == 4)
        (some h.lid) h.size
      if (h.order == 2) && decide (h.scope.toNat < 3) then
        { s2 with lastRel := h.lines.foldl (fun l x => kvSet l x (c, h.serial)) s2.lastRel }
      else s2
    else h.xst.foldl (fun a x => (a.between (coreDie c) (coreDie (teamCore x.1))).landXst h.gang x.1 x.2 h.bytes) s1

/-- Every store of a core's hold-back with a serial number below a bound has left. -/
def State.holdPast (s : State) (c upTo : Nat) : Bool := (s.core c).hold.all (fun h => decide (upTo ≤ h.serial))

/-- Every write of a unit, which for a team's agents is their core, has left egress quarantine (R219, R237). -/
def State.egressPast (s : State) (unit : Nat) : Bool :=
  [0, 1].all (fun i => (s.iod i).outgoing.all (fun e => e.left || e.unit != unit))

/-- Release completion for an agent of a core (R219, R236): nothing at CORE; at DIE and wider every earlier store of the
core has left; at SYS every earlier write of the core has left quarantine too (R237). -/
def State.relDone (s : State) (c scope upTo : Nat) : Bool :=
  decide (scope < 2) || (s.holdPast c upTo && (decide (scope < 4) || s.egressPast c))

/-- A scope that an agent of a core gives holds an agent of another (R222). -/
def inScope (c scope x : Nat) : Bool :=
  match scope with
  | 0 | 1 => c == x
  | 2 => coreDie c == coreDie x
  | _ => true

/-- A promoted acquire of lines may complete (R230): the stores that stood before the last release narrower than DEV that
wrote one of them, by a core that the acquire's scope holds, have left that core's hold-back. -/
def State.promotedBy (s : State) (holds : Nat → Bool) (promote : Bool) (pls : List Nat) : Bool :=
  !promote || pls.all (fun p => match kvFind s.lastRel (p / 128) with
    | some (x, n) => !holds x || s.holdPast x n
    | none => true)

/-- A promoted acquire of lines by an agent of a core may complete (R230). -/
def State.promoted (s : State) (c scope : Nat) (promote : Bool) (pls : List Nat) : Bool :=
  s.promotedBy (inScope c scope) promote pls

/-- An atomic with release order narrower than DEV has written some lines (R230). -/
def State.noteRel (s : State) (c scope : Nat) (rel : Bool) (pls : List Nat) : State :=
  if rel && decide (scope < 3) then
    { s with lastRel := pls.foldl (fun l p => kvSet l (p / 128) (c, (s.core c).hbSerial)) s.lastRel }
  else s

/-! ## Atomics (R256 to R258, R380, R381) -/

/-- The new value of an atomic, or none where a CAS does not write (R256). -/
def amoNew (op w old v cmp : Nat) : Option Nat :=
  let sg (x : Nat) : Int := if x < 2 ^ (w - 1) then (x : Int) else (x : Int) - 2 ^ w
  match op with
  | 0 => some ((old + v) % 2 ^ w)
  | 1 => some (old &&& v)
  | 2 => some (old ||| v)
  | 3 => some (old ^^^ v)
  | 4 => some (if sg v < sg old then v else old)
  | 5 => some (if sg old < sg v then v else old)
  | 6 => some (min old v)
  | 7 => some (max old v)
  | 8 => some v
  | _ => if old = cmp then some v else none

/-- Index of a line in the contention predictor (R258). -/
def predIdx (pl : Nat) : Nat := (pl / 2 ^ 7 % 256) ^^^ (pl / 2 ^ 15 % 256)

/-- The core's predictor sends an atomic to the home (R258): always for a replicated page, one homed on another device, and a
line that a copy engine owned when the atomic came. -/
def State.atHome (s : State) (c : Nat) (pls : List Nat) (owned : Bool) : Bool :=
  decide (1 < pls.length) || isFar (pls.headD 0) || owned ||
    decide (2 ≤ (spGet (s.core c).predictor (predIdx (pls.headD 0))).toNat)

/-- An atomic is attempted in the core: as its predictor says, or, for one that has waited for a lease, as was said when it came
(R258). -/
def State.tryHere (s : State) (c : Nat) (pls : List Nat) (owned : Bool) (asked : Option (List Nat)) : Bool :=
  match asked with
  | some l => l.contains (pls.headD 0 / 128)
  | none => !s.atHome c pls owned

/-- An agent's atomic waits for the recall of a lease of a line (R380). -/
def State.leaseWaits (s : State) (c line : Nat) : Bool :=
  s.ctxs.any (fun e => isTeamCtx e.1 && teamCore e.1 != c &&
    (match e.2.wait with | .lease _ l => l.contains line | _ => false)) ||
  s.groups.any (fun e => e.1 / 64 != c && (match e.2.wait with | .lease _ l => l.contains line | _ => false))

/-- Another core's request for a line waits at its home: an atomic that a lease has kept back, or a store that is old enough to
have left its core (R217, R258, R380). -/
def State.requestWaits (s : State) (c line : Nat) : Bool :=
  s.leaseWaits c line ||
  s.cores.any (fun e => e.1 != c && (match e.2.hold with
    | h :: _ => h.xst.isEmpty && decide (h.issued + 192 ≤ s.clk) && h.lines.contains line
    | [] => false))

/-- An atomic that another core's lease keeps back: the lease is recalled, and a local attempt raises the predictor's counter
with the recall (R258, R380). -/
def State.recallFor (s : State) (c : Nat) (pls : List Nat) (here : Bool) : State :=
  let pl := pls.headD 0
  let asked := pls.all (fun p => match kvFind s.leases (p / 128) with | some (h, _, r) => h == c || r | none => true)
  let s1 := s.recall c (pls.map (· / 128))
  if asked || !here then s1
  else s1.updCore c (fun k => { k with predictor := spSet k.predictor (predIdx pl) (satInc (spGet k.predictor (predIdx pl))) })

/-- The core uses the lease of a line: the home grants it as long as it stands there, and the core's own clock has not passed
its expiry (R380 to R382). -/
def State.leased (s : State) (c line : Nat) : Bool :=
  (match kvFind s.leases line with | some (h, _) => h == c | none => false) &&
    (match kvFind (s.core c).leases line with | some t => decide (s.now < t) | none => false)

/-- What an atomic does to the predictor, the leases and the counters; where it is performed changes no result (R258,
R380). The home grants a lease where none stands and no other request for the line waits; a home-performed atomic lowers the
counter unless one waits. -/
def State.placeAtomic (s : State) (c : Nat) (pls : List Nat) (here : Bool) : State :=
  let pl := pls.headD 0
  let line := pl / 128
  let k := s.core c
  let stands := (kvFind s.leases line).isSome
  let waiting := s.requestWaits c line || (match kvFind s.leases line with | some (_, _, r) => r | none => false)
  if !here || (if stands then !s.leased c line else waiting) then
    let p := spGet k.predictor (predIdx pl)
    let q := if p != 0 && !waiting then spSet k.predictor (predIdx pl) (p - 1) else k.predictor
    ((s.setCore c { k with predictor := q }).count c 12).countSlice (homeDie pl) (sliceOf line) 4 1
  else if stands then s.count c 11
  else
    let s1 := s.setCore c { k with leases := kvSet k.leases line (s.now + 2000) }
    let s2 := { s1 with leases := kvSet s.leases line (c, s.now + 2000, false) }
    (s2.countSlice (homeDie pl) (sliceOf line) 5 1).count c 11

/-- An agent that has read places at their homes keeps no older value of their lines in its caches (R233). -/
def State.dropStale (s : State) (own pls : List Nat) : State :=
  { s with copies := s.copies.filter (fun k => k.os || !pls.any (fun p => k.line == p / 128) || !own.contains k.cache) }

/-- An atomic of n bytes at its home, for an agent of a die with the caches given: its old value, or none for poison (R207,
R256). The home stands first among the places, and its new value reaches every copy (R212). A compare that fails takes the line
of an OS page as a write does (R375), and leaves the reader's caches without an older value of a WT line (R233). -/
def State.atomicHome (s : State) (die : Nat) (own : List Nat) (pls : List Nat) (n op v cmp : Nat) (os : Bool)
    (unit team : Nat) : State × Option Nat :=
  let pl := pls.headD 0
  let r := if isFar pl then s.readFar die pl n
    else if isMmio pl then (s, some (s.mmioBytes pl n))
    else (s.correctLine pl, if s.readsBad pl then none else some (s.bytes pl n))
  match r with
  | (s2, none) => (s2, none)
  | (s2, some b) =>
    let old := leNat b
    match amoNew op (8 * n) old v cmp with
    | none => (if os && isLocal pl && !isMmio pl then s2.takeLine die own (pl / 128) [] true else s2.dropStale own [pl], some old)
    | some x =>
      (s2.performAll die own (pls.map (· / 128)) (kvBytes [] (pl % 128) (natLe n x)) os unit team false none n, some old)

/-- An atomic of an agent of a core: its old value, or none for poison. -/
def State.atomic (s0 : State) (c tid : Nat) (va : W64) (pls : List Nat) (n op v cmp : Nat) (os here : Bool) :
    State × Option Nat :=
  let pl := pls.headD 0
  let s := if s0.leased c (pl / 128) then s0 else s0.heatReq (coreDie c) (s0.team tid).lid va pls none
  (s.placeAtomic c pls here).atomicHome (coreDie c) [c, rdcOf c] pls n op v cmp os c tid

/-- An atomic of an agent of no core, performed at the home; a lease of the line is recalled first (R258, R380). -/
def State.atomicDie (s : State) (die : Nat) (pls : List Nat) (n op v cmp : Nat) (os : Bool) (unit : Nat) :
    State × Option Nat :=
  (s.recallNow (pls.headD 0 / 128) []).atomicHome die [] pls n op v cmp os unit 8191

/-! ## Sums over copies (R213) -/

/-- One level of the tree, an odd last value passing up. -/
def treeLevel {α : Type} (node : α → α → α) (l : List α) : List α :=
  match l with
  | a :: b :: t => node a b :: treeLevel node t
  | l => l

/-- TreeSum with fuel for its levels (R213). -/
def treeSum {α : Type} (node : α → α → α) (fuel : Nat) (l : List α) (d : α) : α :=
  match fuel with
  | 0 => l.headD d
  | k + 1 => match l with
    | [] => d
    | [x] => x
    | l => treeSum node k (treeLevel node l) d

end Sys2Proof.Machine
end

