-- ==== Sys2Proof/Machine/GenMem.lean ====
section
/-! DEFINITION. Machine/GenMem.lean: the generator's memory, scratchpad, fence, monitor and copy words, majors 0x13 to 0x17
(R248 to R257, R269 to R278). -/

namespace Sys2Proof.Machine

/-- Access code of a trap record (R165): size, order, store, fetch, scratchpad. -/
def accCode (z ord : Nat) (store fetch sp : Bool) : W64 :=
  w64 (z + ord * 4 + bitN store * 16 + bitN fetch * 32 + bitN sp * 64)

/-! ## Parking (R176) -/

/-- A PARK record of an agent for a page, unless one of the team stands unanswered. -/
def State.askPage (s : State) (tid : Nat) (a : Agent) (va : W64) (base size : Nat) : State :=
  if (s.team tid).asked.contains (base, size) then s
  else
    let r := s.teamRec tid 2 0 { t3 := va, t4 := 0 } (.agent tid a)
    (s.updTeam tid (fun t => { t with asked := t.asked ++ [(base, size)] })).send { r with page := base, pageSize := size }

/-- An agent's park on a page: the tally, and a PARK record for a page that is not resident. -/
def State.parkRecord (s : State) (tid : Nat) (a : Agent) (va : W64) (pi : Bool) (base size : Nat) : State :=
  let s1 := ((s.updCore (teamCore tid) (fun k => { k with parks := satInc k.parks })).count (teamCore tid) 8).tally 155
  if pi then s1 else s1.askPage tid a va base size

/-- A generator context parks on an access (R176). -/
def State.parkG (s : State) (id : Nat) (w : W32) (va code : W64) (pi : Bool) (base size : Nat) : State :=
  let s1 := s.updCtx id (fun c => { c.setPark true with
    wait := .parked, parkVa := va, parkCode := code, parkPi := pi, parkSeq := s.clk / 2, parkSince := s.now, parkWord := w })
  if isTeamCtx id then s1.parkRecord id .gen va pi base size
  else if pi then s1
  else
    let d := ctxDie id
    s1.send { kind := 2, head := recHead 2 0 d 0 0, body := { t3 := va }, die := d, permit := .dist d
              src := if isSup id then .sup id else .prologue d, page := base, pageSize := size }

/-! ## One access of a generator context (R248) -/

/-- An access that may go on, or the state in which the word has faulted or parked. -/
inductive GAcc where
  | stop (s : State)
  | ok (s : State) (pls : List Nat) (home : Nat) (pk : PageKind)

/-- Checks 3 to 5 of R248 for a global access of 2^z bytes. What reads waits for a copy engine that owns the line,
and for the host's translation (R204, R408). -/
def State.gAccess (s : State) (id : Nat) (w : W32) (va : W64) (z : Nat) (code : W64) (n : Need) : GAcc :=
  if va.toNat % 2 ^ z != 0 then .stop (s.raiseG id { code := 0xA, t3 := va, t4 := code } w)
  else
    match s.translateCtx id va n with
    | (s1, .ok e sz) =>
      let dev := (s1.die 0).devnum.toNat
      if n.r && s1.engineOwns (placesOf dev e sz va) then .stop (gStall s1 id .owned)
      else if n.r && s1.hostWaits (placesOf dev e sz va) then .stop (gStall (s1.askHost (placesOf dev e sz va)) id .room)
      else .ok s1 (placesOf dev e sz va) (homePlace dev e sz va) (pteKind e)
    | (s1, .perm e) | (s1, .gone e) => .stop (s1.raiseG id { code := 0xB, t3 := va, t4 := code, t5 := e } w)
    | (s1, .poison) => .stop (s1.raiseG id { code := 0xD, t3 := va, t4 := code } w)
    | (s1, .park pi b sz) => .stop (s1.parkG id w va code pi b sz)

/-- The read of a context: an agent of a core reads through its hold-back and caches, another at the home. -/
def State.ctxRead (s : State) (id pl n : Nat) (pk : PageKind) : State × Option (List Byte) :=
  if isTeamCtx id then s.readAt (teamCore id) pl n pk else s.readHome (ctxDie id) pl n pk

/-- Counts a request of a launch's team that its core's L1 does not hold (R376). -/
def State.touch (s : State) (c lid pl : Nat) (va : W64) : State :=
  if (s.die (coreDie c)).hot.isEmpty || s.holds c (pl / 128) then s
  else s.heatReq (coreDie c) lid va [pl] (some (rdcOf c))

/-- The copy of a page that a context reads. -/
def readPlace (die : Nat) (pls : List Nat) : Nat :=
  match pls with
  | [p] => p
  | l => nearest die l

/-- An acquire by a context (R204). -/
def State.acquireG (s : State) (id scope : Nat) : State :=
  if isTeamCtx id then s.acquire (teamCore id) scope else s

/-- A load of 2^z bytes by a context with its acquire; none: poison. -/
def State.loadG (s : State) (id : Nat) (va : W64) (pls : List Nat) (z : Nat) (pk : PageKind) (acq : Bool) :
    State × Option (List Byte) :=
  let c := s.ctx id
  let s1 := if acq then s.acquireG id c.scope else s
  let pl := readPlace (ctxDie id) pls
  let s2 := if isTeamCtx id then s1.touch (teamCore id) (s.team id).lid pl va else s1
  s2.ctxRead id pl (2 ^ z) pk

/-- A context's scope holds the agents of a core (R222). -/
def State.scopeHolds (s : State) (id x : Nat) : Bool :=
  if isTeamCtx id then inScope (teamCore id) (s.ctx id).scope x else decide (2 < (s.ctx id).scope) || ctxDie id == coreDie x

/-- A promoted acquire of a context waits (R36, R230). -/
def State.promoteWaits (s : State) (id : Nat) (acq : Bool) (pls : List Nat) : Bool :=
  acq && !s.promotedBy (s.scopeHolds id) (s.ctx id).promote pls

/-- Order of a load, raised by GMODE.orderfloor (R36). -/
def Ctx.loadAcq (c : Ctx) (r : BitVec 2) : Bool := r.getLsbD 0 || c.gmode.getLsbD 10
/-- Order of a store, raised by GMODE.orderfloor (R36). -/
def Ctx.storeRel (c : Ctx) (r : BitVec 2) : Bool := r.getLsbD 1 || c.gmode.getLsbD 11
/-- Order of an atomic: the stronger of floor and encoding (R36). -/
def Ctx.amoOrd (c : Ctx) (r : BitVec 2) : BitVec 2 := r ||| c.gmode.extractLsb' 10 2
/-- Address of a GM word (R55). -/
def gmAddr (c : Ctx) (a : BitVec 6) (z : BitVec 2) (o : BitVec 10) : W64 :=
  c.get a + (o.signExtend 64) <<< z.toNat

/-- LD (R252). -/
def execGLd (d a : BitVec 6) (r z : BitVec 2) (o : BitVec 10) (s : State) : Out :=
  gWord [d, a] s (fun id w c =>
    let va := gmAddr c a z o
    let code := accCode z.toNat (bitN (c.loadAcq r)) false false false
    match s.gAccess id w va z.toNat code .load with
    | .stop s1 => s1
    | .ok s1 pls _ pk =>
      if s1.promoteWaits id (c.loadAcq r) pls then gStall s1 id .room
      else
        match s1.loadG id va pls z.toNat pk (c.loadAcq r) with
        | (s2, none) => s2.raiseG id { code := 0xD, t3 := va, t4 := code } w
        | (s2, some b) => s2.setCtx id ((c.put d (w64 (leNat b))).done))

/-- A hold-back entry of a context's stores (R216): the store belongs to the region that the generator is in. -/
def State.holdG (s : State) (id : Nat) (rel : Bool) : HoldEntry :=
  let c := s.ctx id
  let t := s.team id
  { order := if rel then 2 else 0, scope := BitVec.ofNat 3 c.scope, colour := c.colour, team := id, lid := t.lid
    agent := .gen, region := t.regIssued, asid := t.asid.toNat }

/-- Release completion for a context (R219, R236, R237): an agent of no core has performed its stores already, and at SYS waits
for those that stand in quarantine. -/
def State.relDoneG (s : State) (id scope upTo : Nat) : Bool :=
  if isTeamCtx id then s.relDone (teamCore id) scope upTo else decide (scope < 4) || s.egressPast (2048 + id)

/-- A release store has executed, and the context's next word waits for its completion (R111, R236). -/
def Ctx.drains (c : Ctx) (rel : Bool) (upTo : Nat) : Ctx := if rel then { c with wait := .drain c.scope upTo } else c

/-- ST, through hold-back; a release is followed by nothing of its context until release completion holds for the core's
stores, its own among them (R111, R236, R434); a context of no core performs its store at once (R252; assumption 15). -/
def execGSt (d a : BitVec 6) (r z : BitVec 2) (o : BitVec 10) (s : State) : Out :=
  gWord [d, a] s (fun id w c =>
    let va := gmAddr c a z o
    let code := accCode z.toNat (2 * bitN (c.storeRel r)) true false false
    match s.gAccess id w va z.toNat code .store with
    | .stop s1 => s1
    | .ok s1 pls _ pk =>
      let bs := natLe (2 ^ z.toNat) (c.get d).toNat
      if isTeamCtx id then
        let k := teamCore id
        if s1.holdRoom k < 1 then gStall (if c.wait = .room then s1 else s1.count k 7) id .room
        else
          let es := holdEntries (s1.holdG id (c.storeRel r)) [{ pls := pls, bytes := bs, os := pk.os, va := va }]
          (s1.holdPush k es).setCtx id (c.done.drains (c.storeRel r) ((s1.core k).hbSerial + 1))
      else if !s1.egressRoom (ctxDie id) pls then gStall s1 id .room
      else
        (s1.performAll (ctxDie id) [] (pls.map (· / 128)) (kvBytes [] (va.toNat % 128) bs) pk.os (2048 + id) 8191
          (c.storeRel r && c.scope == 4) none bs.length).setCtx id (c.done.drains (c.storeRel r) 0))

/-- Stores that an atomic still waits for (R186, R233, R236): those of its team, the older ones of its core to its lines, which
loads of the core have seen, and for a release at DIE or wider every older one of the core. -/
def State.irrevocableWait (s : State) (k tid : Nat) (rel : Bool) (scope upTo : Nat) (pls : List Nat) : Bool :=
  (s.core k).hold.any (fun h => h.team == tid || (decide (h.serial < upTo) && pls.any (fun p => h.lines.contains (p / 128)))) ||
    (rel && !s.relDone k scope upTo)

/-- Lines of which an atomic that has waited for a lease is attempted here (R258). -/
def Wait.leaseHere (w : Wait) : Option (List Nat) := match w with | .lease l _ => some l | _ => none

/-- AMO: it waits until hold-back holds no store of its team, and until no other core's lease keeps it from the line, acts at the
location's home, and seals the region (R186, R256, R257). -/
def execGAmo (d a b : BitVec 6) (p : BitVec 4) (o : BitVec 2) (z : BitVec 1) (s : State) : Out :=
  gWord [d, a, b] s (fun id w c =>
    let zz := 2 + z.toNat
    let va := c.get a
    let code := accCode zz (c.amoOrd o).toNat true false false
    let ord := c.amoOrd o
    let k := teamCore id
    let upTo := match c.wait with | .irrevocable u => u | _ => (s.core k).hbSerial
    match s.gAccess id w va zz code .amo with
    | .stop s1 => s1
    | .ok s1 pls home pk =>
      let pls' := home :: pls.filter (fun x => x != home)
      let here := s1.tryHere k pls' (c.wait == .owned) c.wait.leaseHere
      if isTeamCtx id && s1.irrevocableWait k id (ord.getLsbD 1) c.scope upTo pls' then gStall s1 id (.irrevocable upTo)
      else if isTeamCtx id && pls'.any (fun p => s1.leaseBlocks k (p / 128)) then
        gStall (s1.recallFor k pls' here) id (.lease (if here then [home / 128] else []) (pls'.map (· / 128)))
      else if !s1.egressRoom (ctxDie id) pls' || s1.promoteWaits id (ord.getLsbD 0) pls' then gStall s1 id .room
      else if !isTeamCtx id && !s1.relDoneG id (if ord.getLsbD 1 then c.scope else 0) 0 then gStall s1 id (.irrevocable upTo)
      else
        let m := 2 ^ (8 * 2 ^ zz)
        let v := (c.get b).toNat % m
        let cmp := (c.get d).toNat % m
        match (if isTeamCtx id then s1.atomic k id va pls' (2 ^ zz) p.toNat v cmp pk.os here
               else s1.atomicDie (ctxDie id) pls' (2 ^ zz) p.toNat v cmp pk.os (2048 + id)) with
        | (s2, none) => s2.raiseG id { code := 0xD, t3 := va, t4 := code } w
        | (s2, some old) =>
          let s3 := if ord.getLsbD 0 then s2.acquireG id c.scope else s2
          let s4 := if isTeamCtx id then (s3.noteRel k c.scope (ord.getLsbD 1) pls').seal id else s3
          s4.setCtx id ((c.put d (w64 old)).done))

/-- LDP, the probing load: a page that is absent or pending-invalid clears c[n] and reads nothing (R254). -/
def execGLdp (d a : BitVec 6) (n : BitVec 3) (r : BitVec 2) (s : State) : Out :=
  gWord [d, a] s (fun id w c =>
    let va := c.get a
    let code := accCode 3 (bitN (c.loadAcq r)) false false false
    if va.toNat % 8 != 0 then s.raiseG id { code := 0xA, t3 := va, t4 := code } w
    else
      match s.translateCtx id va .load with
      | (s1, .park _ _ _) => s1.setCtx id ((c.setCond n false).done)
      | (s1, .perm e) | (s1, .gone e) => s1.raiseG id { code := 0xB, t3 := va, t4 := code, t5 := e } w
      | (s1, .poison) => s1.raiseG id { code := 0xD, t3 := va, t4 := code } w
      | (s1, .ok e sz) =>
        let pls := placesOf (s1.die 0).devnum.toNat e sz va
        if s1.engineOwns pls then gStall s1 id .owned
        else if s1.promoteWaits id (c.loadAcq r) pls then gStall s1 id .room
        else if s1.hostWaits pls then gStall (s1.askHost pls) id .room
        else
          match s1.loadG id va pls 3 (pteKind e) (c.loadAcq r) with
          | (s2, none) => s2.raiseG id { code := 0xD, t3 := va, t4 := code } w
          | (s2, some b) => s2.setCtx id (((c.put d (w64 (leNat b))).setCond n true).done))

/-- The words of an address in every copy of its page, for LDSUM and GATHER; none: poison in one (R213). They are read at the
copies' homes, and the reader's caches keep no older values of them (R233). -/
def State.readCopies (s : State) (die : Nat) (own : List HoldEntry) (caches : List Nat) (pls : List Nat) (pk : PageKind)
    (lid : Nat) (va : W64) : State × Option (List Nat) :=
  let r := pls.foldl (fun a p =>
    match a with
    | (s1, none) => (s1, none)
    | (s1, some l) =>
      if allHeld own p 4 then (s1, some (l ++ [leNat (overlay own p [0, 0, 0, 0])]))
      else
        match (s1.heatReq die lid va [p] none).readHome die p 4 pk with
        | (s2, some b) => (s2, some (l ++ [leNat (overlay own p b)]))
        | (s2, none) => (s2, none)) (s, some [])
  (r.1.dropStale caches pls, r.2)

/-- TreeSum of words (R213): wrapping for I32, FP32 addition to nearest for FP32, without a flag. -/
def sumCopies (fp : Bool) (l : List Nat) : Nat :=
  treeSum (fun x y => if fp then fadd32 x y else (x + y) % 2 ^ 32) 8 l 0

/-- The words that LDSUM adds up: without replicas the one that LD reads (R255). -/
def State.copiesG (s : State) (id : Nat) (pls : List Nat) (pk : PageKind) (va : W64) : State × Option (List Nat) :=
  match pls with
  | [_] =>
    match s.loadG id va pls 2 pk false with
    | (s1, some b) => (s1, some [leNat b])
    | (s1, none) => (s1, none)
  | _ =>
    let c := teamCore id
    let (own, caches) := if isTeamCtx id then ((s.core c).hold, [c, rdcOf c]) else ([], [])
    s.readCopies (ctxDie id) own caches pls pk (s.team id).lid va

/-- LDSUM (R213, R255). -/
def execGLdsum (d a t : BitVec 6) (r : BitVec 2) (s : State) : Out :=
  gWord [d, a] s (fun id w c =>
    let va := c.get a
    let code := accCode 2 (bitN (c.loadAcq r)) false false false
    match s.gAccess id w va 2 code .load with
    | .stop s1 => s1
    | .ok s1 pls _ pk =>
      let s2 := if c.loadAcq r then s1.acquireG id c.scope else s1
      if s1.promoteWaits id (c.loadAcq r) pls then gStall s1 id .room
      else
        match s2.copiesG id pls pk va with
        | (s3, none) => s3.raiseG id { code := 0xD, t3 := va, t4 := code } w
        | (s3, some l) =>
          let x : W32 := BitVec.ofNat 32 (sumCopies (t == 1) l)
          s3.setCtx id ((c.put d (if t = 1 then x.zeroExtend 64 else x.signExtend 64)).done))

/-! ## Scratchpad words (R198, R252, R253, R456) -/

/-- Share of a context's team; a context without a team has none. -/
def State.shareOf (s : State) (id : Nat) : Nat := if isTeamCtx id then (s.team id).share else 0

/-- Checks 2 and 3 of R248 for a scratchpad offset. -/
def gScratch (s : State) (id : Nat) (w : W32) (off : W64) (z : Nat) (code : W64) (k : State) : State :=
  if s.shareOf id ≤ off.toNat then s.raiseG id { code := 0xF, t3 := off, t4 := code, t5 := w64 (s.shareOf id) } w
  else if off.toNat % 2 ^ z != 0 then s.raiseG id { code := 0xA, t3 := off, t4 := code } w
  else k

/-- A poisoned word among n bytes of a share (R456). -/
def Team.rangePoisoned (t : Team) (off n : Nat) : Bool :=
  t.spPoisoned off || (decide (4 < n) && t.spPoisoned (off + 4))

/-- LDS (R252). -/
def execGLds (d a : BitVec 6) (r z : BitVec 2) (o : BitVec 10) (s : State) : Out :=
  gWord [d, a] s (fun id w c =>
    let off := gmAddr c a z o
    let code := accCode z.toNat (bitN (c.loadAcq r)) false false true
    let t := s.team id
    gScratch s id w off z.toNat code
      (if t.rangePoisoned off.toNat (2 ^ z.toNat) then s.raiseG id { code := 0xD, t3 := off, t4 := code } w
       else s.setCtx id ((c.put d (w64 (t.spRead off.toNat (2 ^ z.toNat)))).done)))

/-- LDF: waits until the tag is full, reads the word, and in TAKE mode leaves it empty (R253). -/
def execGLdf (d a : BitVec 6) (m : BitVec 2) (s : State) : Out :=
  gWord [d, a] s (fun id w c =>
    let off := c.get a
    let code := accCode 2 0 false false true
    let t := s.team id
    gScratch s id w off 2 code
      (if !t.spFull off.toNat then gStall s id (.tag off.toNat true)
       else if t.spPoisoned off.toNat then s.raiseG id { code := 0xD, t3 := off, t4 := code } w
       else
        let s1 := if m = 0 then s.setTeam id (t.setTag off.toNat false) else s
        s1.setCtx id ((c.put d (w64 (t.spRead off.toNat 4))).done)))

/-- STE: WAIT waits for an empty tag and sets it, SET sets it, PLAIN leaves it (R253). -/
def execGSte (d a : BitVec 6) (m : BitVec 2) (s : State) : Out :=
  gWord [d, a] s (fun id w c =>
    let off := c.get a
    let code := accCode 2 0 true false true
    let t := s.team id
    gScratch s id w off 2 code
      (if m = 0 && t.spFull off.toNat then gStall s id (.tag off.toNat false)
       else
        let t1 := t.spWrite off.toNat (natLe 4 (c.get d).toNat)
        (s.setTeam id (if m = 2 then t1 else t1.setTag off.toNat true)).setCtx id (c.done)))

/-! ## FENCE and monitors (R228, R269, R270) -/

/-- Copy operations of a context that have not ended. -/
def State.copiesOf (s : State) (id : Nat) : Bool :=
  s.engines.any (fun e => e.2.any (fun o => match o.by_ with | .ctx i _ => i == id && !o.gone | _ => false))

/-- Stores that a release FENCE of an agent waits for have left (R225, R236, R269): its core's older ones, its own only of the
mask's colours. -/
def State.fenceStores (s : State) (c tid : Nat) (a : Agent) (scope mask upTo : Nat) : Bool :=
  let inMask (h : HoldEntry) : Bool := !(h.team == tid && h.agent == a) || mask == 0 || mask.testBit h.colour.toNat
  decide (scope < 2) || ((s.core c).hold.all (fun h => decide (upTo ≤ h.serial) || !inMask h) && (decide (scope < 4) || s.egressPast c))

/-- Stores that a FENCE of some order with CE waits for besides: every older one of its core, which an earlier access of its
agent may have read, has left, so that a later copy, which reads at the homes, comes after them (R225, R228). -/
def State.fenceSeen (s : State) (c : Nat) (ord : BitVec 2) (eng upTo : Nat) : Bool :=
  !eng.testBit 0 || ord == 0 || s.holdPast c upTo

/-- The earlier stores of an agent to MMIO windows have reached them, for a FENCE with IO (R228). -/
def State.fenceIo (s : State) (c tid : Nat) (a : Agent) (eng upTo : Nat) : Bool :=
  !eng.testBit 2 || (s.core c).hold.all (fun h =>
    decide (upTo ≤ h.serial) || !(h.team == tid && h.agent == a && h.lines.any (fun l => isMmio (l * 128))))

/-- A G FENCE may complete (R269): for a release its core's older stores have left; with CE and MX its copies and M-words
have completed, and with IO its stores to registers. -/
def State.fenceG (s : State) (id : Nat) (ord : BitVec 2) (mask eng upTo : Nat) : Bool :=
  let c := s.ctx id
  let stores := !ord.getLsbD 1 || (if isTeamCtx id then s.fenceStores (teamCore id) id .gen c.scope mask upTo
    else s.relDoneG id c.scope 0)
  stores && (!isTeamCtx id || s.fenceSeen (teamCore id) ord eng upTo) && (!isTeamCtx id || s.fenceIo (teamCore id) id .gen eng upTo) && (!eng.testBit 0 || !s.copiesOf id) &&
    (!eng.testBit 1 || !isTeamCtx id || (s.team id).mLive.all (fun e => e.kind != .word))

/-- FENCE (R269). -/
def execGFence (e : BitVec 3) (a : BitVec 6) (r : BitVec 2) (s : State) : Out :=
  gWord [a] s (fun id _ c =>
    let upTo := match c.wait with | .fence u => u | _ => (s.core (teamCore id)).hbSerial
    if s.fenceG id r (fieldOf (c.get a) 0 8) e.toNat upTo then
      (if r.getLsbD 0 then s.acquireG id c.scope else s).setCtx id (c.done)
    else gStall s id (.fence upTo))

/-- A context's waiter slot is armed on a line; the one it holds is freed first. -/
def State.armG (s : State) (id line : Nat) : State :=
  let old := (s.ctx id).monitor
  if old.isNone && isTeamCtx id && decide (16 ≤ s.waiters (teamCore id)) then s
  else
    let far := isPeerLine line
    let m : Monitor := { line := line, die := ctxDie id, src := if far then some s.opSerial else none }
    let s1 := (s.disarm old).arm line m.die m.src
    { s1.updCtx id (fun c => { c with monitor := some m }) with opSerial := if far then s1.opSerial + 1 else s1.opSerial }

/-- MONITOR (R270). One that arms a slot on another device waits until its home has done so (R379). -/
def execGMonitor (a : BitVec 6) (s : State) : Out :=
  gWord [a] s (fun id w c =>
    let va := c.get a
    match s.gAccess id w va 0 (accCode 0 0 false false false) .load with
    | .stop s1 => s1
    | .ok s1 _ home _ =>
      let asked := c.wait == .room && c.monitor.any (fun m => m.line == home / 128 && m.src.isSome)
      let s2 := if asked then s1 else s1.armG id (home / 128)
      if s2.arming (s2.ctx id).monitor then gStall s2 id .room
      else s2.updCtx id (fun c => ({ c with monitor := c.monitor.map (fun m => { m with src := none }) } : Ctx).done))

/-- Wake mask of MWAITA: a write, the deadline, no monitor (R270). DESIGN CHOICE (assumption 100): with no monitor bit [2]
stands alone, also where the deadline has passed. -/
def wakeMask (c : Ctx) (dl : W64) (now : Nat) : W64 :=
  match c.monitor with
  | none => 4
  | some m => w64 (bitN m.woken + 2 * bitN (dl != 0 && decide (dl.toNat ≤ now)))

/-- MWAITA (R270). -/
def execGMwaita (d a : BitVec 6) (s : State) : Out :=
  gWord [d, a] s (fun id _ c =>
    let m := wakeMask c (c.get a) s.now
    if m = 0 then s.setCtx id { c with wait := .monitor, deadline := c.get a }
    else
      ((s.disarm c.monitor).acquireG id c.scope).setCtx id
        (({ c with monitor := none }.put d m).done))

/-! ## Copies (R273 to R278) -/

/-- The copy engine of a context: engine number, eight to a die (R273; assumption 16 for a prologue). -/
def engineOf (id : Nat) : Nat :=
  if isTeamCtx id then coreDie (teamCore id) * 8 + coreCluster (teamCore id) % 4
  else if isSup id then ctxDie id * 8 + (id - 4096) % 4
  else ctxDie id * 8

/-- A copy word hands its operation over and returns at once (R273). -/
def State.copyPush (s : State) (id : Nat) (d : BitVec 6) (c : Ctx) (o : CopyOp) : State :=
  let e := engineOf id
  if 64 ≤ (s.engine e).length then gStall s id .room
  else
    let n := s.opSerial
    let o1 := { o with by_ := .ctx id d.toNat, asid := s.asidOf id, supper := isSup id && c.supper, serial := n }
    let s1 := { s.setEngine e (s.engine e ++ [o1]) with opSerial := n + 1 }
    s1.setCtx id ((if d = 0 then c else c.setTok d.toNat true).done)

/-- A range of a share that a copy names, checked at issue (R275). DESIGN CHOICE (assumption 102): the access code of its
record has size and order 0, which no rule gives for a range. -/
def gRange (s : State) (id : Nat) (w : W32) (off : W64) (n : Nat) (store : Bool) (k : State) : State :=
  if s.shareOf id < off.toNat + n then
    s.raiseG id { code := 0xF, t3 := off, t4 := accCode 0 0 store false true, t5 := w64 (s.shareOf id) } w
  else k

/-- Ranges overlap. -/
def overlaps (a b n : Nat) : Bool := decide (a < b + n) && decide (b < a + n)

/-- COPY (R275): a scratchpad range outside the share faults at issue; L = 0 with good flags completes at once. DESIGN CHOICE
(assumption 113): where both ranges lie outside the share, the record names the source. -/
def execGCopy (d a b : BitVec 6) (s : State) : Out :=
  gWord [d, a, a + 1, b] s (fun id w c =>
    let f := fieldOf (c.get b) 32 32
    let n := fieldOf (c.get b) 0 32
    let src := c.get a
    let dst := c.get (a + 1)
    let o : CopyOp := { kind := .copy, src := src, dst := dst, len := n, srcSp := f.testBit 0, dstSp := f.testBit 1
                        loc := f.testBit 2, badFlags := decide (8 ≤ f)
                        overlap := f.testBit 0 == f.testBit 1 && overlaps src.toNat dst.toNat n }
    let go := if f < 8 ∧ n = 0 then s.setCtx id ((c.put d 0).done) else s.copyPush id d c o
    let k2 := if f.testBit 1 then gRange s id w dst n true go else go
    if f.testBit 0 then gRange s id w src n false k2 else k2)

/-- Element size of a matrix format in half bytes (R276). -/
def fmtNibbles (f : Nat) : Nat := if f ≤ 1 then 4 else if f ≤ 4 then 2 else 1

/-- Row bytes B and row pitch D of a shape (R276). -/
def shapeRow (cols f : Nat) : Nat × Nat :=
  let b := cols * fmtNibbles f / 2
  (b, (b + 15) / 16 * 16)

/-- COPYS (R276): the destination offset is a multiple of 16, and its buffer lies in the share. -/
def execGCopys (d a b : BitVec 6) (s : State) : Out :=
  gWord [d, a, a + 1, b] s (fun id w c =>
    let sh := c.get b
    let rows := fieldOf sh 0 12 + 1
    let cols := fieldOf sh 12 12 + 1
    let f := fieldOf sh 24 4
    let dst := c.get (a + 1)
    let odd := decide (5 < f) || (f == 5 && cols % 2 == 1)
    let n := if odd then 1 else 16 + rows * (shapeRow cols f).2
    let o : CopyOp := { kind := .shape, src := c.get a, dst := dst, shape := sh, dstSp := true }
    let code := accCode 0 0 true false true
    if s.shareOf id < dst.toNat + n then
      s.raiseG id { code := 0xF, t3 := dst, t4 := code, t5 := w64 (s.shareOf id) } w
    else if !odd && dst.toNat % 16 != 0 then s.raiseG id { code := 0xA, t3 := dst, t4 := code } w
    else s.copyPush id d c o)

/-- COPYZ (R278). -/
def execGCopyz (d a b : BitVec 6) (s : State) : Out :=
  gWord [d, a, b] s (fun id w c =>
    let f := fieldOf (c.get b) 32 32
    let n := fieldOf (c.get b) 0 32
    let dst := c.get a
    let bad := f != f &&& 6
    let o : CopyOp := { kind := .zero, dst := dst, len := n, dstSp := f.testBit 1, loc := f.testBit 2, badFlags := bad }
    let go := if !bad && n == 0 then s.setCtx id ((c.put d 0).done) else s.copyPush id d c o
    if f.testBit 1 then gRange s id w dst n true go else go)

end Sys2Proof.Machine
end

