-- ==== Sys2Proof/Machine/Pewter.lean ====
section
/-! DEFINITION. Machine/Pewter.lean: queue descriptors, kicks, queue errors, binding, fetch-ahead, and the step of the lanes
(R305 to R313, R324, R325, R457). -/

namespace Sys2Proof.Machine

/-! ## Queues and descriptors (R305, R309) -/

/-- Sets Pewter's copy of a queue. -/
def State.setQueue (s : State) (i q : Nat) (x : Queue) : State :=
  s.updPewter i (fun p => { p with queues := kvSet p.queues q x })
/-- Unit offset of the last packet of a queue that has completed. -/
def State.lastOff (s : State) (i q : Nat) : Option W32 := (s.queue i q).lastOff.or (kvFind (s.pewter i).offs q)
/-- Forgets Pewter's copy of a queue, but for the offset of its last packet (R457). -/
def State.dropQueue (s : State) (i q : Nat) : State :=
  s.updPewter i (fun p => { p with
    queues := kvDel p.queues q, offs := match s.lastOff i q with | some x => kvSet p.offs q x | none => p.offs })
/-- The lane that a queue is bound to. -/
def State.laneOf (s : State) (i q : Nat) : Option Nat :=
  ((s.pewter i).lanes.find? (fun e => e.2.q == q)).map (fun e => e.1)
/-- Changes a lane. -/
def State.updLane (s : State) (i l : Nat) (f : Lane → Lane) : State := s.setLane i l (f (s.lane i l))
/-- The queue that a lane is bound to. -/
def State.laneQueue (s : State) (i l : Nat) : Queue := s.queue i (s.lane i l).q

/-- Bytes written to physical memory within one line, by an agent of a die. -/
def State.storePhys (s : State) (die a : Nat) (bs : List Byte) : State :=
  s.performLine die [] (a / 128) (kvBytes [] (a % 128) bs) false

/-- The 128 bytes of a descriptor. -/
def Queue.bytes (x : Queue) (state : Nat) : List Byte :=
  natLe 8 x.base.toNat ++ natLe 1 x.lsize ++ natLe 1 x.prio ++ natLe 2 x.gen ++ natLe 2 x.asid ++ natLe 1 state
    ++ natLe 1 x.level ++ natLe 4 x.ri.toNat ++ natLe 4 x.wa.toNat ++ natLe 8 x.error.toNat
    ++ x.levels.flatMap (fun v => natLe 8 v.addr.toNat ++ natLe 4 v.left ++ natLe 4 v.used)
    ++ [0, 1].flatMap (fun j => match x.loops[j]? with
      | some v => natLe 8 v.start.toNat ++ natLe 4 v.left ++ natLe 1 v.level ++ natLe 3 1
      | none => natLe 16 0)

/-- The queue has something left to parse (R311). -/
def Queue.pending (x : Queue) : Bool := x.wa != x.ri || x.level != 0

/-- Units of the ring. -/
def Queue.capacity (x : Queue) : Nat := 2 ^ (x.lsize - 3)
/-- A level above the ring. -/
def Queue.lv (x : Queue) : Level := x.levels.getD (x.level - 1) {}
/-- Units from the parse pointer to the accepted write index, or to the buffer's end. -/
def Queue.avail (x : Queue) : Nat := if x.level = 0 then (x.wa - x.ri).toNat else x.lv.left
/-- Address of the unit k units past the parse pointer; the ring wraps (R308). -/
def Queue.unitVa (x : Queue) (k : Nat) : W64 :=
  if x.level = 0 then x.base + w64 ((x.ri.toNat + k) % x.capacity * 8) else x.lv.addr + w64 (8 * k)
/-- Unit offset of the packet at the parse pointer in its buffer (R307). -/
def Queue.offset (x : Queue) : W32 := if x.level = 0 then x.ri else BitVec.ofNat 32 x.lv.used
/-- The parse pointer moved on by n units. -/
def Queue.skip (x : Queue) (n : Nat) : Queue :=
  if x.level = 0 then { x with ri := x.ri + BitVec.ofNat 32 n }
  else
    let v : Level := { addr := x.lv.addr + w64 (8 * n), left := x.lv.left - n, used := x.lv.used + n }
    { x with levels := x.levels.set (x.level - 1) v }

/-! ## Ready lanes (R310) -/

/-- Fetched units of a lane's present level. -/
def State.window (s : State) (i l : Nat) : List (W64 × Nat) :=
  (s.lane i l).fetched.getD (s.laneQueue i l).level []

/-- Length in units of a packet by its header, at least 1. -/
def hdrLen (h : W64) : Nat := max 1 (fieldOf h 48 8)
/-- Type of a packet by its header. -/
def hdrType (h : W64) : Nat := fieldOf h 56 8

/-- Units that the head packet needs: all of it, and for a PRED the next header; no more than its buffer holds. A header
that could not be read needs itself alone. -/
def Queue.need (x : Queue) (f : List (W64 × Nat)) : Nat :=
  match f with
  | [] => 1
  | (h, c) :: _ =>
    let n := if c ≠ 0 then 1 else if hdrType h = 5 ∧ hdrLen h = 4 ∧ (x.level = 0 ∨ 4 < x.avail) then 5 else hdrLen h
    if x.level = 0 then n else min n x.avail

/-- Units that are to be fetched: 256 bytes or up to the limit, and then the rest of a longer packet. -/
def Queue.want (x : Queue) (f : List (W64 × Nat)) : Nat :=
  let win := min 32 x.avail
  if f.length < win then win else max win (min (x.need f) x.avail)

/-- The lane's head packet is whole, and the lane does not wait (R310). -/
def State.laneReady (s : State) (i l : Nat) : Bool :=
  let x := s.laneQueue i l
  let f := s.window i l
  (s.lane i l).wait == .none && x.pending && decide (x.need f ≤ f.length) && decide (x.want f ≤ f.length)

/-! ## Queue errors (R307, R457) -/

/-- A record sent in a queue's name (R307, R325). -/
def queueRec (i q kind : Nat) (t3 t4 t5 : W64) (src : Source) : Rec2 :=
  { kind := kind, head := recHead kind 0 (8 + i) 0 0, die := 8 + i, permit := .pewter i, src := src
    body := { t0 := w64 (3 * 2 ^ 28 + q), t3 := t3, t4 := t4, t5 := t5 } }

/-- Code and offset as the error field holds them. -/
def errorField (code : Nat) (off : W32) : W64 := BitVec.ofNat 8 code ++ 0#24 ++ off

/-- A queue's descriptor is read, for its home and its caches (R207, R305). -/
def State.readsDesc (s : State) (i q : Nat) : State := s.homeRead (8 + i) (s.descAddr i q / 128) 0

/-- A lane loses its queue, and its fetch-ahead is discarded (R311, R401). -/
def State.dropLane (s : State) (i l : Nat) : State :=
  (s.updPewter i (fun p => { p with lanes := kvDel p.lanes l, mask := natDel p.mask l })).countPewter i 6 1

/-- A queue error (R307): the descriptor takes state 3 and the error, the lane is unbound, and a FAULT record follows
unless another unit sends it (R316). A descriptor of which Pewter has no copy keeps its other fields. -/
def State.queueError (s : State) (i q code : Nat) (off : W32) (addr : W64) (record : Bool) : State :=
  let e := errorField code off
  let at_ := s.descAddr i q
  let s1 := match kvFind (s.pewter i).queues q with
    | some x => s.storePhys (8 + i) at_ ({ x with error := e }.bytes 3)
    | none => (s.storePhys (8 + i) (at_ + 14) [3#8]).storePhys (8 + i) (at_ + 24) (natLe 8 e.toNat)
  let s2 := match s.laneOf i q with
    | some l => s1.dropLane i l
    | none => s1
  let s3 := (s2.dropQueue i q).updPewter i (fun p => { p with qerrs := p.qerrs + 1 })
  if record then (s3.send (queueRec i q 1 0 e addr .nobody)).fire (8 + i) 3 else s3

/-- The launch distributor sends the record of a rejection itself (R316). -/
def ownRecord (code : Nat) : Bool := code != 0x40 && code != 0x41

/-- QSTOPQ's offset: that of the last packet completed, which is free where none is known (R457; assumption 8). -/
def State.stopOffset (s : State) (i q code : Nat) (off : W32) : State × W32 :=
  if code ≠ 0x0F then (s, off)
  else
    match s.lastOff i q with
    | some x => (s, x)
    | none => (s.used, s.free.extractLsb' 0 32)

/-- The lane's packet has written outside the device, or is about to, and is executing still (R312). -/
def Lane.writing (k : Lane) : Bool :=
  match k.wait with
  | .sent _ | .egress => true
  | _ => false

/-- A stop that arrives late: QSTOPQ, a COPY that ended badly, a launch that was rejected (R457). It waits for the packet
that the lane is executing, and for a packet, fetched whole, that a PRED has told the lane to skip. DEDUCED (assumption 53): of
a queue that is off or stopped already only QSTOPQ stops anew, for it stops at once a queue that no lane holds. -/
def State.lateStop (s : State) (i q code : Nat) (off : W32) (addr : W64) : State :=
  let now (t : State) : State :=
    let (t1, o) := t.stopOffset i q code off
    t1.queueError i q code o addr (ownRecord code)
  match s.laneOf i q with
  | some l =>
    let x := s.lane i l
    if ((s.pewter i).mask.contains l && x.wait == .none) || (x.skip && s.laneReady i l) || x.writing then
      s.setLane i l { x with stop := match x.stop with | some y => some y | none => some (code, off, addr) }
    else now s
  | none =>
    if (kvFind (s.pewter i).queues q).isSome || code == 0x0F then now s
    else
      let st := (s.readDesc i q).state
      if st == 0 || st == 3 then s.readsDesc i q else now (s.readsDesc i q)

/-! ## Kicks (R53, R306, R308, R309) -/

/-- A kick is ignored and counted. -/
def State.ignoreKick (s : State) (i : Nat) : State := s.updPewter i (fun p => { p with qign := p.qign + 1 })

/-- The tests of R308, for a queue whose descriptor has passed its check. -/
def State.kickTest (s : State) (i q : Nat) (x : Queue) (v : W64) : State :=
  let s0 := s.setQueue i q x
  let wi : W32 := v.extractLsb' 0 32
  let err (code : Nat) : State := s0.queueError i q code wi 0 true
  let d := wi - x.ri
  if v.extractLsb' 48 16 ≠ 0 then err 0x04
  else if fieldOf v 32 16 ≠ x.gen then err 0x01
  else if 2 ^ 31 ≤ d.toNat then err 0x02
  else if d.toNat ≤ (x.wa - x.ri).toNat then s0.ignoreKick i
  else if x.capacity < d.toNat then err 0x03
  else
    let elig := if (s.laneOf i q).isSome then none else x.elig.or (some s.clk)
    (s0.setQueue i q { x with wa := wi, elig := elig }).countPewter i 4 1

/-- A store to a queue's kick register (R53, R306, R309). -/
def State.kick (s0 : State) (i q : Nat) (v : W64) (z : AccSize) : State :=
  let p := s0.pewter i
  if !p.qctl then s0
  else if z = .other then s0.ignoreKick i
  else
    let check : State :=
      let r := s0.readDesc i q
      let s := s0.readsDesc i q
      let elig := match kvFind p.queues q with | some y => y.elig | none => if r.x.pending then some 0 else none
      if r.state = 0 ∨ r.state = 3 then s.ignoreKick i
      else if 4 ≤ r.state ∨ r.bad then s.queueError i q 0x05 (v.extractLsb' 0 32) 0 true
      else s.kickTest i q { r.x with elig := elig, lastOff := s.lastOff i q, copyWait := (s.queue i q).copyWait } v
    match kvFind p.queues q with
    | some x => if x.fresh then s0.kickTest i q x v else check
    | none => check

/-- KICK: a store of val, of a size, to the kick register of queue a (R308). -/
def execEKick (s : State) : Out :=
  match s.cur with
  | .event x => .next (if x.a < 4096 then s.kick (x.a / 2048) x.a x.val x.size else s)
  | _ => .next s

/-- QSTOPQ: a store of val to the register of I/O die a (R306); a queue of the other die has no lane here. DESIGN CHOICE
(assumption 104): TREC5 of the record of a stop without a failing packet is the parse address at the store. -/
def execEQstopq (s : State) : Out :=
  match s.cur with
  | .event x =>
    let q := fieldOf x.val 0 12
    .next (if x.size = .aligned64 ∧ x.a < 2 ∧ q / 2048 = x.a then s.lateStop x.a q 0x0F 0 (s.queue x.a q |>.unitVa 0)
      else s)
  | _ => .next s

/-! ## Binding (R311) -/

/-- A lane is unbound: its queue's descriptor is written, and its fetch-ahead discarded. -/
def State.unbind (s : State) (i l : Nat) : State :=
  let q := (s.lane i l).q
  let x := s.queue i q
  let x1 := { x with copyWait := match (s.lane i l).wait with | .copy k => some k | _ => none }
  let s1 := (s.storePhys (8 + i) (s.descAddr i q) (x.bytes 1)).dropLane i l
  if x.pending then s1.setQueue i q { x1 with fresh := false, elig := some s.clk } else s1.dropQueue i q

/-- Queues of which Pewter has no copy, and whose descriptors stand in state 1 with something left to parse: software has
restarted them (R311). How long they have been eligible is not known, and they count as the longest (assumption 94). -/
def State.restarted (s : State) (i : Nat) : List (Nat × Queue) :=
  let q (k : Nat) : Nat := i * 2048 + k
  (((List.range 2048).filter (fun k =>
    (s.byte (s.descAddr i (q k) + 14)) == 1 && (kvFind (s.pewter i).queues (q k)).isNone)).map (fun k =>
      (q k, { (s.readDesc i (q k)).x with elig := some 0, fresh := false, lastOff := s.lastOff i (q k) }))).filter (fun e => e.2.pending)

/-- Eligible queues of a Pewter that no lane holds (R311). -/
def State.eligible (s : State) (i : Nat) : List (Nat × Queue) :=
  (s.pewter i).queues.filter (fun e => e.2.elig.isSome && e.2.pending && (s.laneOf i e.1).isNone) ++ s.restarted i

/-- Levels whose buffers are exhausted are left, and the lane has nothing left to parse or goes on (R311, R328, R330). A
buffer that ends with a loop of its level open is an error. -/
def State.settle (s : State) (i l : Nat) (fuel : Nat) : State :=
  match fuel with
  | 0 => s
  | n + 1 =>
    let k := s.lane i l
    let x := s.queue i k.q
    if x.level = 0 then (if x.wa = x.ri then s.unbind i l else s)
    else if x.lv.left ≠ 0 then s
    else if x.loops.any (fun e => e.level == x.level) then s.queueError i k.q 0x17 x.offset (x.unitVa 0) true
    else
      let x1 := { x with level := x.level - 1, levels := x.levels.set (x.level - 1) {} }
      ((s.setQueue i k.q x1).setLane i l { k with skip := false, fetched := k.fetched.set x.level [] }).settle i l n

/-- A lane has moved on, and has been ready: a stop that waited takes effect (R457). -/
def State.laneMoved (s0 : State) (i l : Nat) : State :=
  let s := s0.updLane i l (fun k => { k with waitSince := s0.clk })
  let k := s.lane i l
  match (if k.skip then none else k.stop) with
  | some (code, off, addr) =>
    let (s1, o) := s.stopOffset i k.q code off
    s1.queueError i k.q code o addr (ownRecord code)
  | none => s.settle i l 5

/-- A packet that a lane has executed waits: a stop that stands against its queue abandons it at once (R457). -/
def State.stopWaiting (s : State) (i l : Nat) : State :=
  let k := s.lane i l
  if k.wait = .none || k.skip || k.writing then s
  else
    match k.stop with
    | some (code, off, addr) =>
      let (s1, o) := s.stopOffset i k.q code off
      s1.queueError i k.q code o addr (ownRecord code)
    | none => s

/-- The packet at a lane's parse pointer has completed: n units are passed. -/
def State.passPacket (s : State) (i l n : Nat) (skip : Bool) : State :=
  let k := s.lane i l
  let x := s.queue i k.q
  ((s.setQueue i k.q { x.skip n with lastOff := some x.offset }).setLane i l { k with
    wait := .none, skip := skip, parsed := k.parsed + 1
    fetched := k.fetched.modify x.level (fun f => f.drop n) }).laneMoved i l

/-- A queue is bound to a lane: its descriptor is checked, and takes state 2 (R305, R309, R311). A COPY at which it stood
goes on being waited for, or is passed. -/
def State.bind (s0 : State) (i l q : Nat) : State :=
  let x0 := (kvFind (s0.pewter i).queues q).getD { fresh := false, lastOff := s0.lastOff i q }
  let r := s0.readDesc i q
  let s := if x0.fresh then s0 else s0.readsDesc i q
  let bad := !x0.fresh && r.bad
  if bad then s.queueError i q 0x05 0 0 true
  else
    let x1 := if x0.fresh then x0 else { r.x with lastOff := x0.lastOff }
    let x2 := { x1 with elig := none, fresh := true, copyWait := none }
    let s1 := ((s.setQueue i q x2).storePhys (8 + i) (s.descAddr i q + 14) [2#8]).countPewter i 5 1
    let s2 := s1.setLane i l { q := q, waitSince := s.clk }
    match x0.copyWait with
    | some k =>
      if (kvFind s.launches k).isSome then s2.updLane i l (fun y => { y with wait := .copy k })
      else s2.passPacket i l 4 false
    | none => s2.settle i l 5

/-- The eligible queue that is bound next: highest priority, then longest eligible. -/
def State.nextQueue (s : State) (i : Nat) : Option Nat :=
  (leastBy (fun e => [7 - e.2.prio, e.2.elig.getD 0, e.1]) (s.eligible i)).map (fun e => e.1)

/-- LANE_BIND of Pewter a (R311). -/
def execELaneBind (s : State) : Out :=
  match s.cur with
  | .event x =>
    .next (match s.nextQueue x.a, (List.range 64).find? (fun l => (kvFind (s.pewter x.a).lanes l).isNone) with
    | some q, some l => if (s.pewter x.a).qctl then s.bind x.a l q else s
    | _, _ => s)
  | _ => .next s

/-- A lane that may be unbound between packets: it is not executing, and no PRED has told it to skip. -/
def State.mayUnbind (s : State) (i l : Nat) : Bool :=
  (kvFind (s.pewter i).lanes l).isSome && !(s.pewter i).mask.contains l && !(s.lane i l).skip && !(s.lane i l).writing

/-! ## Accesses of a Pewter (R325, R366) -/

/-- Translation through the ATS cache of the Pewter's die, whose 8,192 entries hold the host's translations too (R360,
R408). -/
def State.iodXlate (s : State) (i asid : Nat) (va : W64) (n : Need) (upper : Bool := false) : State × Walk :=
  let r := s.translateVia (s.die (8 + i)).ats (8192 - (s.iod i).hostAts.length) (8 + i) asid upper va n
  (r.1.updDie (8 + i) (fun d => { d with ats := r.2.1 }), r.2.2)

/-- n bytes of a place as an agent of a die without a core reads them; none: poison. -/
def State.dieRead (s : State) (die pl n : Nat) (pk : PageKind) : State × Option (List Byte) :=
  s.readHome die pl n pk

/-- A lane waits for a page, with a PARK record in its queue's name unless the page is pending-invalid (R325). -/
def State.parkLane (s : State) (i l : Nat) (va : W64) (pi : Bool) (base size : Nat) (fetch : Bool) : State :=
  let s1 := s.updLane i l (fun k => { k with wait := .page pi va fetch size })
  if pi then s1
  else
    let q := (s.lane i l).q
    s1.send { queueRec i q 2 va 0 0 (.lane i q) with page := base, pageSize := size }

/-! ## Fetch-ahead (R310, R313) -/

/-- A fetched unit, or its page is not there. -/
inductive UnitRead where
  | got (v : W64) (code : Nat)
  | park (pi : Bool) (base size : Nat)
  /-- the host's translation is being asked for (R408) -/
  | host
deriving DecidableEq, Repr

/-- One unit read for fetch-ahead: a fault is kept for the packet that holds it (R457). -/
def State.readUnit (s : State) (i asid : Nat) (va : W64) : State × UnitRead :=
  match s.iodXlate i asid va .load with
  | (s1, .ok e z) =>
    let pl := readPlace (8 + i) (placesOf (s1.die 0).devnum.toNat e z va)
    if s1.hostWaits [pl] then (s1.askHost [pl], .host) else
    match s1.dieRead (8 + i) pl 8 (pteKind e) with
    | (s2, some b) => (s2, .got (w64 (leNat b)) 0)
    | (s2, none) => (s2, .got 0 0x1E)
  | (s1, .perm _) | (s1, .gone _) => (s1, .got 0 0x1D)
  | (s1, .poison) => (s1, .got 0 0x1E)
  | (s1, .park pi b z) => (s1, .park pi b z)

/-- A fetched unit joins the window of the lane's level. -/
def State.addUnit (s : State) (i l : Nat) (u : W64 × Nat) : State :=
  s.updLane i l (fun k => { k with fetched := k.fetched.modify (s.laneQueue i l).level (fun f => f ++ [u]) })

/-- Fetch-ahead of a lane's level, at most n units. -/
def State.fetchUnits (s : State) (i l n : Nat) : State :=
  match n with
  | 0 => s
  | k + 1 =>
    let x := s.laneQueue i l
    let f := s.window i l
    if x.want f ≤ f.length then s
    else
      let va := x.unitVa f.length
      match s.readUnit i x.asid va with
      | (s1, .got v c) => (s1.addUnit i l (v, c)).fetchUnits i l k
      | (s1, .park pi b z) => s1.parkLane i l va pi b z true
      | (s1, .host) => s1

/-- PACKET_FETCH of lane b of Pewter a (R313). -/
def execEPacketFetch (s : State) : Out :=
  match s.cur with
  | .event x =>
    .next (if (kvFind (s.pewter x.a).lanes x.b).isSome ∧ (s.lane x.a x.b).wait = .none then s.fetchUnits x.a x.b 300 else s)
  | _ => .next s

/-- Units of a page that is gone are taken as faults of the packets that hold them. -/
def State.faultUnits (s : State) (i l base size n : Nat) : State :=
  match n with
  | 0 => s
  | k + 1 =>
    let x := s.laneQueue i l
    let f := s.window i l
    let va := (x.unitVa f.length).toNat
    if f.length < x.want f ∧ base ≤ va ∧ va < base + size then (s.addUnit i l (0, 0x1D)).faultUnits i l base size k else s

/-- The reply to a PARK record sent in a queue's name (R325). -/
def State.answerLane (s : State) (i q base size reply : Nat) : State :=
  match s.laneOf i q with
  | none => s
  | some l =>
    match (s.lane i l).wait with
    | .page false va fetch _ =>
      if va.toNat < base ∨ base + size ≤ va.toNat then s
      else if reply = 0 then s.updLane i l (fun k => { k with wait := .none })
      else if fetch then (s.updLane i l (fun k => { k with wait := .none })).faultUnits i l base size 300
      else s.queueError i q 0x1D (s.queue i q).offset ((s.queue i q).unitVa 0) true
    | _ => s

/-! ## Steps (R312) -/

/-- Place of a packet type in the order of R312; an unassigned type comes last. -/
def typeRank (t : Nat) : Nat :=
  match t with
  | 0x0A => 0
  | 0x08 => 1
  | 0x09 => 2
  | 0x05 => 3
  | 0x06 => 4
  | 0x07 => 5
  | 0x04 => 6
  | 0x0B => 7
  | 0x0C => 8
  | 0x03 => 9
  | 0x02 => 10
  | 0x01 => 11
  | 0x0D => 12
  | 0x00 => 13
  | _ => 14

/-- Type of a lane's head packet. DESIGN CHOICE (assumption 118): one whose header cannot be read counts as a NOP in the order of
R312. -/
def State.headType (s : State) (i l : Nat) : Nat := hdrType ((s.window i l).headD (0, 0)).1

/-- A lane that has been passed over for 64 steps without a break. -/
def Lane.late (k : Lane) : Bool := k.overdue || decide (64 ≤ k.passed)

/-- A step of a Pewter begins: its type is chosen and its mask set, and the lanes passed over are counted (R312, R401). -/
def State.beginStep (s : State) (i : Nat) : State :=
  let ready := ((s.pewter i).lanes.map (fun e => e.1)).filter (s.laneReady i)
  match (match ready.find? (fun l => (s.lane i l).late) with
    | some l => some l
    | none => leastBy (fun l => [typeRank (s.headType i l)]) ready) with
  | none => s.updPewter i (fun p => { p with lanes := kvMap (fun _ k => { k with passed := 0, overdue := false }) p.lanes })
  | some l =>
    let mask := ready.filter (fun x => s.headType i x == s.headType i l)
    let step (n : Nat) (k : Lane) : Lane :=
      if ready.contains n && !mask.contains n then { k with passed := k.passed + 1 }
      else { k with passed := 0, overdue := false }
    ((s.updPewter i (fun p => { p with lanes := kvMap step p.lanes, mask := mask })).countPewter i 2 1).countPewter i 3
      mask.length

/-- LANE_PASSED_OVER of lane b of Pewter a (R312). -/
def execELanePassedOver (s : State) : Out :=
  match s.cur with
  | .event x =>
    .next (if 64 ≤ (s.lane x.a x.b).passed then s.updLane x.a x.b (fun k => { k with overdue := true }) else s)
  | _ => .next s

/-- A lane has waited for 1 µs, 1,600 fabric clocks, while a queue is eligible (R311). -/
def State.waitsLong (s : State) (i l : Nat) : Bool :=
  s.mayUnbind i l && !s.laneReady i l && decide ((s.lane i l).waitSince + 1600 ≤ s.clk) && !(s.eligible i).isEmpty

/-- A lane has parsed 1,024 packets while a queue of its priority or a higher is eligible (R311). -/
def State.parsedMany (s : State) (i l : Nat) : Bool :=
  s.mayUnbind i l && decide (1024 ≤ (s.lane i l).parsed) &&
    (s.eligible i).any (fun e => decide ((s.laneQueue i l).prio ≤ e.2.prio))

/-- LANE_WAIT_TIMEOUT of lane b of Pewter a (R311). -/
def execELaneWaitTimeout (s : State) : Out :=
  match s.cur with
  | .event x => .next (if s.waitsLong x.a x.b then s.unbind x.a x.b else s)
  | _ => .next s

/-- LANE_PACKET_QUOTA of lane b of Pewter a (R311). -/
def execELanePacketQuota (s : State) : Out :=
  match s.cur with
  | .event x =>
    .next (if s.parsedMany x.a x.b then s.unbind x.a x.b else s)
  | _ => .next s

/-- The packet at a lane's head as a lane holds it. -/
def packetOf (f : List (W64 × Nat)) : Packet :=
  let h := (f.headD (0, 0)).1
  { len := h.extractLsb' 48 8, hdr := h.extractLsb' 0 48, body := ((f.take (hdrLen h)).drop 1).map (fun u => u.1) }

/-- The instruction of a packet type (R327, R335); none: the type is not assigned. -/
def packetInstr (h : W64) : Option Instr :=
  match hdrType h with
  | 0x00 => some .pNopPacket
  | 0x01 => some .pLaunch
  | 0x02 => some .pLaunchi
  | 0x03 => some .pCopyPacket
  | 0x04 => some .pCallib
  | 0x05 => some .pPred
  | 0x06 => some .pLoop
  | 0x07 => some .pEndloop
  | 0x08 => some (if fieldOf h 0 3 = 0 then .pSignalWrite else .pSignalAdd)
  | 0x09 => some .pWaitmem
  | 0x0A => some .pFetchfence
  | 0x0B => some .pDrain
  | 0x0C => some .pSetprio
  | 0x0D => some .pTimestamp
  | _ => none

end Sys2Proof.Machine
end

