-- ==== Sys2Proof/Machine/Host.lean ====
section
/-! DEFINITION. Machine/Host.lean: the I/O ordering points, egress quarantine and the host's translations (R218, R219, R237,
R406 to R408, R424). -/

namespace Sys2Proof.Machine

/-! ## Inbound requests (R237, R407, R424) -/

/-- An inbound request by its serial number. -/
def State.inReq (s : State) (i n : Nat) : Option Inbound := (s.iod i).inbound.find? (fun r => r.serial == n)

/-- Changes an inbound request. -/
def State.updIn (s : State) (i n : Nat) (f : Inbound → Inbound) : State :=
  s.updIod i (fun x => { x with inbound := x.inbound.map (fun r => if r.serial = n then f r else r) })

/-- An inbound request leaves its ordering point. -/
def State.dropIn (s : State) (i n : Nat) : State :=
  s.updIod i (fun x => { x with inbound := x.inbound.filter (fun r => r.serial != n) })

/-- Address that an inbound request reaches (R407). -/
def State.inVa (s : State) (i : Nat) (r : Inbound) : W64 :=
  w64 (fieldOf (s.die (8 + i)).apbase 16 41 * 65536 + r.off)

/-- Lines that a request spans. -/
def Inbound.lines (r : Inbound) : Nat := (r.off % 128 + max r.len 1 + 127) / 128

/-- Bytes of line k of a request, from its first byte on. -/
def Inbound.part (r : Inbound) (k : Nat) : Nat × Nat :=
  let a := if k = 0 then 0 else k * 128 - r.off % 128
  let b := min r.len ((k + 1) * 128 - r.off % 128)
  (a, b - a)

/-- The request may be released (R225, R237): a read, as a strong write, after every earlier request is over; a relaxed
write after every earlier read, and never past a write that is held. -/
def State.inMay (s : State) (i : Nat) (r : Inbound) : Bool :=
  let earlier := (s.iod i).inbound.filter (fun x => decide (x.serial < r.serial))
  if !r.isRead && r.relaxed then earlier.all (fun x => !x.isRead && x.held.isNone)
  else earlier.isEmpty

/-- Access code of an inbound request: a release write, or a relaxed one, or an acquire read; the size code is 3. -/
def Inbound.code (r : Inbound) : W64 :=
  if r.isRead then 3 + 4 else if r.relaxed then 3 + 16 else 3 + 8 + 16

/-- The request fails (R407): a read returns Completer Abort, a write is dropped, and a FAULT record goes to I/O die 0. -/
def State.inFail (s : State) (i : Nat) (r : Inbound) : State :=
  let s1 := s.dropIn i r.serial
  let s2 := if r.isRead then s1.updIod i (fun x => { x with returned := none :: x.returned }) else s1
  s2.send { kind := 1, head := recHead 1 0 (8 + i) 0 0, die := 8, permit := .pewter i
            body := { t0 := w64 (4 * 2 ^ 28), t3 := s.inVa i r, t4 := r.code } }

/-- How the translation of a request ends: every line has its places, or a page holds it, or it has failed (R407). -/
inductive InWalk where
  | go (s : State) (dest : List (List Nat × PageKind))
  | hold (s : State)
  | fail (s : State)

/-- A request is translated, line by line (R407). -/
def State.inXlate (s : State) (i : Nat) (r : Inbound) : InWalk :=
  let ap := (s.die (8 + i)).apasid
  if !ap.getLsbD 16 then .fail s
  else
    (List.range r.lines).foldl (fun x k =>
      match x with
      | .go s1 l =>
        let va := s.inVa i r + w64 (r.part k).1
        match s1.iodXlate i (fieldOf ap 0 16) va (if r.isRead then .load else .store) with
        | (s2, .ok e z) => .go s2 (l ++ [(placesOf (s2.die 0).devnum.toNat e z va, pteKind e)])
        | (s2, .park _ _ _) => .hold s2
        | (s2, _) => .fail s2
      | x => x) (.go s [])

/-- Line k of a translated request is performed: a write at every copy of its page, a read at the copy nearest to its die.
The value of poison is free (assumption 8). -/
def State.inLine (s : State) (i : Nat) (r : Inbound) (k : Nat) : State :=
  let (pls, pk) := r.dest.getD k ([], {})
  let (a, n) := r.part k
  if r.isRead then
    let pl := readPlace (8 + i) pls
    if s.hostWaits [pl] then s.askHost [pl]
    else
      let (s2, b) := s.dieRead (8 + i) pl n pk
      let (s3, bs) := match b with
        | some l => (s2, l)
        | none => ({ s2 with freeCtr := s2.freeCtr + n }, (List.range n).map (fun j => (Config.freeWord (s2.freeCtr + j)).extractLsb' 0 8))
      s3.updIn i r.serial (fun x => { x with done := kvSet x.done k bs })
  else if !s.egressRoom (8 + i) pls then s
  else
    (s.performAll (8 + i) [] (pls.map (fun p => p / 128)) (kvBytes [] ((r.off + a) % 128) ((r.data.drop a).take n)) pk.os
      (20480 + i * 64) 8191 false).updIn i r.serial (fun x => { x with done := kvSet x.done k [] })

/-- A read whose lines have all been taken returns its data. -/
def State.inReturn (s : State) (i n : Nat) : State :=
  match s.inReq i n with
  | none => s
  | some r =>
    if r.isRead && decide (r.lines ≤ r.done.length) then
      (s.dropIn i n).updIod i (fun x => { x with returned := some (r.done.flatMap (fun e => e.2)) :: x.returned })
    else s

/-- A page has held the request for 10 µs, 16,000 fabric clocks (R407). -/
def Inbound.late (r : Inbound) (clk : Nat) : Bool := match r.held with | some t => decide (t + 16000 ≤ clk) | none => false

/-- Line k of request n is performed, once the request may be released and all its lines have been translated (R237,
R407). -/
def State.inGo (s : State) (i n k : Nat) : State :=
  match s.inReq i n with
  | none => s
  | some r =>
    if !s.inMay i r || decide (r.lines ≤ k) || (kvFind r.done k).isSome then s
    else if r.late s.clk then s.inFail i r
    else if !r.dest.isEmpty then (s.inLine i r k).inReturn i n
    else
      match s.inXlate i r with
      | .go s1 l =>
        ((s1.updIn i n (fun x => { x with
          dest := l, held := none, since := s.clk, asid := fieldOf (s.die (8 + i)).apasid 0 16 })).inLine i { r with dest := l } k).inReturn i n
      | .hold s1 => s1.updIn i n (fun x => { x with held := x.held.or (some s.clk) })
      | .fail s1 => s1.inFail i r

/-- A request arrives: its bytes lie in BAR4, of 1 TiB, and a write brings 512 of them at most (R406). -/
def State.inArrive (s : State) (i : Nat) (r : Inbound) : State :=
  if decide (2 ^ 40 < r.off + r.len) || (!r.isRead && decide (512 < r.len)) then s
  else s.updIod i (fun x => { x with inbound := x.inbound ++ [{ r with serial := x.inSerial }], inSerial := x.inSerial + 1 })

/-- INBOUND_POSTED_WRITE at I/O die a: with c = 0 a write of bytes at aperture offset val arrives, relaxed by flag; with any
other c, line val of request b is performed (R237, R407, R424). -/
def execEInboundPostedWrite (s : State) : Out :=
  match s.cur with
  | .event x =>
    .next (if x.c = 0 then
        s.inArrive x.a { off := x.val.toNat, data := x.bytes, len := x.bytes.length, relaxed := x.flag }
      else s.inGo x.a x.b x.val.toNat)
  | _ => .next s

/-- INBOUND_READ at I/O die a: with c = 0 a read of b bytes at aperture offset val arrives; with any other c, line val of
request b is taken. -/
def execEInboundRead (s : State) : Out :=
  match s.cur with
  | .event x =>
    .next (if x.c = 0 then s.inArrive x.a { off := x.val.toNat, len := x.b, isRead := true }
      else s.inGo x.a x.b x.val.toNat)
  | _ => .next s

/-- INBOUND_WRITE_ACK of request b at I/O die a: every line has been performed (R424). -/
def execEInboundWriteAck (s : State) : Out :=
  match s.cur with
  | .event x =>
    .next (match s.inReq x.a x.b with
    | some r => if !r.isRead && decide (r.lines ≤ r.done.length) then s.dropIn x.a x.b else s
    | none => s)
  | _ => .next s

/-- INBOUND_HOLD_TIMEOUT of request b at I/O die a: 10 µs are 16,000 fabric clocks (R407). -/
def execEInboundHoldTimeout (s : State) : Out :=
  match s.cur with
  | .event x =>
    .next (match s.inReq x.a x.b with
    | some r => if r.late s.clk then s.inFail x.a r else s
    | none => s)
  | _ => .next s

/-! ## Egress quarantine (R218, R219) -/

/-- The n-th entry of an egress buffer may leave: 192 fabric clocks have passed, it is the oldest of its route, and its
translation stands (R218, R408). -/
def Iod.mayLeave (x : Iod) (e : Egress) (n clk : Nat) : Bool :=
  !e.left && e.ready && decide (e.at_ + 192 ≤ clk) && (x.egress.take n).all (fun b => b.left || b.route != e.route)

/-- A release at SYS leaves quarantine after every earlier write of its unit, which for a team's agents is their core, on
either I/O die (R219, R237). -/
def State.relFirst (s : State) (e : Egress) : Bool :=
  !e.rel || [0, 1].all (fun i =>
    (s.iod i).outgoing.all (fun b => b.left || b.unit != e.unit || decide (e.serial ≤ b.serial)))

/-- Host invalidations complete when no outbound write that was translated before them remains (R408). -/
def Iod.endInvals (x : Iod) : Iod :=
  { x with invals := x.invals.filter (fun v => x.outgoing.any (fun e =>
      decide (e.route < 2) && e.ready && e.addr.toNat / 4096 == v.1 && decide (e.serial < v.2))) }

/-- What a write holds as a Holusk flit carries it (assumption 95): a zero, its address, a mask of its bytes in their line,
and the bytes. -/
def Egress.payload (e : Egress) : List Byte :=
  natLe 1 0 ++ natLe 8 e.addr.toNat ++ natLe 16 ((e.data.map (fun b => 2 ^ (b.1 % 128))).foldl (· + ·) 0) ++
    e.data.map (fun b => b.2)

/-- One byte through the CRC-32C register, reflected. -/
def crcByte (c : W32) (b : Byte) : W32 :=
  (List.range 8).foldl (fun x _ => if x.getLsbD 0 then (x >>> 1) ^^^ 0x82F63B78#32 else x >>> 1) (c ^^^ b.zeroExtend 32)

/-- CRC-32C of some bytes. -/
def crc32c (l : List Byte) : W32 := ~~~(l.foldl crcByte 0xFFFFFFFF#32)

/-- A flit of 256 bytes: its header, 244 bytes of payload, and the CRC over both (R411). -/
def flitOf (kind seq ack : Nat) (l : List Byte) : List Byte :=
  let b := natLe 8 (kind * 2 ^ 60 + seq * 2 ^ 44 + ack * 2 ^ 28) ++ (l ++ List.replicate 244 0).take 244
  b ++ natLe 4 (crc32c b).toNat

/-- A flit goes out with the port's cumulative acknowledgement, the number of the last flit that it has taken (R411). -/
def Port.emit (p : Port) (kind seq : Nat) (l : List Byte) : Port :=
  { p with out := flitOf kind seq ((p.expect + 65535) % 65536) l :: p.out }

/-- A data flit takes a slot of a port's send window and goes out (R411). -/
def Port.send (p : Port) (l : List Byte) (clk : Nat) (src : Option Nat) : Port :=
  ({ p with
    window := p.window ++ [{ seq := p.nextSeq, payload := l, src := src }], nextSeq := (p.nextSeq + 1) % 65536
    sent := p.sent + 1, lastAdvance := if p.window.isEmpty then clk else p.lastAdvance } : Port).emit 0 p.nextSeq l

/-- A Holusk port by its number, twelve to an I/O die. -/
def State.port (s : State) (n : Nat) : Port := kvGet {} s.ports n
/-- Changes a Holusk port. -/
def State.updPort (s : State) (n : Nat) (f : Port → Port) : State := { s with ports := kvSet s.ports n (f (s.port n)) }

/-- What a Holusk port does with a flit of its own, once its link is up (R413). -/
def State.overLink (s : State) (n : Nat) (f : State → State) : State :=
  let k := (s.link n).wake s.clk
  let s1 := s.updLink n (fun _ => k)
  if k.up s.clk then f s1 else s1

/-- The n-th entry of an egress buffer leaves: onto its link, or into the send window of its Holusk port, where it is kept
until it has been acknowledged (R218, R411, R412). -/
def State.egressLeave (s : State) (i n : Nat) (e : Egress) : State :=
  if e.route < 16 then
    s.updIod i (fun x => (({ x with egress := delAt x.egress n, sent := (e.route, e.addr, e.data) :: x.sent } : Iod).refill
      s.clk).endInvals)
  else
    (s.updIod i (fun x => { x with egress := setAt x.egress n { e with left := true } })).updPort (e.route - 16)
      (fun p => p.send e.payload s.clk (some e.serial))

/-- EGRESS_QUARANTINE_LEAVE of entry b of I/O die a (R218). A full send window holds further flits back (R411). -/
def execEEgressQuarantineLeave (s : State) : Out :=
  match s.cur with
  | .event x =>
    .next (match (s.iod x.a).egress[x.b]? with
    | some e =>
      if (s.iod x.a).mayLeave e x.b s.clk && s.relFirst e && (decide (e.route < 16) || decide ((s.port (e.route - 16)).window.length < 512))
      then (if e.route < 16 then s.egressLeave x.a x.b e else s.overLink (e.route - 16) (fun t => t.egressLeave x.a x.b e))
      else s
    | none => s)
  | _ => .next s

/-! ## The host's translations (R408) -/

/-- HOST_ATS_INVALIDATION at I/O die a of host page val, of 4 KiB. -/
def execEHostAtsInvalidation (s : State) : Out :=
  match s.cur with
  | .event x =>
    let page := x.val.toNat
    .next (s.updIod x.a (fun k =>
      ({ k with hostAts := natDel k.hostAts page, invals := k.invals ++ [(page, s.opSerial)] } : Iod).endInvals))
  | _ => .next s

/-- PRI_RESPONSE at I/O die a for host page val: the accesses that wait for it go on where flag says that it succeeded. -/
def execEPriResponse (s : State) : Out :=
  match s.cur with
  | .event x =>
    .next (if (s.iod x.a).pri.contains x.val.toNat && x.flag then s.hostTaken x.a x.val.toNat else s)
  | _ => .next s

end Sys2Proof.Machine
end

