-- ==== Sys2Proof/Machine/GenEmit.lean ====
section
/-! DEFINITION. Machine/GenEmit.lean: the words that feed groups and the matrix unit, majors 0x18 to 0x1A (R122, R183, R282,
R298, R339 to R350). -/

namespace Sys2Proof.Machine

/-! ## Queues -/

/-- The word acts nb (R340): its nb bit under policy 00, every word under policy 10. -/
def Ctx.actsNb (c : Ctx) (z : BitVec 1) : Bool :=
  let p := fieldOf c.gmode 8 2
  p == 2 || (p == 0 && z == 1)

/-- A group that may be named: below the group count and armed (R341). -/
def State.groupOk (s : State) (id g : Nat) : Bool :=
  isTeamCtx id && decide (g < (s.team id).groups) && (s.grp (groupId id g)).armed

/-- G_GROUP with its group and the team's group count (R166). -/
def State.groupFault (s : State) (id g : Nat) : GFault :=
  { code := 0x7, t4 := w64 g, t5 := w64 (if isTeamCtx id then (s.team id).groups else 0) }

/-- G_REGION_OVERFLOW with its target and limit (R166). -/
def overflowFault (target limit : Nat) : GFault := { code := 0x9, t4 := w64 target, t5 := w64 limit }

/-- Free places of a group's issue queue (R185). -/
def Group.freePlaces (g : Group) : Nat := 64 - g.live.length
/-- Free places of a matrix queue. -/
def Team.mFree (t : Team) : Nat := 64 - t.mLive.length

/-- An entry for a queue, with its provenance and the marks of R228. -/
def State.qentry (s : State) (id : Nat) (kind : EntryKind) (x : W64) : QEntry :=
  { kind := kind, val := x, pc := (s.ctx id).pc, at_ := s.clk, mark := s.opSerial
    mws := if isTeamCtx id then (s.team id).mPushed else 0 }

/-- The emit state after a word (R69). DESIGN CHOICE (assumption 111): in an open clause a header counts as one of its words, and
its own length opens no new clause. -/
def emitNext (owed : Nat) (w : W32) : Nat :=
  if owed ≠ 0 then owed - 1 else if fieldOf w 28 4 = 15 then headerLen w else 0

/-- The expected signature after a word, with the push of an IF and the pop of an ENDIF (R346). -/
def expFold (x w : W32) : W32 :=
  let y := sigFold x w
  if w &&& 0xFFFE3FFF#32 = 0xB0000006#32 then sigFold y 0xFFFF0001#32
  else if w = 0xB0000008#32 then sigFold y 0xFFFF0002#32
  else y

/-- Expected signature of a group. -/
def Team.exp (t : Team) (g : Nat) : W32 := kvGet sigInit t.expSig g

/-- Emit state of a group. -/
def Team.owed (t : Team) (g : Nat) : Nat := (spGet t.emit g).toNat

/-- A C-word enters a group's issue queue (R341). -/
def State.pushWord (s : State) (id g : Nat) (w : W32) : State :=
  let e := s.qentry id .word (w.zeroExtend 64)
  (s.updGrp (groupId id g) (fun x => { x with queue := x.queue ++ [e] })).updTeam id (fun t => { t with
    emit := spSet t.emit g (BitVec.ofNat 8 (emitNext (t.owed g) w)), expSig := kvSet t.expSig g (expFold (t.exp g) w) })

/-- A word of the emit family has completed, setting c[n] if it acts nb (R340). -/
def gPushed (s : State) (id : Nat) (c : Ctx) (z : BitVec 1) (n : BitVec 3) : State :=
  s.updCtx id (fun k => (if c.actsNb z then k.setCond n true else k).done)

/-- No place is free: the word acts nb, or waits at its target (R340). -/
def gFull (s : State) (id : Nat) (c : Ctx) (z : BitVec 1) (n : BitVec 3) (target : Nat) : State :=
  if c.actsNb z then s.setCtx id ((c.setCond n false).done) else gStall s id (.queue target)

/-- EMIT (R341). Its release bit adds no wait: an earlier store of the context is visible to its core from issue (R217,
R342). -/
def execGEmit (g : BitVec 4) (a : BitVec 6) (n : BitVec 3) (z _r : BitVec 1) (s : State) : Out :=
  gWord [a] s (fun id w c =>
    let k := s.grp (groupId id g.toNat)
    if !s.groupOk id g.toNat then s.raiseG id (s.groupFault id g.toNat) w
    else if 192 ≤ k.retained then s.raiseG id (overflowFault g.toNat 192) w
    else if k.freePlaces = 0 then gFull s id c z n g.toNat
    else gPushed (s.pushWord id g.toNat ((c.get a).extractLsb' 0 32)) id c z n)

/-- KOverflow (R343). -/
def kOverflow (k : Group) (t : Team) : Bool :=
  decide (32 ≤ k.kq.length) && k.kq.all (fun e => e.popped) && t.regIssued == t.regCommitted

/-- EMITK pushes a constant, or the expected signature (R341, R343, R346). -/
def execGEmitk (g : BitVec 4) (a : BitVec 6) (x : BitVec 1) (n : BitVec 3) (z _r : BitVec 1) (s : State) : Out :=
  gWord [a] s (fun id w c =>
    let k := s.grp (groupId id g.toNat)
    let t := s.team id
    if !s.groupOk id g.toNat then s.raiseG id (s.groupFault id g.toNat) w
    else if kOverflow k t then s.raiseG id (overflowFault g.toNat 32) w
    else if 32 ≤ k.kq.length then gFull s id c z n g.toNat
    else
      let v := if x = 1 then t.exp g.toNat else (c.get a).extractLsb' 0 32
      gPushed (s.updGrp (groupId id g.toNat) (fun y => { y with kq := y.kq ++ [{ val := v, epoch := t.regIssued }] }))
        id c z n)

/-- An M-word enters the team's matrix queue. -/
def State.pushM (s : State) (id : Nat) (w : W32) : State :=
  let e := s.qentry id .word (w.zeroExtend 64)
  s.updTeam id (fun t => { t with mq := t.mq ++ [e], mPushed := t.mPushed + 1 })

/-- EMITM (R341). -/
def execGEmitm (a : BitVec 6) (n : BitVec 3) (z _r : BitVec 1) (s : State) : Out :=
  gWord [a] s (fun id w c =>
    if !isTeamCtx id then s.raiseG id (s.groupFault id 16) w
    else if 192 ≤ (s.team id).mq.length then s.raiseG id (overflowFault 16 192) w
    else if (s.team id).mFree = 0 then gFull s id c z n 16
    else gPushed (s.pushM id ((c.get a).extractLsb' 0 32)) id c z n)

/-- Groups that a mask names, lowest first. -/
def maskGroups (m : W64) : List Nat := (List.range 16).filter (fun g => m.getLsbD g)

/-- EMITB pushes one word to every group of a mask, as one step (R344). -/
def execGEmitb (n : BitVec 3) (a b : BitVec 6) (z _r : BitVec 1) (s : State) : Out :=
  gWord [a, b] s (fun id w c =>
    let gs := maskGroups (c.get b)
    if !isTeamCtx id then s.raiseG id (s.groupFault id (gs.headD 0)) w
    else
      match gs.find? (fun g => !s.groupOk id g) with
      | some g => s.raiseG id (s.groupFault id g) w
      | none =>
        match gs.find? (fun g => 192 ≤ (s.grp (groupId id g)).retained) with
        | some g => s.raiseG id (overflowFault g 192) w
        | none =>
          match gs.find? (fun g => (s.grp (groupId id g)).freePlaces == 0) with
          | some g => gFull s id c z n g
          | none => gPushed (gs.foldl (fun x g => x.pushWord id g ((c.get a).extractLsb' 0 32)) s) id c z n)

/-! ## The instruction path (R55, R345) -/

/-- A word read through the instruction path: read, or why it cannot be. -/
inductive Fetched where
  | ok (w : W32)
  | perm (e : W64)
  | poison
  | park (pi : Bool) (base size : Nat)
  /-- the host's translation is being asked for, or a copy engine has the line to write (R204, R408) -/
  | host
deriving DecidableEq, Repr

/-- The word at an address, read with generator-execute permission (R55, R364). -/
def State.fetchWord (s : State) (id : Nat) (va : W64) : State × Fetched :=
  match s.translateCtx id va .fetch with
  | (s1, .perm e) | (s1, .gone e) => (s1, .perm e)
  | (s1, .poison) => (s1, .poison)
  | (s1, .park pi b z) => (s1, .park pi b z)
  | (s1, .ok e z) =>
    let pl := readPlace (ctxDie id) (placesOf (s1.die 0).devnum.toNat e z va)
    if s1.engineOwns [pl] then (s1, .host) else
    if s1.hostWaits [pl] then (s1.askHost [pl], .host) else
    match (s1.touch (teamCore id) (s.team id).lid pl va).ctxRead id pl 4 (pteKind e) with
    | (s2, none) => (s2, .poison)
    | (s2, some b) => (s2, .ok (BitVec.ofNat 32 (leNat b)))

/-- Access code of a fetch (R165). -/
def fetchCode : W64 := accCode 2 0 false true false

/-- A fetch that has not given a word: its fault, or its park (R31, R176, R345). -/
def State.fetchFail (s : State) (id : Nat) (w : W32) (va : W64) (f : Fetched) : State :=
  match f with
  | .ok _ => s
  | .perm e => s.raiseG id { code := 0xB, t3 := va, t4 := fetchCode, t5 := e } w
  | .poison => s.raiseG id { code := 0xD, t3 := va, t4 := fetchCode } w
  | .park pi b z => s.parkG id w va fetchCode pi b z
  | .host => gStall s id .room

/-- n words of a literal, or the state at the first that cannot be read. -/
def State.literal (s : State) (id : Nat) (w : W32) (va : W64) (n : Nat) : State × Option (List W32) :=
  match n with
  | 0 => (s, some [])
  | k + 1 =>
    match s.fetchWord id va with
    | (s1, .ok x) =>
      match s1.literal id w (va + 4) k with
      | (s2, some l) => (s2, some (x :: l))
      | (s2, none) => (s2, none)
    | (s1, f) => (s1.fetchFail id w va f, none)

/-- EMITL pushes 1 to 16 words of a literal (R345). -/
def execGEmitl (g : BitVec 4) (z : BitVec 1) (n : BitVec 4) (o : BitVec 17) (s : State) : Out :=
  gWord [] s (fun id w c =>
    let k := s.grp (groupId id g.toNat)
    let cnt := n.toNat + 1
    if !s.groupOk id g.toNat then s.raiseG id (s.groupFault id g.toNat) w
    else if 192 < k.retained + cnt then s.raiseG id (overflowFault g.toNat 192) w
    else
      match s.literal id w (c.va + (o.signExtend 64) <<< 2) cnt with
      | (s1, none) => s1
      | (s1, some l) =>
        if k.freePlaces < cnt then gFull s1 id c z 0 g.toNat
        else gPushed (l.foldl (fun x v => x.pushWord id g.toNat v) s1) id c z 0)

/-! ## POP, QSTAT, GARM, YIELD, REGION -/

/-- The oldest entry of a return queue that is not popped, marked popped in its region (R347, R353). -/
def popR (l : List REntry) (epoch : Nat) : List REntry :=
  match l with
  | [] => []
  | e :: t => if e.popped then e :: popR t epoch else { e with popped := true, poppedAt := epoch } :: t

/-- POP (R347). -/
def execGPop (d : BitVec 6) (g : BitVec 4) (n : BitVec 3) (z : BitVec 1) (s : State) : Out :=
  gWord [d] s (fun id w c =>
    if !isTeamCtx id || decide ((s.team id).groups ≤ g.toNat) then s.raiseG id (s.groupFault id g.toNat) w
    else
      let k := s.grp (groupId id g.toNat)
      match k.rq.find? (fun e => !e.popped) with
      | none =>
        if c.actsNb z then s.setCtx id ((c.setCond n false).done) else gStall s id (.returnQueue g.toNat)
      | some e =>
        let s1 := s.setGrp (groupId id g.toNat) { k with rq := popR k.rq (s.team id).regIssued }
        s1.setCtx id ((if c.actsNb z then (c.put d e.val).setCond n true else c.put d e.val).done))

/-- What QSTAT shows of a group; its emit state has four bits there (R348; assumption 89). -/
def groupStat (k : Group) (owed : Nat) : W64 :=
  w64 (k.freePlaces + k.retained * 2 ^ 8 + (32 - k.kq.length) * 2 ^ 16
    + (k.rq.filter (fun e => !e.popped)).length * 2 ^ 24 + owed % 16 * 2 ^ 32 + bitN k.armed * 2 ^ 40
    + bitN (k.wait == .parked) * 2 ^ 41 + bitN (k.wait == .held) * 2 ^ 42)

/-- What QSTAT shows of the matrix queue (R348). -/
def Team.matStat (t : Team) : W64 := w64 (t.mFree + t.mq.length * 2 ^ 8)

/-- A core-clock edge: what the words of the next core clock see of a group (R125, R348, R388). -/
def Group.takeEdge (g : Group) (owed : Nat) : Group :=
  { g with edge :=
      { sig := g.sig, esn := g.esn, park := g.park, fpx := g.fpx, cf := g.cf, stat := groupStat g owed } }

/-- A core-clock edge for a team. -/
def State.takeEdge (s : State) (tid : Nat) : State :=
  let t := s.team tid
  (List.range t.groups).foldl (fun a g => a.updGrp (groupId tid g) (fun k => k.takeEdge (t.owed g)))
    (s.updTeam tid (fun t => { t with mStat := t.matStat }))

/-- QSTAT, as it stood at the last core-clock edge (R125, R348). -/
def execGQstat (d : BitVec 6) (g : BitVec 5) (s : State) : Out :=
  gWord [d] s (fun id w c =>
    let t := s.team id
    if !isTeamCtx id || (g != 16 && decide (t.groups ≤ g.toNat)) then s.raiseG id (s.groupFault id g.toNat) w
    else
      let x := if g = 16 then t.mStat else (s.grp (groupId id g.toNat)).edge.stat
      s.setCtx id ((c.put d x).done))

/-- A group as GARM leaves it (R40, R151, R349): its registers are reset, the re-arming is retained, and its views stand until
the next core-clock edge (R125). -/
def Group.rearm (g : Group) (e : QEntry) : Group :=
  { queue := g.queue ++ [{ e with consumed := true }], kq := g.kq, rq := g.rq, resn := 0
    armedThen := g.armedThen, issues := g.issues, edge := g.edge }

/-- GARM (R349). -/
def execGGarm (g : BitVec 4) (s : State) : Out :=
  gWord [] s (fun id w c =>
    let k := s.grp (groupId id g.toNat)
    if !isTeamCtx id || decide ((s.team id).groups ≤ g.toNat) || k.armed then s.raiseG id (s.groupFault id g.toNat) w
    else if 192 ≤ k.retained then s.raiseG id (overflowFault g.toNat 192) w
    else if !k.pend.isEmpty || !k.late.isEmpty then gStall s id .room
    else
      let s1 := s.setGrp (groupId id g.toNat) (k.rearm (s.qentry id .rearm 0))
      (s1.updTeam id (fun t => { t with
        emit := spSet t.emit g.toNat 0, expSig := kvSet t.expSig g.toNat sigInit })).setCtx id (c.done))

/-- YIELD (R350): the context leaves the round-robin for 8 fabric clocks at most; while a swap of its team is pending it
is held at a blocking point after the word. -/
def execGYield (s : State) : Out :=
  gWord [] s (fun id _ c =>
    s.setCtx id { c.done with wait := .yield, yieldEnd := s.clk + 8, yieldSeen := [] })

/-- The first group of the team, armed or retired, that a REGION finds in an open clause, with the words owed (R69, R183;
assumption 107). -/
def State.openClause (s : State) (id : Nat) : Option (Nat × Nat) :=
  ((List.range (s.team id).groups).find? (fun g => (s.team id).owed g != 0)).map (fun g => (g, (s.team id).owed g))

/-- The markers of a REGION (R183): one for each armed group and one for the matrix unit. -/
def State.pushMarkers (s : State) (id : Nat) : State :=
  let e := s.qentry id .marker 0xB000000C#64
  let gs := s.armedGroups id
  let s1 := gs.foldl (fun x g => x.updGrp (groupId id g) (fun k => { k with queue := k.queue ++ [e] })) s
  (s1.updTeam id (fun t => { t with
    mq := t.mq ++ [e], regIssued := t.regIssued + 1, expSig := gs.foldl (fun l g => kvSet l g sigInit) t.expSig })).updCtx id
    (fun c => { c with pendEntry := c.pc + 4 })

/-- The fault or wait of a REGION, or its markers pushed (R183). The context stands at the word. -/
def State.regionTry (s : State) (id : Nat) (w : W32) : State × Bool :=
  match s.openClause id with
  | some (g, k) => (s.raiseG id { code := 0x8, t4 := w64 g, t5 := w64 k } w, false)
  | none =>
    let t := s.team id
    if t.regIssued ≠ t.regCommitted then (gStall s id .region, false)
    else if t.mFree = 0 ∨ (s.armedGroups id).any (fun g => (s.grp (groupId id g)).freePlaces == 0) then
      (gStall s id .region, false)
    else (s.pushMarkers id, true)

/-- REGION (R183). -/
def execGRegion (s : State) : Out :=
  gWord [] s (fun id w _ =>
    if !isTeamCtx id then s.raiseG id { code := 0x1 } w
    else
      match s.regionTry id w with
      | (s1, false) => s1
      | (s1, true) => s1.updCtx id (fun c => c.done))

/-! ## GSETB, MDSET, MWAIT -/

/-- GSETB pushes a base for a group (R122). -/
def execGGsetb (g : BitVec 4) (a : BitVec 6) (n : BitVec 3) (s : State) : Out :=
  gWord [a] s (fun id w c =>
    let k := s.grp (groupId id g.toNat)
    let owed := (s.team id).owed g.toNat
    if !s.groupOk id g.toNat then s.raiseG id (s.groupFault id g.toNat) w
    else if owed ≠ 0 then s.raiseG id { code := 0x8, t4 := w64 g.toNat, t5 := w64 owed } w
    else if 192 ≤ k.retained then s.raiseG id (overflowFault g.toNat 192) w
    else if k.freePlaces = 0 then gStall s id (.queue g.toNat)
    else
      let e := s.qentry id (.gsetb n.toNat) (c.get a)
      (s.setGrp (groupId id g.toNat) { k with queue := k.queue ++ [e] }).setCtx id (c.done))

/-- MDSET pushes the halves of a matrix descriptor (R282). -/
def execGMdset (n : BitVec 4) (a b : BitVec 6) (s : State) : Out :=
  gWord [a, b] s (fun id w c =>
    let t := s.team id
    if !isTeamCtx id then s.raiseG id (s.groupFault id 16) w
    else if 192 < t.mq.length + 2 then s.raiseG id (overflowFault 16 192) w
    else if t.mFree < 2 then gStall s id (.queue 16)
    else
      let lo := s.qentry id (.descriptor n.toNat false) (c.get a)
      let hi := s.qentry id (.descriptor n.toNat true) (c.get b)
      (s.setTeam id { t with mq := t.mq ++ [lo, hi] }).setCtx id (c.done))

/-- MWAIT (R298): a complete batch answers at once, another sets the token of sd, and with sd = 0 the context waits. -/
def execGMwait (d a : BitVec 6) (s : State) : Out :=
  gWord [d, a] s (fun id _ c =>
    let b := fieldOf (c.get a) 0 10
    if !isTeamCtx id || (s.team id).batchDone b then s.setCtx id ((c.put d (BitVec.allOnes 64)).done)
    else if d = 0 then gStall s id (.batch b)
    else s.setCtx id (({ c with mwaits := c.mwaits ++ [(b, d.toNat, c.pc)] }.setTok d.toNat true).done))

end Sys2Proof.Machine
end

