-- ==== Sys2Proof/Machine/Operands.lean ====
section
/-! DEFINITION. Machine/Operands.lean: the operands of C-words (R41, R91, R133 to R136): lanes, K constants, uniform
sources, elements of a packed word, and the writing of results with their flags (R100). -/

namespace Sys2Proof.Machine

/-! ## The word at turn -/

/-- A body word acts on the group at turn; at a boundary it raises C_MISSING_HEADER (R64). -/
def cWord (s : State) (k : Nat → QEntry → Group → State) : Out :=
  match s.cur with
  | .grp gid e _ =>
    let g := s.grp gid
    .next (if g.clause.isNone then s.raiseCMask gid 0x102 0 0 e else k gid e g)
  | _ => .fault .noGroup

/-- The group waits with the word unissued (R320). -/
def cWait (s : State) (gid : Nat) (w : GWait) : State := s.updGrp gid (fun g => { g with wait := w })

/-- K constants that source fields pop, one for each that names 127 (R41). -/
def kCount (fs : List (BitVec 7)) : Nat := fs.count 127

/-- A C-word with its vector sources in the order a, b, c, d: it waits for its constants, then checks its type (R136). -/
def cAlu (fs : List (BitVec 7)) (ok : Nat → Bool) (s : State) (k : Nat → QEntry → Group → State) : Out :=
  cWord s (fun gid e g =>
    if g.kLive.length < kCount fs then cWait s gid .kqueue
    else if !ok (modeType g.mode) then s.raiseCMask gid 0x105 (w64 (modeType g.mode)) 0 e
    else k gid e g)

/-- A word of any type. -/
def anyType (_ : Nat) : Bool := true

/-- Lane l of source j of a word (R41). -/
def Group.src (g : Group) (fs : List (BitVec 7)) (j l : Nat) : W32 :=
  match fs[j]? with
  | none => 0
  | some x => if x = 127 then g.kLive.getD (kCount (fs.take j)) 0 else g.vget x.toNat l

/-- Uniform source j of a word (R134). -/
def Group.uni (g : Group) (fs : List (BitVec 7)) (j : Nat) : W32 := g.src fs j g.uniLane

/-- Lane numbers of a mask, lowest first. -/
def lanesOf (m : Lanes) : List Nat := (List.range 32).filter (fun l => m.getLsbD l)

/-- A mask from a test of each lane. -/
def maskOf (f : Nat → Bool) : Lanes := (List.range 32).foldl (fun m l => if f l then m ||| (1#32 <<< l) else m) 0

/-! ## Element types (R91) -/

/-- Float format of a type code. -/
def typeFmt (t : Nat) : Option Fmt :=
  match t with
  | 0 => some fp32
  | 1 => some bf16
  | 2 => some fp16
  | 9 => some f8e4
  | 10 => some f8e5
  | _ => none

/-- Integer format of a type code. -/
def typeInt (t : Nat) : Option IFmt :=
  match t with
  | 3 => some { w := 32, sg := true }
  | 4 => some { w := 32, sg := false }
  | 5 => some { w := 16, sg := true }
  | 6 => some { w := 16, sg := false }
  | 7 => some { w := 8, sg := true }
  | 8 => some { w := 8, sg := false }
  | _ => none

/-- Element width of a type code. -/
def typeW (t : Nat) : Nat := if t = 0 ∨ t = 3 ∨ t = 4 then 32 else if t = 1 ∨ t = 2 ∨ t = 5 ∨ t = 6 then 16 else 8

/-- The five float types. -/
def isFloat (t : Nat) : Bool := (typeFmt t).isSome
/-- FP32, BF16x2 and FP16x2. -/
def isWideFloat (t : Nat) : Bool := decide (t ≤ 2)
/-- The six integer types. -/
def isInt (t : Nat) : Bool := (typeInt t).isSome

/-- Element e of a word. -/
def elemOf (w : Nat) (x : W32) (e : Nat) : Nat := x.toNat / 2 ^ (w * e) % 2 ^ w

/-- Elements and flags of elements 0 to n − 1 put into a word. -/
def packElems (w n : Nat) (f : Nat → Nat × FFlags) : W32 × FFlags :=
  (List.range n).foldl (fun a e =>
    let r := f e
    (a.1 ||| BitVec.ofNat 32 (r.1 % 2 ^ w * 2 ^ (w * e)), a.2.or r.2)) (0, {})

/-- An element-wise result of a type (R136). -/
def mapElems (t : Nat) (f : Nat → Nat × FFlags) : W32 × FFlags := packElems (typeW t) (32 / typeW t) f

/-! ## Results (R100, R133) -/

/-- Every lane of a list is written to a vector register. -/
def Group.writeLanes (g : Group) (d : Nat) (l : List (Nat × W32)) : Group :=
  l.foldl (fun a x => a.vput d x.1 x.2) g

/-- The word would raise a flag and MODE.fptrap is 1 (R100). -/
def Group.fpTraps (g : Group) (f : FFlags) : Bool := modeTrap g.mode && !g.noTrap && f != {}

/-- A float word's per-lane results: C_FP with the lanes that raise a flag, or the destination and FPX (R100). -/
def cResult (s : State) (gid : Nat) (e : QEntry) (d : BitVec 7) (n : Nat) (f : Nat → W32 × FFlags) : State :=
  let g := s.grp gid
  let rs := (lanesOf g.lanes).map (fun l => (l, f l))
  let fl := rs.foldl (fun (a : FFlags) r => a.or r.2.2) {}
  if g.fpTraps fl then
    let bad := maskOf (fun l => rs.any (fun r => r.1 == l && r.2.2 != {}))
    s.raiseC gid { code := 0x106, lanes := bad, t4 := fl.bits.zeroExtend 64 } e
  else
    (s.setGrp gid { g.writeLanes d.toNat (rs.map (fun r => (r.1, r.2.1))) with fpx := g.fpx ||| fl.bits }).finish gid e n

/-- A word's per-lane results that raise no flag. -/
def cPlain (s : State) (gid : Nat) (e : QEntry) (d : BitVec 7) (n : Nat) (f : Nat → W32) : State :=
  let g := s.grp gid
  (s.setGrp gid (g.writeLanes d.toNat ((lanesOf g.lanes).map (fun l => (l, f l))))).finish gid e n

/-- A predicate from a test of each active lane; the bit of every other lane is 0 (R133). -/
def cPred (s : State) (gid : Nat) (e : QEntry) (p : BitVec 3) (n : Nat) (f : Nat → Bool) : State :=
  let g := s.grp gid
  (s.setGrp gid (g.pput p (maskOf (fun l => g.lanes.getLsbD l && f l)))).finish gid e n

end Sys2Proof.Machine
end

