-- ==== Sys2Proof/Machine/GroupCtl.lean ====
section
/-! DEFINITION. Machine/GroupCtl.lean: clause headers, predicates, divergence, loops and group control, major 11 and 15, and
the words that are no C instruction (R59 to R72, R149 to R159). -/

namespace Sys2Proof.Machine

/-! ## Clauses -/

/-- Position in its clause that a fault names: the first body word stands at 1 (R166). -/
def Clause.place (c : Clause) : Nat := c.pos + 1

/-- The next n live entries behind the head. -/
def Group.behind (g : Group) (n : Nat) : List QEntry := (g.live.drop 1).take n

/-- Every flag that a wait field names was 0 at the last core-clock edge (R59, R65, R388). -/
def Group.flagsClear (g : Group) (w : BitVec 12) : Bool :=
  (List.range 12).all (fun k => !w.getLsbD k || spGet g.edge.cf k == 0)

/-- A flag field as a flag, if it names one. -/
def flagName (f : BitVec 4) : Option Nat := if f.toNat ≤ 11 then some f.toNat else none

/-- A clause header (R59, R64 to R66): it waits for its body and its flags, and is then consumed with the issue of the
clause. Inside a clause it raises C_HEADER_IN_CLAUSE. -/
def execCClauseHeader (w : BitVec 12) (a b l : BitVec 4) (s : State) : Out :=
  match s.cur with
  | .grp gid e _ =>
    let g := s.grp gid
    let body := g.behind (l.toNat + 1)
    .next (match g.clause with
    | some c => s.raiseCMask gid 0x103 (w64 c.place) 0 e
    | none =>
      if body.length < l.toNat + 1 || !body.all (fun x => x.arrived s.clk) then cWait s gid .clause
      else if !g.flagsClear w then cWait s gid .flag
      else
        s.setGrp gid { g.consume e.word with
          wait := .ready, heldWord := none, heldCode := 0, skip := false
          clause := some { words := body, flagA := flagName a, flagB := flagName b, headerClk := e.at_ } })
  | _ => .fault .noGroup

/-- A word that is no C instruction (R63, R66, R71): a header's major in a clause raises C_HEADER_IN_CLAUSE, another major
at a boundary C_MISSING_HEADER, and the rest C_ILLEGAL: the encoding of REGION too, which no word of the emit family may
bear. -/
def execEIllegalCWord (v : W32) (s : State) : Out :=
  match s.cur with
  | .grp gid e _ =>
    let head := fieldOf v 28 4 == 15
    .next (match (s.grp gid).clause with
    | some c => if head then s.raiseCMask gid 0x103 (w64 c.place) 0 e else s.raiseCMask gid 0x101 0 0 e
    | none => s.raiseCMask gid (if head || v == 0xB000000C#32 then 0x101 else 0x102) 0 0 e)
  | _ => .fault .noGroup

/-! ## Predicates (R149) -/

/-- A whole-mask predicate word. -/
def cMask (d : BitVec 3) (f : Group → Lanes) (s : State) : Out :=
  cAlu [] anyType s (fun gid e g => (s.setGrp gid (g.pput d (f g))).finish gid e 0)

/-- PAND (R149). -/
def execCPand (d a b : BitVec 3) (s : State) : Out := cMask d (fun g => g.pget a &&& g.pget b) s
/-- POR (R149). -/
def execCPor (d a b : BitVec 3) (s : State) : Out := cMask d (fun g => g.pget a ||| g.pget b) s
/-- PXOR (R149). -/
def execCPxor (d a b : BitVec 3) (s : State) : Out := cMask d (fun g => g.pget a ^^^ g.pget b) s
/-- PNOT (R149). -/
def execCPnot (d a : BitVec 3) (s : State) : Out := cMask d (fun g => ~~~(g.pget a)) s
/-- PSET (R149). -/
def execCPset (d : BitVec 3) (a : BitVec 7) (s : State) : Out :=
  cAlu [a] anyType s (fun gid e g => (s.setGrp gid (g.pput d (g.uni [a] 0))).finish gid e (kCount [a]))
/-- PGET (R149). -/
def execCPget (d : BitVec 7) (p : BitVec 3) (s : State) : Out :=
  cAlu [] anyType s (fun gid e g => cPlain s gid e d 0 (fun _ => g.pget p))

/-! ## Divergence (R45, R48, R150) -/

/-- C_RECONV of a push or pop, which leaves the stack as it is (R45). -/
def reconv (s : State) (gid : Nat) (e : QEntry) : State :=
  s.raiseCMask gid 0x107 (w64 (s.grp gid).stack.length) 0 e

/-- A push or pop is folded into SIG after its word (R48). -/
def State.foldStack (s : State) (gid : Nat) (x : W32) : State := s.updGrp gid (fun g => { g with sig := sigFold g.sig x })

/-- IF (R150). -/
def execCIf (p : BitVec 3) (s : State) : Out :=
  cAlu [] anyType s (fun gid e g =>
    if 16 ≤ g.stack.length then reconv s gid e
    else
      let x := g.pget p
      ((s.setGrp gid { g with
        stack := { mask := g.active, mode := g.mode, els := g.active &&& ~~~x } :: g.stack
        active := g.active &&& x }).finish gid e 0).foldStack gid 0xFFFF0001#32)

/-- ELSE (R150). -/
def execCElse (s : State) : Out :=
  cAlu [] anyType s (fun gid e g =>
    match g.stack with
    | [] => reconv s gid e
    | t :: r => (s.setGrp gid { g with active := t.els, mode := t.mode, stack := { t with els := 0 } :: r }).finish gid e 0)

/-- ENDIF (R150). -/
def execCEndif (s : State) : Out :=
  cAlu [] anyType s (fun gid e g =>
    match g.stack with
    | [] => reconv s gid e
    | t :: r =>
      ((s.setGrp gid { g with active := t.mask, mode := t.mode, stack := r }).finish gid e 0).foldStack gid 0xFFFF0002#32)

/-! ## Loops (R151 to R153) -/

/-- REPEAT (R152): as the last word of its clause it has an empty body and only its own consumption. DESIGN CHOICE
(assumption 97): loop.start, of four bits, counts the words of the clause from 0. -/
def execCRepeat (a : BitVec 7) (s : State) : Out :=
  cAlu [a] anyType s (fun gid e g =>
    if g.loopOn then s.raiseCMask gid 0x108 1 0 e
    else
      match g.clause with
      | none => s
      | some c =>
        if c.words.length ≤ c.pos + 1 then s.finish gid e (kCount [a])
        else
          let n := fieldOf (g.uni [a] 0) 0 16
          (s.setGrp gid { g with
            loopOn := true, loopLeft := BitVec.ofNat 16 (max n 1 - 1), loopStart := BitVec.ofNat 4 (c.pos + 1)
            loopMask := g.active, loopDepth := BitVec.ofNat 5 g.stack.length
            active := if n = 0 then 0 else g.active }).finish gid e (kCount [a]))

/-- The lanes x leave the stack entries above a depth (R153); the top stands first. -/
def leaveStack (l : List Recon) (n : Nat) (x : Lanes) : List Recon :=
  match l, n with
  | e :: t, k + 1 => { e with mask := e.mask &&& ~~~x, els := e.els &&& ~~~x } :: leaveStack t k x
  | l, _ => l

/-- BRKIF (R153): once no lane is active, none comes back by an entry above the loop's depth before the pass ends. DESIGN CHOICE
(assumption 112): the entries at or below that depth stay as they are, so that an ELSE of one of them follows R150. -/
def execCBrkif (p : BitVec 3) (s : State) : Out :=
  cAlu [] anyType s (fun gid e g =>
    if !g.loopOn then s.raiseCMask gid 0x108 0 0 e
    else
      let x := g.active &&& g.pget p
      let act := g.active &&& ~~~x
      (s.setGrp gid { g with
        active := act
        stack := leaveStack g.stack (g.stack.length - g.loopDepth.toNat) (if act = 0 then BitVec.allOnes 32 else x)
        loopLeft := if act = 0 then 0 else g.loopLeft }).finish gid e 0)

/-! ## Control (R155 to R159) -/

/-- SETMODE (R155). -/
def execCSetmode (a : BitVec 7) (s : State) : Out :=
  cAlu [a] anyType s (fun gid e g =>
    let v := g.uni [a] 0
    if !modeOk v then s.raiseCMask gid 0x104 (v.zeroExtend 64) 0 e
    else (s.setGrp gid { g with mode := v }).finish gid e (kCount [a]))

/-- SIGCHK (R156). -/
def execCSigchk (s : State) : Out :=
  cAlu [127] anyType s (fun gid e g =>
    let v := g.uni [127] 0
    if v != g.sig then s.raiseCMask gid 0x10A (v.zeroExtend 64) (g.sig.zeroExtend 64) e else s.finish gid e 1)

/-- A group retires (R157): what stands behind it in its queue is discarded, and it drops out of its barriers. -/
def State.retireGroup (s : State) (gid : Nat) : State :=
  let tid := groupTeam gid
  let s1 := s.updGrp gid (fun g => { g with
    armed := false, clause := none, loopOn := false, wait := .ready, after := .ready
    queue := g.queue.filter (fun e => e.consumed) })
  (List.range (s.team tid).bars).foldl (fun a b =>
    a.putBar tid b (barRetire ((a.team tid).bar b) (gid % 16))) s1

/-- EXITG (R157). -/
def execCExitg (s : State) : Out :=
  cAlu [] anyType s (fun gid e g => ((s.setGrp gid { g with loopOn := false }).finish gid e 0).retireGroup gid)

/-- NOP (R158). -/
def execCNop (s : State) : Out := cAlu [] anyType s (fun gid e _ => s.finish gid e 0)

/-- TRAPG (R159). -/
def execCTrapg (a : BitVec 7) (s : State) : Out :=
  cAlu [a] anyType s (fun gid e g => s.raiseCMask gid 0x10B ((g.uni [a] 0).zeroExtend 64) 0 e)

end Sys2Proof.Machine
end

