-- ==== Sys2Proof/Machine/GroupMem.lean ====
section
/-! DEFINITION. Machine/GroupMem.lean: the long-latency C-words, majors 12 and 13, and their completion (R67, R68, R248 to
R268). -/

namespace Sys2Proof.Machine

/-! ## Flags and pending words (R67, R68, R249) -/

/-- The flag that the next long-latency word of the clause counts against (R68). -/
def Group.nextFlag (g : Group) : Option Nat :=
  match g.clause with
  | none => none
  | some c => if c.first then c.flagA else c.flagB.or c.flagA

/-- The flag would be taken to 64, as the last core-clock edge saw it (R67, R388). -/
def Group.flagFull (g : Group) : Bool :=
  match g.nextFlag with
  | some f => spGet g.edge.cf f == 63
  | none => false

/-- A flag up or down by 1. -/
def Group.addFlag (g : Group) (f : Option Nat) (x : BitVec 6) : Group :=
  match f with
  | some k => { g with cf := spSet g.cf k (spGet g.cf k + x) }
  | none => g

/-- A pending word of the group at turn, issued now. -/
def State.pendOf (s : State) (gid : Nat) (e : QEntry) (p : Pending) : Pending :=
  let g := s.grp gid
  { p with
    word := e.word, pc := e.pc, esn := g.wordEsn, flag := g.nextFlag, issued := s.clk
    scope := modeScope g.mode, promote := modePromote g.mode, asid := (s.team (groupTeam gid)).asid.toNat }

/-- A long-latency word issues: it counts against its flag and completes later. -/
def State.issueLong (s : State) (gid : Nat) (e : QEntry) (n : Nat) (p : Pending) : State :=
  let q := s.pendOf gid e p
  (s.updGrp gid (fun g =>
    let g1 := g.addFlag q.flag 1
    { g1 with pend := g1.pend ++ [q], clause := g1.clause.map (fun c => { c with first := false }) })).finish gid e n

/-! ## Reads that are performed (R217, R233) -/

/-- Bytes of a pending load's access. -/
def LongOp.size (o : LongOp) : Nat := match o with | .load n => n | _ => 4

/-- One lane's read of a pending load: the value, or none for poison. A GATHER without replicas is an LD (R263). -/
def State.readLane (s : State) (c lid : Nat) (op : LongOp) (a : LaneAcc) : State × Option Nat :=
  match op with
  | .gather fp =>
    if a.pas.length = 1 then one 4
    else
      match s.readCopies (coreDie c) (s.core c).hold [c, rdcOf c] a.pas a.os lid a.va with
      | (s1, none) => (s1, none)
      | (s1, some l) => (s1, some (sumCopies fp l))
  | _ => one op.size
where
  /-- The read of a single place. -/
  one (n : Nat) : State × Option Nat :=
    let pl := a.pas.headD 0
    match (s.touch c lid pl a.va).readAt c pl n a.os with
    | (s1, none) => (s1, none)
    | (s1, some b) => (s1, some (leNat b))

/-- A pending load is performed: an acquire first drops WT lines (R204), then every lane reads. -/
def State.perform (s : State) (gid : Nat) (p : Pending) : State × Pending :=
  if p.data.isSome then (s, p)
  else
    let c := teamCore (groupTeam gid)
    let s0 := if p.acquire then s.acquire c p.scope else s
    let r := p.accs.foldl (fun (a : State × List (Nat × W64) × Option W64 × Lanes) x =>
      match a.1.readLane c (s.team (groupTeam gid)).lid p.op x with
      | (s1, some v) => (s1, a.2.1 ++ [(x.lane, w64 v)], a.2.2.1, a.2.2.2)
      | (s1, none) => (s1, a.2.1, a.2.2.1.or (some x.va), a.2.2.2 ||| (1#32 <<< x.lane))) (s0, [], none, 0)
    (r.1, { p with data := some r.2.1, poison := r.2.2.1, bad := r.2.2.2 })

/-- Pending loads of a group are performed, oldest first, up to a test. -/
def State.performPend (s : State) (gid : Nat) (which : Pending → Bool) : State :=
  let r := (s.grp gid).pend.foldl (fun (a : State × List Pending) p =>
    if which p then
      let x := a.1.perform gid p
      (x.1, a.2 ++ [x.2])
    else (a.1, a.2 ++ [p])) (s, [])
  r.1.updGrp gid (fun g => { g with pend := r.2 })

/-- Every pending load of a group is performed, before an access that may not overtake it (R225, R233). -/
def State.performOwn (s : State) (gid : Nat) : State := s.performPend gid (fun _ => true)

/-- A pending acquire that a release of another group, or of another agent, may meet: its scope holds more than its own
group, or it is promoted (R222, R223, R229, R230, R239). -/
def Pending.meets (p : Pending) : Bool := p.acquire && (p.promote || p.scope != 0)

/-- Before a read: an acquire that is pending and may meet a release, and a pending load of a common location, are
performed first (R225, R239). -/
def State.performBefore (s : State) (gid : Nat) (pls : List Nat) : State :=
  let g := s.grp gid
  let hits (p : Pending) : Bool := p.data.isNone &&
    (p.meets || p.accs.any (fun a => a.pas.any (fun x => pls.any (fun y => x / 8 == y / 8))))
  if g.pend.any hits then s.performOwn gid else s

/-! ## Global accesses of the lanes (R248, R259) -/

/-- A lane that may go on: lane, address, places, home place, OS mode. -/
structure LaneOk where
  lane : Nat := 0
  va : W64 := 0
  pls : List Nat := []
  home : Nat := 0
  os : PageKind := {}
deriving DecidableEq, Repr, Inhabited

/-- A group parks at the word (R40, R176). -/
def State.parkC (s : State) (gid : Nat) (e : QEntry) (va code : W64) (lanes : Lanes) (pi : Bool) (base size : Nat) :
    State :=
  let s1 := s.updGrp gid (fun g => { g with
    wait := .parked, park := g.wordEsn ++ (0#30 ++ BitVec.ofBool pi ++ 1#1 : BitVec 32), heldWord := some e
    parkVa := va, parkCode := code, parkLanes := lanes, parkSeq := s.clk / 2, parkSince := s.now })
  s1.parkRecord (groupTeam gid) (.grp (gid % 16)) va pi base size

/-- The translations of some lanes' addresses. -/
def State.walkLanes (s : State) (c asid : Nat) (n : Need) (vas : List (Nat × W64)) : State × List (Nat × W64 × Walk) :=
  vas.foldl (fun (a : State × List (Nat × W64 × Walk)) x =>
    let r := a.1.translateCore c asid x.2 n
    (r.1, a.2 ++ [(x.1, x.2, r.2)])) (s, [])

/-- The lanes of a list as a mask. -/
def lanesIn {α : Type} (l : List (Nat × α)) : Lanes := maskOf (fun i => l.any (fun x => x.1 == i))

/-- The PTE of a permission outcome. -/
def Walk.denied (w : Walk) : Option W64 :=
  match w with
  | .perm e | .gone e => some e
  | _ => none

/-- The page that a lane parks on. -/
def Walk.parks (w : Walk) : Option (Bool × Nat × Nat) :=
  match w with
  | .park pi b z => some (pi, b, z)
  | _ => none

/-- The lane goes on. -/
def Walk.good (dev lane : Nat) (va : W64) (w : Walk) : Option LaneOk :=
  match w with
  | .ok e z => some { lane := lane, va := va, pls := placesOf dev e z va, home := homePlace dev e z va, os := pteKind e }
  | _ => none

/-- Checks 3 to 5 of R248 over the lanes; a probe leaves out the lanes whose pages are not there (R262). What reads waits for
a copy engine that owns a line (R204). -/
def State.cAccess (s : State) (gid : Nat) (e : QEntry) (vas : List (Nat × W64)) (z : Nat) (code : W64) (n : Need)
    (probe : Bool) (k : State → List LaneOk → State) : State :=
  let tid := groupTeam gid
  match vas.filter (fun x => x.2.toNat % 2 ^ z != 0) with
  | x :: t => s.raiseC gid { code := 0x10D, lanes := lanesIn (x :: t), t3 := x.2, t4 := code } e
  | [] =>
    let (s1, ws) := s.walkLanes (teamCore tid) (s.team tid).asid.toNat n vas
    match ws.filter (fun x => x.2.2.denied.isSome) with
    | x :: t =>
      s1.raiseC gid { code := 0x10E, lanes := lanesIn (x :: t), t3 := x.2.1, t4 := code
                      t5 := x.2.2.denied.getD 0 } e
    | [] =>
      match ws.filter (fun x => !probe && x.2.2.parks.isSome) with
      | x :: t =>
        let (pi, b, sz) := x.2.2.parks.getD (false, 0, 0)
        let same := (x :: t).filter (fun y => y.2.2.parks == some (pi, b, sz))
        s1.parkC gid e x.2.1 code (lanesIn same) pi b sz
      | [] =>
        match ws.filter (fun x => x.2.2 == .poison) with
        | x :: t => s1.raiseC gid { code := 0x110, lanes := lanesIn (x :: t), t3 := x.2.1, t4 := code } e
        | [] =>
          let ls := ws.filterMap (fun x => x.2.2.good (s1.die 0).devnum.toNat x.1 x.2.1)
          let pls := ls.flatMap (fun a => a.pls)
          if n.r && s1.engineOwns pls then cWait s1 gid .owned
          else if n.r && s1.hostWaits pls then cWait (s1.askHost pls) gid .room
          else k s1 ls

/-- An earlier acquire of the group is pending that is promoted and may not complete yet: a later access waits (R225, R230). -/
def State.promotePends (s : State) (gid : Nat) : Bool :=
  (s.grp gid).pend.any (fun p => p.acquire && p.promote && !p.dead &&
    !s.promoted (teamCore (groupTeam gid)) p.scope p.promote (p.accs.flatMap (fun a => a.pas)))

/-- A long-latency word with its vector sources: it waits for its constants, for its flag, and for a promoted acquire (R41, R67,
R230). -/
def cLong (fs : List (BitVec 7)) (s : State) (k : Nat → QEntry → Group → State) : Out :=
  cAlu fs anyType s (fun gid e g =>
    if g.flagFull then cWait s gid .flag else if s.promotePends gid then cWait s gid .room else k gid e g)

/-- A major-12 word (R259): source 0 holds the lanes' offsets. -/
def cGlobal (nb : BitVec 3) (fs : List (BitVec 7)) (z : Nat) (o : BitVec 2) (n : Need) (probe : Bool) (s : State)
    (k : Nat → QEntry → Group → W64 → State → List LaneOk → State) : Out :=
  cLong fs s (fun gid e g =>
    let vas := (lanesOf g.lanes).map (fun l => (l, g.base nb + (g.src fs 0 l).zeroExtend 64))
    let code := accCode z o.toNat n.w false false
    s.cAccess gid e vas z code n probe (fun s1 ls => k gid e g code s1 ls))

/-- Size code of LD and ST as bytes (R259): 0 word, 1 byte, 2 half. -/
def wordSize (s : BitVec 2) : Nat := if s = 1 then 0 else if s = 2 then 1 else 2

/-- The copy of a page that an agent of a core reads (R212). -/
def LaneOk.near (a : LaneOk) (c : Nat) : Nat := readPlace (coreDie c) a.pls

/-- A load issues: translated now, performed at its completion at the latest (R249, R251). -/
def loadC (nb : BitVec 3) (b d : BitVec 7) (z : Nat) (o : BitVec 2) (op : LongOp) (probe all : Bool) (s : State) : Out :=
  cGlobal nb [b] z o .load probe s (fun gid e _ code s1 ls =>
    let c := teamCore (groupTeam gid)
    let accs := ls.map (fun a =>
      ({ lane := a.lane, va := a.va, pas := if all then a.pls else [a.near c], os := a.os } : LaneAcc))
    let s2 := s1.performBefore gid (accs.flatMap (fun a => a.pas))
    s2.issueLong gid e (kCount [b]) { op := op, d := d, floor := 48, acquire := o.getLsbD 0, accs := accs, code := code })

/-- LD (R260). -/
def execCLd (d : BitVec 7) (z : BitVec 2) (n : BitVec 3) (b : BitVec 7) (o : BitVec 2) (s : State) : Out :=
  loadC n b d (wordSize z) o (.load (2 ^ wordSize z)) false false s
/-- LD64 (R260). -/
def execCLd64 (d : BitVec 7) (n : BitVec 3) (b : BitVec 7) (o : BitVec 2) (s : State) : Out :=
  loadC n b d 3 o (.load 8) false false s
/-- LDP (R262). -/
def execCLdp (d : BitVec 7) (p n : BitVec 3) (b : BitVec 7) (o : BitVec 2) (s : State) : Out :=
  loadC n b d 2 o (.probe p.toNat) true false s
/-- GATHER (R263). -/
def execCGather (d : BitVec 7) (t : BitVec 4) (n : BitVec 3) (b : BitVec 7) (o : BitVec 2) (s : State) : Out :=
  loadC n b d 2 o (.gather (t == 1)) false true s

/-- A hold-back entry of a group's stores (R216): they belong to the region that the group is in. -/
def State.holdC (s : State) (gid : Nat) (o : BitVec 2) : HoldEntry :=
  let g := s.grp gid
  let t := s.team (groupTeam gid)
  { order := o, scope := BitVec.ofNat 3 (modeScope g.mode), colour := modeColour g.mode, team := groupTeam gid
    lid := t.lid, agent := .grp (gid % 16), region := t.regCommitted, asid := t.asid.toNat }

/-- A store issues into hold-back, or waits for its entries; a release completes with its own stores' release completion
(R216, R249, R260, R434). -/
def storeC (nb : BitVec 3) (fs : List (BitVec 7)) (z : Nat) (l : BitVec 1) (o : BitVec 2) (val : Group → Nat → Nat)
    (s : State) : Out :=
  cGlobal nb fs z o .store false s (fun gid e g _ s1 ls =>
    let c := teamCore (groupTeam gid)
    let es := holdEntries (s1.holdC gid o) (ls.map (fun a =>
      { pls := if l = 1 then [a.near c] else a.pls, bytes := natLe (2 ^ z) (val g a.lane), os := a.os.os, va := a.va }))
    if s1.holdRoom c < es.length then cWait s1 gid .holdBack
    else
      let s2 := s1.performOwn gid
      (s2.holdPush c es).issueLong gid e (kCount fs)
        { op := .store (o.getLsbD 1) (modeScope g.mode), floor := 4, upTo := (s2.core c).hbSerial + es.length })

/-- Sources of a 64-bit operand: the pair, or two constants (R41, R42). -/
def pairOf (d : BitVec 7) : List (BitVec 7) := if d = 127 then [127, 127] else [d, d + 1]

/-- The 64-bit value of sources j and j + 1. -/
def Group.src64 (g : Group) (fs : List (BitVec 7)) (j l : Nat) : Nat :=
  (g.src fs j l).toNat + (g.src fs (j + 1) l).toNat * 2 ^ 32

/-- ST (R260). -/
def execCSt (d : BitVec 7) (l : BitVec 1) (z : BitVec 2) (n : BitVec 3) (b : BitVec 7) (o : BitVec 2) (s : State) : Out :=
  storeC n [b, d] (wordSize z) l o (fun g i => (g.src [b, d] 1 i).toNat) s
/-- ST64 (R260). -/
def execCSt64 (d : BitVec 7) (l : BitVec 1) (n : BitVec 3) (b : BitVec 7) (o : BitVec 2) (s : State) : Out :=
  storeC n (b :: pairOf d) 3 l o (fun g i => g.src64 (b :: pairOf d) 1 i) s

/-- Sources of an atomic behind its address: its value, and for CAS the new value from d + 1 (R261). -/
def amoSrc (d : BitVec 7) (p : BitVec 4) : List (BitVec 7) := if p = 9 then [d, d + 1] else [d]

/-- Value and compare value of an atomic in a lane, its sources standing from j on. -/
def Group.amoArgs (g : Group) (fs : List (BitVec 7)) (p : BitVec 4) (j l : Nat) : Nat × Nat :=
  if p = 9 then ((g.src fs (j + 1) l).toNat, (g.src fs j l).toNat) else ((g.src fs j l).toNat, 0)

/-- Lines of which an atomic that has waited for leases is attempted here (R258). -/
def GWait.leaseHere (w : GWait) : Option (List Nat) := match w with | .lease l _ => some l | _ => none

/-- The read half at a place would consume poison. -/
def State.readsPoison (s : State) (die pl : Nat) : Bool :=
  if isFar pl then (s.farRoute die pl).isNone || s.poison.contains (pl / 64) else !isMmio pl && s.readsBad pl

/-- AMO: it waits until hold-back holds no store of its team, is performed lane by lane at the homes, and seals the region
(R186, R256, R261). -/
def execCAmo (d : BitVec 7) (p : BitVec 4) (n : BitVec 3) (b : BitVec 7) (o : BitVec 2) (s : State) : Out :=
  let fs := b :: amoSrc d p
  cGlobal n fs 2 o .amo false s (fun gid e g code s1 ls =>
    let tid := groupTeam gid
    let c := teamCore tid
    let upTo := match g.wait with | .irrevocable u => u | _ => (s1.core c).hbSerial
    let places (a : LaneOk) : List Nat := a.home :: a.pls.filter (fun h => h != a.home)
    let pls := ls.flatMap places
    let here (x : State) (a : LaneOk) : Bool := x.tryHere c (places a) (g.wait == .owned) g.wait.leaseHere
    if s1.irrevocableWait c tid (o.getLsbD 1) (modeScope g.mode) upTo pls then cWait s1 gid (.irrevocable upTo)
    else if pls.any (fun p => s1.leaseBlocks c (p / 128)) then
      cWait (ls.foldl (fun x a => x.recallFor c (places a) (here s1 a)) s1) gid
        (.lease ((ls.filter (here s1)).map (fun a => a.home / 128)) (pls.map (· / 128)))
    else if !s1.egressRoom (coreDie c) pls ||
        (o.getLsbD 0 && !s1.promoted c (modeScope g.mode) (modePromote g.mode) pls) then cWait s1 gid .room
    else
      let s2 := s1.performOwn gid
      let s3 := if o.getLsbD 0 then s2.acquire c (modeScope g.mode) else s2
      let q : Pending := { op := .result false, d := d, floor := 48, code := code }
      let bad := ls.filter (fun a => s3.readsPoison (coreDie c) a.home)
      match bad with
      | a :: _ =>
        s3.issueLong gid e (kCount fs)
          { q with data := some [], poison := some a.va, bad := lanesIn (bad.map (fun x => (x.lane, ()))) }
      | [] =>
        let r := ls.foldl (fun (x : State × List (Nat × W64)) a =>
          let v := g.amoArgs fs p 1 a.lane
          let y := x.1.atomic c tid a.va (places a) 4 p.toNat v.1 v.2 a.os.os (here x.1 a)
          (y.1, x.2 ++ [(a.lane, w64 (y.2.getD 0))]))
          ((s3.noteRel c (modeScope g.mode) (o.getLsbD 1) pls).seal tid, [])
        r.1.issueLong gid e (kCount fs) { q with data := some r.2 })

/-! ## Scratchpad words (R198, R264 to R268) -/

/-- Checks 2 and 3 of R248 for the lanes' offsets in the share. -/
def cScratch (s : State) (gid : Nat) (e : QEntry) (offs : List (Nat × Nat)) (z : Nat) (code : W64) (k : Team → State) :
    State :=
  let t := s.team (groupTeam gid)
  match offs.filter (fun x => decide (t.share ≤ x.2)) with
  | x :: l => s.raiseC gid { code := 0x111, lanes := lanesIn (x :: l), t3 := w64 x.2, t4 := code, t5 := w64 t.share } e
  | [] =>
    match offs.filter (fun x => x.2 % 2 ^ z != 0) with
    | x :: l => s.raiseC gid { code := 0x10D, lanes := lanesIn (x :: l), t3 := w64 x.2, t4 := code } e
    | [] => k t

/-- A scratchpad word's offsets: two sources added modulo 2^32 (R264). -/
def Group.offsets (g : Group) (a b : Nat → W32) : List (Nat × Nat) :=
  (lanesOf g.lanes).map (fun l => (l, (a l + b l).toNat))

/-- Poison that the read half of a word would consume (R456). -/
def cPoison (s : State) (gid : Nat) (e : QEntry) (t : Team) (offs : List (Nat × Nat)) (n : Nat) (code : W64) (k : State) :
    State :=
  match offs.filter (fun x => t.rangePoisoned x.2 n) with
  | x :: l => s.raiseC gid { code := 0x110, lanes := lanesIn (x :: l), t3 := w64 x.2, t4 := code } e
  | [] => k

/-- A word of major 13 but AMOS and XST: sources a, b and then the data. -/
def cShare (fs : List (BitVec 7)) (z : Nat) (store : Bool) (s : State)
    (k : Nat → QEntry → Group → W64 → Team → List (Nat × Nat) → State) : Out :=
  cLong fs s (fun gid e g =>
    let offs := g.offsets (g.src fs 0) (g.src fs 1)
    let code := accCode z 0 store false true
    cScratch s gid e offs z code (fun t => k gid e g code t offs))

/-- A scratchpad read, after the pending acquires of its group: the data are taken at issue, the registers written at
completion (R225, R249, R266). -/
def readShare (d a b : BitVec 7) (z : Nat) (s : State) : Out :=
  cShare [a, b] z false s (fun gid e _ code t offs =>
    cPoison s gid e t offs (2 ^ z) code
      ((s.performBefore gid []).issueLong gid e (kCount [a, b])
        { op := .result (z == 3), d := d, floor := 8, code := code
          data := some (offs.map (fun x => (x.1, w64 (t.spRead x.2 (2 ^ z))))) }))

/-- LDS (R264). -/
def execCLds (d a b : BitVec 7) (s : State) : Out := readShare d a b 2 s
/-- LDS64 (R264). -/
def execCLds64 (d a b : BitVec 7) (s : State) : Out := readShare d a b 3 s

/-- A scratchpad store, lanes in ascending order, after the pending loads of its group (R225, R233); f says what a lane does
to the share. -/
def writeShare (fs : List (BitVec 7)) (z : Nat) (f : Group → Team → Nat → Nat → Team) (s : State) : Out :=
  cShare fs z true s (fun gid e g _ t offs =>
    ((s.performOwn gid).setTeam (groupTeam gid) (offs.foldl (fun x o => f g x o.1 o.2) t)).issueLong gid e (kCount fs)
      { op := .plain, floor := 8 })

/-- STS (R264). -/
def execCSts (d a b : BitVec 7) (s : State) : Out :=
  writeShare [a, b, d] 2 (fun g t l o => t.spWrite o (natLe 4 (g.src [a, b, d] 2 l).toNat)) s
/-- STS64 (R264). -/
def execCSts64 (d a b : BitVec 7) (s : State) : Out :=
  writeShare ([a, b] ++ pairOf d) 3 (fun g t l o => t.spWrite o (natLe 8 (g.src64 ([a, b] ++ pairOf d) 2 l))) s
/-- STSF (R264). -/
def execCStsf (d a b : BitVec 7) (s : State) : Out :=
  writeShare [a, b, d] 2 (fun g t l o => (t.spWrite o (natLe 4 (g.src [a, b, d] 2 l).toNat)).setTag o true) s
/-- SPTAG (R264). -/
def execCSptag (d a b : BitVec 7) (s : State) : Out :=
  writeShare [a, b, d] 2 (fun g t l o => t.setTag o ((g.src [a, b, d] 2 l).getLsbD 0)) s

/-- The lowest lane whose tag is not as it needs, each lane seeing the changes of lower ones (R265). -/
def tagBlock (t : Team) (full change : Bool) (offs : List (Nat × Nat)) : Option Nat :=
  match offs with
  | [] => none
  | x :: l => if t.spFull x.2 != full then some x.2
              else tagBlock (if change then t.setTag x.2 (!full) else t) full change l

/-- LDSF and LDSFK: every lane needs a full tag, and LDSF leaves it empty (R264, R265). -/
def takeShare (keep : Bool) (d a b : BitVec 7) (s : State) : Out :=
  cShare [a, b] 2 false s (fun gid e _ code t offs =>
    match tagBlock t true (!keep) offs with
    | some o => cWait s gid (.tag o true)
    | none =>
      cPoison s gid e t offs 4 code
        (let t1 := if keep then t else offs.foldl (fun x o => x.setTag o.2 false) t
         ((s.performOwn gid).setTeam (groupTeam gid) t1).issueLong gid e (kCount [a, b])
          { op := .result false, d := d, floor := 8, code := code
            data := some (offs.map (fun x => (x.1, w64 (t.spRead x.2 4)))) }))

/-- LDSF (R264). -/
def execCLdsf (d a b : BitVec 7) (s : State) : Out := takeShare false d a b s
/-- LDSFK (R264). -/
def execCLdsfk (d a b : BitVec 7) (s : State) : Out := takeShare true d a b s

/-- STSE: every lane needs an empty tag (R264, R265). -/
def execCStse (d a b : BitVec 7) (s : State) : Out :=
  cShare [a, b, d] 2 true s (fun gid e g _ t offs =>
    match tagBlock t false true offs with
    | some o => cWait s gid (.tag o false)
    | none =>
      let t1 := offs.foldl (fun x o => (x.spWrite o.2 (natLe 4 (g.src [a, b, d] 2 o.1).toNat)).setTag o.2 true) t
      ((s.performOwn gid).setTeam (groupTeam gid) t1).issueLong gid e (kCount [a, b, d]) { op := .plain, floor := 8 })

/-- AMOS: atomics on the share, lanes in ascending order, tags unchanged (R268). -/
def execCAmos (d : BitVec 7) (p : BitVec 4) (a : BitVec 3) (b : BitVec 7) (s : State) : Out :=
  let fs := b :: amoSrc d p
  cLong fs s (fun gid e g =>
    let offs := g.offsets (g.vget a.toNat) (g.src fs 0)
    let code := accCode 2 0 true false true
    cScratch s gid e offs 2 code (fun t =>
      cPoison s gid e t offs 4 code
        (let r := offs.foldl (fun (x : Team × List (Nat × W64)) o =>
            let v := g.amoArgs fs p 1 o.1
            let old := x.1.spRead o.2 4
            let t1 := match amoNew p.toNat 32 old v.1 v.2 with
              | some y => x.1.spWrite o.2 (natLe 4 y)
              | none => x.1
            (t1, x.2 ++ [(o.1, w64 old)])) (t, [])
         ((s.performOwn gid).setTeam (groupTeam gid) r.1).issueLong gid e (kCount fs)
          { op := .result false, d := d, floor := 8, code := code, data := some r.2 })))

/-! ## Exchange stores (R200, R267) -/

/-- Gang-relative indexes that a target word names, or none if it is malformed or leaves the gang. -/
def xstTargets (g : Gang) (x : W32) : Option (List Nat) :=
  if x.getLsbD 31 then
    let ox := fieldOf x 0 5
    let oy := fieldOf x 5 5
    let w := 2 ^ fieldOf x 10 3
    let h := 2 ^ fieldOf x 13 3
    if fieldOf x 16 15 = 0 ∧ ox % w = 0 ∧ oy % h = 0 ∧ ox + w ≤ g.w ∧ oy + h ≤ g.h then
      some ((List.range (w * h)).map (fun i => (oy + i / w) * g.w + ox + i % w))
    else none
  else if fieldOf x 10 21 = 0 ∧ fieldOf x 0 10 < g.w * g.h then some [fieldOf x 0 10]
  else none

/-- An exchange store of a word joins the entry of its line, unless a later entry of the line has other targets. -/
def xstJoin (d : HoldEntry) (l : List HoldEntry) (tids : List Nat) (off : Nat) (bs : List Byte) : List HoldEntry :=
  let key := tids.map (fun t => (t, off / 128 * 128))
  let meets (h : HoldEntry) : Bool := h.xst.any (fun x => key.contains x)
  match l.zipIdx.reverse.find? (fun x => meets x.1) with
  | some (h, i) =>
    if h.xst = key then l.set i { h with bytes := kvBytes h.bytes (off % 128) bs }
    else l ++ [{ d with xst := key, bytes := kvBytes [] (off % 128) bs }]
  | none => l ++ [{ d with xst := key, bytes := kvBytes [] (off % 128) bs }]

/-- XST (R267): through hold-back, once that holds no store of its team; it seals the region. DESIGN CHOICE (assumption
101): where some lanes fail C_SCRATCH and others name a retired peer, both of check 2, C_SCRATCH is reported. -/
def execCXst (d a b : BitVec 7) (s : State) : Out :=
  let fs := [a, b, d]
  cLong fs s (fun gid e g =>
    let tid := groupTeam gid
    let t := s.team tid
    let c := teamCore tid
    let code := accCode 2 0 true false true
    let ls := lanesOf g.lanes
    let off (l : Nat) : W32 := g.src fs 1 l
    let stop (cause : Nat) (x t5 : Nat) (bad : List Nat) : State :=
      s.raiseC gid { code := cause, lanes := lanesIn (bad.map (fun y => (y, ()))), t3 := (off x).zeroExtend 64
                     t4 := code, t5 := w64 t5 } e
    match t.gang, ls with
    | none, x :: _ => stop 0x112 x 0 ls
    | gk, _ =>
      let gang := s.gang (gk.getD 0)
      let tg (l : Nat) : Option (List Nat) := xstTargets gang (g.src fs 0 l)
      match ls.filter (fun l => (tg l).isNone || decide (gang.xwin ≤ (off l).toNat)) with
      | x :: r => stop 0x111 x t.share (x :: r)
      | [] =>
        match ls.filter (fun l => ((tg l).getD []).any (fun p => gang.known.contains (t.gangIdx, p))) with
        | x :: r => stop 0x112 x 1 (x :: r)
        | [] =>
          match ls.filter (fun l => (off l).toNat % 4 != 0) with
          | x :: r => stop 0x10D x 0 (x :: r)
          | [] =>
            let es := ls.foldl (fun l i =>
              xstJoin { s.holdC gid 0 with gang := gk.getD 0 } l (((tg i).getD []).map (fun p => gang.tids.getD p 0)) (off i).toNat
                (natLe 4 (g.src fs 2 i).toNat)) []
            if (s.core c).hold.any (fun h => h.team == tid) then cWait s gid (.irrevocable 0)
            else if s.holdRoom c < es.length then cWait s gid .holdBack
            else
              (((s.performOwn gid).seal tid).holdPush c es).issueLong gid e (kCount fs) { op := .plain, floor := 4 })

/-! ## Completion (R249) -/

/-- The registers a completed word writes. -/
def Group.writeBack (g : Group) (p : Pending) : Group :=
  let ds := p.data.getD []
  let pair (wide : Bool) : Group :=
    ds.foldl (fun a x =>
      let b := a.vput p.d.toNat x.1 (x.2.extractLsb' 0 32)
      if wide then (if p.d = 127 then b else b.vput (p.d.toNat + 1) x.1 (x.2.extractLsb' 32 32)) else b) g
  match p.op with
  | .load n => pair (n == 8)
  | .gather _ => pair false
  | .result w => pair w
  | .probe q => { pair false with p := spSet (pair false).p q (lanesIn ds) }
  | _ => g

/-- A pending word may complete: its floor has passed, and release completion holds for a releasing store (R249), or what a
promoted acquire waits for (R230). -/
def State.mayComplete (s : State) (gid : Nat) (p : Pending) : Bool :=
  decide (p.issued + p.floor ≤ s.clk) &&
    (match p.op with
     | .store true scope => p.dead || s.relDone (teamCore (groupTeam gid)) scope p.upTo
     | _ => p.dead || !p.acquire ||
         s.promoted (teamCore (groupTeam gid)) p.scope p.promote (p.accs.flatMap (fun a => a.pas)))

/-- A pending word completes: it writes its registers and its flag falls; poison raises C_POISON and writes no lane; a word
that a rollback abandoned writes nothing (R47, R248, R249). -/
def State.completeC (s : State) (gid i : Nat) : State :=
  match (s.grp gid).pend[i]? with
  | none => s
  | some p0 =>
    if !s.mayComplete gid p0 then s
    else
      let r := if p0.dead || !p0.accs.any (fun _ => true) then (s, p0) else s.perform gid p0
      let p := r.2
      let s0 := if p.acquire && !p.dead then r.1.acquire (teamCore (groupTeam gid)) p.scope else r.1
      let s1 := s0.updGrp gid (fun g => ({ g with pend := g.pend.eraseIdx i }.addFlag p.flag (-1)))
      if p.dead then s1
      else
        match p.poison with
        | some va => s1.raiseLate gid { code := 0x110, lanes := p.bad, t3 := va, t4 := p.code } p.esn p.pc p.word
        | none => s1.updGrp gid (fun g => g.writeBack p)

end Sys2Proof.Machine
end

