-- ==== Sys2Proof/Machine/Park.lean ====
section
/-! DEFINITION. Machine/Park.lean: what becomes of parked agents: replay, UNMAPPED, and the wake of a TLBI (R40, R176, R177,
R325, R368). -/

namespace Sys2Proof.Machine

/-- Order of an agent among those that parked in one core clock: the generator, then the groups (R177). -/
def Agent.order (a : Agent) : Nat := match a with | .gen => 0 | .grp g => g + 1 | .mat => 17

/-- An agent of a team is parked: its address, whether its page is pending-invalid, and its order of parking. -/
def State.parkOf (s : State) (tid : Nat) (a : Agent) : Option (W64 × Bool × Nat) :=
  match a with
  | .gen =>
    let c := s.ctx tid
    if c.wait = .parked then some (c.parkVa, c.parkPi, c.parkSeq) else none
  | .grp g =>
    let k := s.grp (groupId tid g)
    if k.wait = .parked then some (k.parkVa, k.park.getLsbD 1, k.parkSeq) else none
  | .mat => none

/-- Agents of a team that are parked on addresses that pass a test, in the order in which they parked (R177). -/
def State.parkedAgents (s : State) (tid : Nat) (p : W64 → Bool → Bool) : List Agent :=
  let all := (Agent.gen :: (List.range (s.team tid).groups).map Agent.grp).filterMap (fun a =>
    match s.parkOf tid a with
    | some (va, pi, n) => if p va pi then some (n * 32 + a.order, a) else none
    | none => none)
  let rec sortIn (l : List (Nat × Agent)) (n : Nat) : List Agent :=
    match n with
    | 0 => []
    | k + 1 =>
      match leastBy (fun x => [x.1]) l with
      | some x => x.2 :: sortIn (l.erase x) k
      | none => []
  sortIn all all.length

/-- A parked agent is unparked and replays its access in its turn (R177). -/
def State.unpark (s : State) (tid : Nat) (a : Agent) : State :=
  let s1 := match a with
    | .gen => s.updCtx tid (fun c => { c.setPark false with wait := .ready })
    | .grp g => s.updGrp (groupId tid g) (fun k => { k with wait := .ready, park := 0 })
    | .mat => s
  s1.updTeam tid (fun t => { t with replay := t.replay.erase a ++ [a] })

/-- The page of a parked agent is gone: UNMAPPED at the parked word, for the access as it parked (R177). -/
def State.unmapped (s : State) (tid : Nat) (a : Agent) : State :=
  match a with
  | .gen =>
    let c := s.ctx tid
    (s.setCtx tid { c.setPark false with wait := .ready }).raiseG tid
      { code := 0xC, t3 := c.parkVa, t4 := c.parkCode } c.parkWord
  | .grp g =>
    let gid := groupId tid g
    let k := s.grp gid
    match k.heldWord with
    | some e =>
      (s.setGrp gid { k with wait := .ready, park := 0 }).raiseC gid
        { code := 0x10F, lanes := k.parkLanes, t3 := k.parkVa, t4 := k.parkCode } e
    | none => s
  | .mat => s

/-- An address lies on a page. -/
def onPage (base size : Nat) (va : W64) : Bool := decide (base ≤ va.toNat) && decide (va.toNat < base + size)

/-- The reply to a team's PARK record (R173, R176, R177): it releases all that is then parked on the page. -/
def State.answerPark (s : State) (tid base size reply : Nat) : State :=
  if !s.hasTeam tid then s
  else
    let s1 := s.updTeam tid (fun t => { t with asked := t.asked.erase (base, size) })
    let l := s1.parkedAgents tid (fun va pi => !pi && onPage base size va)
    if 2 ≤ reply then s1.kill tid 6
    else if reply = 1 then l.foldl (fun a x => if a.hasTeam tid then a.unmapped tid x else a) s1
    else l.foldl (fun a x => a.unpark tid x) s1

/-! ## The wake (R368) -/

/-- A page of an address overlaps a range; the page's own size decides (R367). -/
def inRange (base len : Nat) (pbase psize : Nat) : Bool := decide (pbase < base + len) && decide (base < pbase + psize)

/-- An agent that was parked on a pending-invalid page walks again: it replays, stays parked, or takes UNMAPPED; the flag
says whether it was released (R368). -/
def State.rewalkAgent (s0 : State) (tid : Nat) (a : Agent) : State × Bool :=
  match s0.parkOf tid a with
  | none => (s0, false)
  | some (va, _, _) =>
    let s := s0.walked (coreDie (teamCore tid)) (s0.team tid).asid.toNat va
    match s0.walk (coreDie (teamCore tid)) (s0.team tid).asid.toNat va {} with
    | .gone _ => (s.unmapped tid a, true)
    | .park true _ _ => (s, false)
    | .park false b z =>
      let s1 := match a with
        | .gen => s.updCtx tid (fun c => { c with parkPi := false })
        | .grp g => s.updGrp (groupId tid g) (fun k => { k with park := k.park &&& ~~~2#64 })
        | .mat => s
      (s1.askPage tid a va b z, false)
    | _ => (s.unpark tid a, true)

/-- The page, of any size, on which a pending-invalid walk of an address ends lies in a range (R367). -/
def State.piIn (s : State) (die asid : Nat) (va : W64) (base len : Nat) : Bool :=
  match s.walk die asid va {} with
  | .park _ b z => inRange base len b z
  | _ => inRange base len (va.toNat / 65536 * 65536) 65536

/-- A supervisor or prologue context that is parked walks again. -/
def State.rewalkSolo (s0 : State) (id : Nat) : State × Bool :=
  let c := s0.ctx id
  let asid := if upperHalf c.parkVa then 0 else s0.asidOf id
  let s := s0.walked (ctxDie id) asid c.parkVa
  match s0.walk (ctxDie id) asid c.parkVa {} with
  | .gone _ =>
    ((s.setCtx id { c.setPark false with wait := .ready }).raiseG id { code := 0xC, t3 := c.parkVa, t4 := c.parkCode } c.parkWord,
      true)
  | .park true _ _ => (s, false)
  | .park false b z => ((s.setCtx id { c with wait := .ready }).parkG id c.parkWord c.parkVa c.parkCode false b z, false)
  | _ => (s.setCtx id { c.setPark false with wait := .ready }, true)

/-- The teams of a die in an address space. -/
def State.teamsOn (s : State) (die asid : Nat) : List Nat :=
  (s.teams.filter (fun e => coreDie (teamCore e.1) == die && e.2.asid.toNat == asid)).map (fun e => e.1)

/-- A walk again from a pending-invalid page of a range no longer ends there: the agent is released (R368). -/
def State.freed (s : State) (die asid base len pbase psize : Nat) : Bool :=
  inRange base len pbase psize &&
    (match s.walk die asid (w64 pbase) {} with | .park true _ _ => false | _ => true)

/-- A copy engine's operation that is held by the range is released. -/
def State.freesOp (s : State) (die asid base len e : Nat) (o : CopyOp) : Bool :=
  e / 8 == die && o.asid == asid && o.heldPi &&
    (match o.held with | some (b, z) => s.freed die asid base len b z | none => false)

/-- A completion signal that waits for a page of the range is released. -/
def State.freesSignal (s : State) (die asid base len : Nat) (l : Launch) : Bool :=
  l.lastDie == die && l.asid == asid &&
    (match l.stage with | .signalWait b z true => s.freed die asid base len b z | _ => false)

/-- A lane that waits for a page of the range is released. -/
def State.freesLane (s : State) (die asid base len : Nat) (p : Pewter) (l : Lane) : Bool :=
  match l.wait with
  | .page true va _ z => (kvGet {} p.queues l.q).asid == asid && s.freed die asid base len (va.toNat / z * z) z
  | _ => false

/-- The wake reaches the agents of a die that are not parked contexts or groups: Pewter's lanes, held copies and
completion signals try their walks again (R274, R325, R458), and are counted; a held inbound request does so of itself
(R407). -/
def State.wakeOthers (s : State) (die asid base len : Nat) : State × Nat :=
  let ops := (s.engines.flatMap (fun e => e.2.filter (s.freesOp die asid base len e.1))).length
  let sigs := (s.launches.filter (fun e => s.freesSignal die asid base len e.2)).length
  let s1 := { s with
    engines := kvMap (fun e l => l.map (fun o => if s.freesOp die asid base len e o then
      { o with heldPi := false, held := none, rewalk := o.held } else o)) s.engines
    launches := kvMap (fun _ l => if s.freesSignal die asid base len l then { l with stage := .signal } else l) s.launches }
  if die < 8 then (s1, ops + sigs)
  else
    let p := s.pewter (die - 8)
    let free (l : Lane) : Bool := s.freesLane die asid base len p l
    (s1.updPewter (die - 8) (fun q => { q with lanes := kvMap (fun _ l => if free l then { l with wait := .none } else l) q.lanes }),
      ops + sigs + (p.lanes.filter (fun e => free e.2)).length)

/-- TLBI of kind 3 (R368): agents of the die parked on a pending-invalid page of the range walk again; the number is that
of those released. -/
def State.wake (s : State) (die asid base len : Nat) : State × Nat :=
  let step (x : State × Nat) (r : State × Bool) : State × Nat := (r.1, x.2 + bitN r.2)
  let one (x : State × Nat) (tid : Nat) : State × Nat :=
    (x.1.parkedAgents tid (fun va pi => pi && x.1.piIn die asid va base len)).foldl (fun y a =>
      if y.1.hasTeam tid then step y (y.1.rewalkAgent tid a) else y) x
  let solo := (s.ctxs.filter (fun e => !isTeamCtx e.1 && ctxDie e.1 == die && e.2.wait == .parked && e.2.parkPi &&
    (if upperHalf e.2.parkVa then 0 else s.asidOf e.1) == asid && s.piIn die asid e.2.parkVa base len)).map (fun e => e.1)
  let r := solo.foldl (fun x id => step x (x.1.rewalkSolo id)) ((s.teamsOn die asid).foldl one (s, 0))
  let q := r.1.wakeOthers die asid base len
  (q.1, r.2 + q.2)

end Sys2Proof.Machine
end

