-- ==== Sys2Proof/Machine/Super.lean ====
section
/-! DEFINITION. Machine/Super.lean: the words of supervisor contexts, major 0x1D: TLBI, SENDM, RECVM, WFI and SWAPT (R131,
R357, R358, R367, R368, R386). -/

namespace Sys2Proof.Machine

/-- A word of major 0x1D: G_PRIV outside a supervisor context (R58, R71). -/
def gSup (use : List (BitVec 6)) (s : State) (k : Nat → W32 → Ctx → State) : Out :=
  gWord use s (fun id w c => if isSup id then k id w c else s.raiseG id { code := 0x2 } w)

/-! ## TLBI (R367, R368) -/

/-- The operands of a TLBI. -/
structure TlbiArg where
  kind : Nat
  asid : Nat
  base : Nat
  len : Nat
  drain : Bool
  flush : Bool
deriving DecidableEq, Repr, Inhabited

/-- The operands as R367 reads them: bits [56:16] of the base name a canonical address (R208). -/
def tlbiArg (a b : W64) : TlbiArg :=
  { kind := fieldOf b 16 2, asid := fieldOf b 0 16
    base := ((a.extractLsb' 0 57).signExtend 64).toNat / 65536 * 65536
    len := max (fieldOf b 32 16) 1 * 65536, drain := b.getLsbD 18, flush := b.getLsbD 19 }

/-- The operation reaches a page of an address space. -/
def TlbiArg.hits (r : TlbiArg) (asid base size : Nat) : Bool :=
  match r.kind with
  | 0 => asid == r.asid && inRange r.base r.len base size
  | 1 => asid == r.asid
  | _ => true

/-- A cache without the entries that an operation reaches. -/
def TlbiArg.drop (r : TlbiArg) (l : List Tlb) : List Tlb := l.filter (fun t => !r.hits t.asid t.base t.size)

/-- Step 2: the caches of a die drop the matching entries. -/
def State.dropTlbs (s : State) (die : Nat) (r : TlbiArg) : State :=
  let s1 := s.updDie die (fun d => { d with
    l2tlb := kvMap (fun _ l => r.drop l) d.l2tlb, cetlb := kvMap (fun _ l => r.drop l) d.cetlb, ats := r.drop d.ats })
  { s1 with cores := kvMap (fun c k => if coreDie c = die then { k with tlb := r.drop k.tlb } else k) s1.cores }

/-- A line lies in a copy of a page (R212). -/
def pageHolds (dev : Nat) (e : W64) (z line : Nat) : Bool :=
  (placesOf dev e z 0).any (fun p => decide (p ≤ line * 128) && decide (line * 128 < p + z))

/-- Lines that a flush drops (R368 step 3): for a range, those of the frames that it maps; else every line that the die
holds, a superset of the address space's (assumption 19). -/
def State.flushes (s : State) (die : Nat) (r : TlbiArg) (old : List Tlb) (line : Nat) : Bool :=
  match r.kind with
  | 0 =>
    let dev := (s.die 0).devnum.toNat
    old.any (fun t => pageHolds dev t.pte t.size line) ||
      (List.range (r.len / 65536)).any (fun i =>
        match s.leafOf die r.asid (w64 (r.base + i * 65536)) with
        | some (e, z) => pageHolds dev e z line
        | none => false)
  | _ => true

/-- Step 3: lines of the range leave the die's L1s and RDCs, a dirty one written back to its home; the package directory
forgets the die (R368, R375). -/
def State.flushLines (s : State) (die : Nat) (r : TlbiArg) (old : List Tlb) : State :=
  let gone (k : Copy) : Bool := cacheDie k.cache == die && s.flushes die r old k.line
  let ls := (s.copies.filter gone).map (fun k => k.line)
  { s with
    copies := s.copies.filter (fun k => !gone k)
    dir := kvMap (fun l e => if ls.contains l then e.leave die else e) s.dir }

/-- Every translation that a die's caches hold. -/
def State.tlbsOf (s : State) (die : Nat) : List Tlb :=
  let d := s.die die
  d.l2tlb.flatMap (fun e => e.2) ++ d.cetlb.flatMap (fun e => e.2) ++ d.ats
    ++ (s.cores.filter (fun e => coreDie e.1 == die)).flatMap (fun e => e.2.tlb)

/-- Die of the unit that a source tag names (R218): a core, a supervisor or prologue context, an engine, a lane, or a distributor. -/
def unitDie (u : Nat) : Nat :=
  if u < 1024 then coreDie u
  else if u < 16384 then ctxDie (u - 2048)
  else if u < 20480 then (u - 16384) / 8
  else if u < 24576 then 8 + (u - 20480) / 64
  else u - 24576

/-- Step 4: an access of a die that was translated at a clock or before, on a page that may be of the range (assumption
19), has not been performed yet; a write that leaves the device is performed as it leaves egress quarantine. -/
def State.undrained (s : State) (die : Nat) (r : TlbiArg) (since : Nat) : Bool :=
  let hits (asid : Nat) (va : W64) : Bool := r.hits asid (va.toNat / 2 ^ 30 * 2 ^ 30) (2 ^ 30)
  s.cores.any (fun e => coreDie e.1 == die && e.2.hold.any (fun h =>
    h.xst.isEmpty && decide (h.issued ≤ since) && hits h.asid h.va)) ||
  s.groups.any (fun e => coreDie (e.1 / 64) == die && e.2.pend.any (fun p =>
    p.data.isNone && decide (p.issued ≤ since) && p.accs.any (fun a => hits p.asid a.va))) ||
  (decide (8 ≤ die) && (s.iod (die - 8)).inbound.any (fun x =>
    !x.dest.isEmpty && decide (x.done.length < x.dest.length) && decide (x.since ≤ since) &&
      (List.range x.dest.length).any (fun k => hits x.asid (s.inVa (die - 8) x + w64 (x.part k).1)))) ||
  [0, 1].any (fun i => (s.iod i).outgoing.any (fun e => !e.left && decide (e.at_ ≤ since) && unitDie e.unit == die))

/-- Caches that acknowledge (R368 step 5). -/
def State.acks (s : State) (die : Nat) : Nat :=
  if 8 ≤ die then 9
  else 20 + ((List.range 1024).filter (fun c => coreDie c == die && !s.absent c)).length

/-- TLBI (R367, R368). A supervisor's earlier stores are at their homes already (assumption 15). -/
def execGTlbi (d a b : BitVec 6) (s : State) : Out :=
  gSup [d, a, b] s (fun id _ c =>
    let die := ctxDie id
    let r := tlbiArg (c.get a) (c.get b)
    let fin (t : State) : State := t.updCtx id (fun c => (c.put d (w64 (t.acks die))).done)
    if r.kind = 3 then
      let x := s.wake die r.asid r.base r.len
      x.1.updCtx id (fun c => (c.put d (w64 x.2)).done)
    else
      match c.wait with
      | .tlbi since => if s.undrained die r since then s else fin s
      | _ =>
        let old := (s.tlbsOf die).filter (fun t => r.hits t.asid t.base t.size)
        let s1 := s.dropTlbs die r
        let s2 := if r.flush then s1.flushLines die r old else s1
        if r.drain && s2.undrained die r s.clk then gStall s2 id (.tlbi s.clk) else fin s2)

/-! ## Tombac messages (R304, R323, R357, R358) -/

/-- A message from the 64 bytes of a sender, which gives all but the sender and the sequence number. -/
def Message.ofBytes (b : List Byte) : Message :=
  let dw (i : Nat) : W64 := w64 (leNat ((b.drop (8 * i)).take 8))
  { dw0 := dw 0, sender := dw 1, seq := dw 2, payload := [dw 3, dw 4, dw 5, dw 6, dw 7] }

/-- The 64 bytes of a message. -/
def Message.bytes (m : Message) : List Byte :=
  ([m.dw0, m.sender, m.seq] ++ m.payload).flatMap (fun x => natLe 8 x.toNat)

/-- Instances of the module that a message addresses: those of its mask whose die has not failed. -/
def State.receivers (s : State) (m : Message) : List Nat :=
  (List.range 10).filter (fun d => m.dw0.getLsbD d && !(s.die d).hole)

/-- An nb word of major 0x1D that cannot complete: c[n] := 0, or the context waits (R340, R358). -/
def gNoMessage (s : State) (id : Nat) (c : Ctx) (z : BitVec 1) (n : BitVec 3) : State :=
  if c.actsNb z then s.setCtx id ((c.setCond n false).done) else gStall s id .message

/-- The checks of R248 for a 64-byte access of a supervisor context. -/
def State.msgAccess (s : State) (id : Nat) (w : W32) (va : W64) (store : Bool) : GAcc :=
  let code := accCode 3 0 store false false
  if va.toNat % 64 != 0 then .stop (s.raiseG id { code := 0xA, t3 := va, t4 := code } w)
  else s.gAccess id w va 6 code (if store then .store else .load)

/-- The mask of a message selects an instance; absent and failed dies of the module do not count (R357). -/
def State.selects (s : State) (m : Message) : Bool :=
  if m.dw0.getLsbD 38 then fieldOf m.dw0 0 10 != 0 else !(s.receivers m).isEmpty

/-- SENDM (R358); a message whose mask selects no instance completes unsent (R357). One to another device is a release at SYS:
the context's earlier stores to others have left quarantine first (R237). -/
def execGSendm (a : BitVec 6) (z : BitVec 1) (n : BitVec 3) (s : State) : Out :=
  gSup [a] s (fun id w c =>
    let va := c.get a
    match s.msgAccess id w va false with
    | .stop s1 => s1
    | .ok s1 pls _ pk =>
      match s1.ctxRead id (readPlace (ctxDie id) pls) 64 pk with
      | (s2, none) => s2.raiseG id { code := 0xD, t3 := va, t4 := accCode 3 0 false false false } w
      | (s2, some b) =>
        let m := Message.ofBytes b
        if !s2.selects m then gPushed s2 id c z n
        else if m.dw0.getLsbD 38 && !s2.egressPast (2048 + id) then gStall s2 id .room
        else if 8 ≤ (s2.sends.filter (fun e => e.1 == id)).length then gNoMessage s2 id c z n
        else gPushed { s2 with sends := s2.sends ++ [(id, s2.clk, m)] } id c z n)

/-- RECVM (R358). -/
def execGRecvm (d a : BitVec 6) (z : BitVec 1) (n : BitVec 3) (s : State) : Out :=
  gSup [d, a] s (fun id w c =>
    let va := c.get a
    let die := ctxDie id
    match s.msgAccess id w va true with
    | .stop s1 => s1
    | .ok s1 pls _ pk =>
      match (s1.die die).recv with
      | [] => gNoMessage s1 id c z n
      | m :: rest =>
        if !s1.egressRoom die pls then gStall s1 id .room else
        let s2 := s1.updDie die (fun x => { x with recv := rest })
        let s3 := s2.performAll die [] (pls.map (· / 128)) (kvBytes [] (va.toNat % 128) m.bytes) pk.os (2048 + id) 8191 false
        gPushed (s3.updCtx id (fun k => k.put d m.seq)) id c z n)

/-! ## WFI and SWAPT -/

/-- Reasons for which a WFI wakes (R131). -/
def State.wfiMask (s : State) (die : Nat) (dl : W64) : W64 :=
  w64 (bitN (!(s.die die).recv.isEmpty) + 2 * bitN (!(s.die die).fq.isEmpty)
    + 4 * bitN (dl != 0 && decide (dl.toNat ≤ s.now)))

/-- WFI (R131). -/
def execGWfi (d a : BitVec 6) (s : State) : Out :=
  gSup [d, a] s (fun id _ c =>
    let m := s.wfiMask (ctxDie id) (c.get a)
    if m = 0 then s.setCtx id { c with wait := .wake, deadline := c.get a }
    else s.setCtx id ((c.put d m).done))

/-- SWAPT (R386). A cancel where no request stands has no stated code: its value is free (assumption 8). DESIGN CHOICE
(assumption 120): where several codes apply, the first of 4, 1, 2, 3, then the cancel's 6, then 5. -/
def execGSwapt (d a : BitVec 6) (s : State) : Out :=
  gSup [d, a] s (fun id _ c =>
    let x := c.get a
    let core := fieldOf x 0 10
    let tid := core * 4 + fieldOf x 10 2
    let t := s.team tid
    let ask (l : Life) (code : Nat) : State :=
      (s.setTeam tid { t with life := l }).setCtx id ((c.put d (w64 code)).done)
    let say (code : Nat) : State := s.setCtx id ((c.put d (w64 code)).done)
    if coreDie core ≠ ctxDie id then say 4
    else if !s.hasTeam tid then say 1
    else if t.gang.isSome then say 2
    else if t.swapArea = 0 then say 3
    else if x.getLsbD 63 then
      (if t.life = .swapAsked true then ask .running 6 else s.used.setCtx id ((c.put d s.free).done))
    else if t.life ≠ .running then say 5
    else ask (.swapAsked true) 0)

end Sys2Proof.Machine
end

