-- ==== Sys2Proof/Machine/GenBarrier.lean ====
section
/-! DEFINITION. Machine/GenBarrier.lean: the generator's barrier and gang-barrier words, major 0x1B (R389 to R398). -/

namespace Sys2Proof.Machine


/-- A barrier word of a context that may name the barrier: its team has it (R389, R455). -/
def gBar (b : BitVec 5) (use : List (BitVec 6)) (s : State) (k : Nat → W32 → Ctx → State) : Out :=
  gWord use s (fun id w c =>
    if !isTeamCtx id || decide ((s.team id).bars ≤ b.toNat) then s.raiseG id { code := 0x1 } w else k id w c)

/-- G_BARRIER_OVER with its barrier and arrived mask (R166). -/
def overFault (b : Nat) (arrived : Nat) : GFault := { code := 0xE, t4 := w64 b, t5 := w64 arrived }

/-- BARINIT (R395). -/
def execGBarinit (b : BitVec 5) (a : BitVec 6) (s : State) : Out :=
  gBar b [a] s (fun id w c =>
    let x := (s.team id).bar b.toNat
    let m := fieldOf (c.get a) 0 18
    if barArrived x ≠ 0 then s.raiseG id (overFault b.toNat (barArrived x)) w
    else
      match (List.range 16).find? (fun g => m.testBit g && !s.groupOk id g) with
      | some g => s.raiseG id (s.groupFault id g) w
      | none => (s.putBar id b.toNat (barMk m 0 0 (barPhase x))).setCtx id (c.done))

/-- An arrival of the generator (R390); k says what follows it. -/
def gArrive (b : BitVec 5) (drop : Bool) (s : State) (k : Nat → Ctx → State → State) : Out :=
  gBar b [] s (fun id w c =>
    let x := (s.team id).bar b.toNat
    if barMay x 16 then k id c (s.putBar id b.toNat (barArrive x 16 drop))
    else s.raiseG id (overFault b.toNat (barArrived x)) w)

/-- BARARV (R390). -/
def execGBararv (b : BitVec 5) (s : State) : Out := gArrive b false s (fun id c t => t.setCtx id (c.done))

/-- BARDROP (R390). -/
def execGBardrop (b : BitVec 5) (s : State) : Out := gArrive b true s (fun id c t => t.setCtx id (c.done))

/-- BARWAIT (R392). -/
def execGBarwait (b : BitVec 5) (a : BitVec 6) (s : State) : Out :=
  gBar b [a] s (fun id _ c =>
    let ph := (c.get a).getLsbD 0
    if barPhase ((s.team id).bar b.toNat) = ph then s.setCtx id (c.done)
    else gStall s id (.barrier b.toNat ph false))

/-- BARAW (R394): an arrival, then a wait for NOT phase as it stood then; once it has arrived it only waits. -/
def execGBaraw (b : BitVec 5) (s : State) : Out :=
  let await (id : Nat) (c : Ctx) (ph : Bool) (t : State) : State :=
    t.setCtx id { c with wait := .barrier b.toNat ph false, arrived := some (b.toNat, ph) }
  gBar b [] s (fun id w c =>
    let x := (s.team id).bar b.toNat
    match c.arrived with
    | some (_, ph) => if barPhase x = ph then s.setCtx id c.done else await id c ph s
    | none =>
      if barMay x 16 then await id c (!barPhase x) (s.putBar id b.toNat (barArrive x 16 false))
      else s.raiseG id (overFault b.toNat (barArrived x)) w)

/-! ## Gang barriers (R396 to R398) -/

/-- A gang-barrier word of a context whose team is in a gang (R397, R455). -/
def gGang (s : State) (use : List (BitVec 6)) (k : Nat → W32 → Ctx → Nat → State) : Out :=
  gWord use s (fun id w c =>
    match (if isTeamCtx id then (s.team id).gang else none) with
    | none => s.raiseG id { code := 0x1 } w
    | some g => k id w c g)

/-- GBARINIT, of gang-relative team 0 (R397): every team that has not retired is a member. -/
def execGGbarinit (b : BitVec 3) (s : State) : Out :=
  gGang s [] (fun id w c g =>
    let (_, a, _, ph) := (s.gang g).bar b.toNat
    if (s.team id).gangIdx ≠ 0 then s.raiseG id { code := 0x1 } w
    else if a ≠ 0 then s.raiseG id (overFault (b.toNat + 256) a) w
    else
      let live := s.teams.filter (fun e => e.2.gang == some g)
      let s1 := s.updGang g (fun x => { x with gb := kvSet x.gb b.toNat (live.length, 0, 0, ph) })
      let join (t : Team) : Team :=
        if t.gang = some g then { t with gbMember := natAdd t.gbMember b.toNat, gbArrived := natDel t.gbArrived b.toNat }
        else t
      ({ s1 with teams := kvMap (fun _ t => join t) s1.teams }).setCtx id (c.done))

/-- GBARARV and GBARDROP (R398): a REGION with its faults and waits, and then the wait for the arrival that follows its
commit. A word that owes its arrival already waits on; a later one waits until that has been made (assumption 18). -/
def gGangArrive (b : BitVec 3) (drop : Bool) (s : State) : Out :=
  gGang s [] (fun id w c _ =>
    match (s.team id).gbOwed with
    | some o => if o.left then gStall s id .region else gStall s id (.gangRegion o.gb o.drop)
    | none =>
      match s.regionTry id w with
      | (s1, false) => s1
      | (s1, true) =>
        let o : GbOwed :=
          { gb := b.toNat, drop := drop, word := w, pc := c.pc, region := (s1.team id).regIssued
            upTo := (s1.core (teamCore id)).hbSerial }
        (s1.updTeam id (fun t => { t with gbOwed := some o })).updCtx id (fun k =>
          { k with wait := .gangRegion b.toNat drop }))

/-- G_BARRIER_OVER at an arrival: its word is the faulting one, or, where a trap has taken the context from it, its record
is offered (R390, R398). -/
def State.gangOver (s : State) (tid : Nat) (o : GbOwed) : State :=
  let f := overFault (o.gb + 256) (match (s.team tid).gang with | some g => ((s.gang g).bar o.gb).2.1 | none => 0)
  if !o.left then s.raiseG tid f o.word
  else if (s.ctx tid).trapen then (s.fire (ctxDie tid) 0).offer tid (f.toRec o.pc o.word)
  else (s.fire (ctxDie tid) 0).levelTwo tid (f.toRec o.pc o.word)

/-- The arrival that a team owes, once the region has committed and, a release at DIE scope or wider, every earlier store
of its core has left (R236, R398): over-arrival is tested now, and the word has executed. -/
def State.gangArrival (s : State) (tid : Nat) : State :=
  let t := s.team tid
  match t.gbOwed with
  | some o =>
    if o.region ≤ t.regCommitted ∧ s.holdPast (teamCore tid) o.upTo then
      let s1 := s.setTeam tid { t with gbOwed := none }
      if !t.gbMember.contains o.gb || t.gbArrived.contains o.gb then s1.gangOver tid o
      else
        let s2 := match (s.ctx tid).wait with
          | .gangRegion _ _ => (s1.updCtx tid (fun c => c.done)).count (teamCore tid) 14
          | _ => s1
        s2.gbArrive tid o.gb o.drop
    else s
  | none => s

/-- GBARARV (R397). -/
def execGGbararv (b : BitVec 3) (s : State) : Out := gGangArrive b false s
/-- GBARDROP (R397). -/
def execGGbardrop (b : BitVec 3) (s : State) : Out := gGangArrive b true s

/-- GBARWAIT (R397): its completion is an acquire at gang scope (R204, R231). -/
def execGGbarwait (b : BitVec 3) (a : BitVec 6) (s : State) : Out :=
  gGang s [a] (fun id _ c g =>
    let (_, _, _, p) := (s.gang g).bar b.toNat
    let ph := (c.get a).getLsbD 0
    if p = ph then (s.dropWt (teamCore id)).setCtx id (c.done) else gStall s id (.barrier b.toNat ph true))

end Sys2Proof.Machine
end

