-- ==== Sys2Proof/Machine/GroupSync.lean ====
section
/-! DEFINITION. Machine/GroupSync.lean: return queue, votes, barriers, fences and monitors of a group, major 14 (R269 to
R272, R351, R352, R389 to R394). -/

namespace Sys2Proof.Machine

/-! ## Return queue and votes -/

/-- The doubleword of a PUSHG (R351). -/
def pushValue (g : Group) (a b : BitVec 7) : W64 := g.uni [a, b] 1 ++ g.uni [a, b] 0

/-- A doubleword enters the group's return queue, a release at CORE (R231, R351). -/
def State.pushRet (s : State) (gid : Nat) (x : W64) : State :=
  (s.performOwn gid).updGrp gid (fun g =>
    { g with rq := g.rq ++ [{ val := x, pushed := (s.team (groupTeam gid)).regCommitted }] })

/-- PUSHG (R351). -/
def execCPushg (a b : BitVec 7) (s : State) : Out :=
  cAlu [a, b] anyType s (fun gid e g =>
    if 16 ≤ g.rq.length then cWait s gid .returnQueue
    else (s.pushRet gid (pushValue g a b)).finish gid e (kCount [a, b]))

/-- PUSHG.NB: the predicate says whether the doubleword found a place (R351). -/
def execCPushgNb (p : BitVec 3) (a b : BitVec 7) (s : State) : Out :=
  cAlu [a, b] anyType s (fun gid e g =>
    if 16 ≤ g.rq.length then (s.setGrp gid (g.pput p 0)).finish gid e (kCount [a, b])
    else
      ((s.pushRet gid (pushValue g a b)).updGrp gid (fun k => k.pput p (BitVec.allOnes 32))).finish gid e
        (kCount [a, b]))

/-- VOTE: 0 ALL, 1 ANY, 2 UNI over the active lanes (R352). -/
def execCVote (d a : BitVec 3) (o : BitVec 2) (s : State) : Out :=
  cAlu [] anyType s (fun gid e g =>
    let x := g.pget a &&& g.lanes
    let holds := if o = 0 then x == g.lanes else if o = 1 then x != 0 else x == 0 || x == g.lanes
    cPred s gid e d 0 (fun _ => holds))

/-! ## Barriers (R389 to R394) -/

/-- A barrier word of a group: it names a barrier of its team, and waits for the group's long-latency words (R389, R394). -/
def cBar (b : BitVec 5) (fs : List (BitVec 7)) (s : State) (k : Nat → QEntry → Group → State) : Out :=
  cWord s (fun gid e g =>
    if (s.team (groupTeam gid)).bars ≤ b.toNat then s.raiseCMask gid 0x101 0 0 e
    else if g.kLive.length < kCount fs then cWait s gid .kqueue
    else if !g.pend.isEmpty then cWait s gid .flag
    else k gid e g)

/-- An arrival of a group (R390); k says what follows it, from the phase as it stood. -/
def cArrive (b : BitVec 5) (drop : Bool) (s : State) (k : Nat → Bool → State → State) : Out :=
  cBar b [] s (fun gid e _ =>
    let tid := groupTeam gid
    let x := (s.team tid).bar b.toNat
    if barMay x (gid % 16) then
      k gid (barPhase x) ((s.finish gid e 0).putBar tid b.toNat (barArrive x (gid % 16) drop))
    else s.raiseCMask gid 0x10C (w64 b.toNat) (w64 (barArrived x)) e)

/-- A group waits, its word issued, until a barrier's phase has a value (R392). -/
def State.waitPhase (s : State) (gid b : Nat) (ph : Bool) : State :=
  if barPhase ((s.team (groupTeam gid)).bar b) = ph then s else s.updGrp gid (fun g => g.waitNext (.barrier b ph))

/-- BARARV (R390). -/
def execCBararv (b : BitVec 5) (s : State) : Out := cArrive b false s (fun _ _ t => t)
/-- BARDROP (R390). -/
def execCBardrop (b : BitVec 5) (s : State) : Out := cArrive b true s (fun _ _ t => t)
/-- BARWAIT (R392). -/
def execCBarwait (n : BitVec 5) (b : BitVec 7) (s : State) : Out :=
  cBar n [b] s (fun gid e g => (s.finish gid e (kCount [b])).waitPhase gid n.toNat ((g.uni [b] 0).getLsbD 0))
/-- BARAW (R394). -/
def execCBaraw (b : BitVec 5) (s : State) : Out := cArrive b false s (fun gid ph t => t.waitPhase gid b.toNat (!ph))

/-! ## FENCE (R228, R269) -/

/-- A C FENCE has completed: its stores, copies and M-words, and with IO the group's stores to registers (R228, R236,
R269). -/
def State.fenceC (s : State) (gid : Nat) : Bool :=
  let g := s.grp gid
  let tid := groupTeam gid
  let c := teamCore tid
  match g.wait with
  | .fence order scope eng stores copies mws =>
    let left := (!(order.testBit 1) || s.fenceStores c tid (.grp (gid % 16)) scope (modeFence g.mode) stores) &&
      s.fenceSeen c (BitVec.ofNat 2 order) eng stores
    let io := s.fenceIo c tid (.grp (gid % 16)) eng stores
    let ce := !(eng.testBit 0) || s.engines.all (fun e => e.2.all (fun o =>
      match o.by_ with
      | .ctx i _ => i != tid || o.gone || decide (copies ≤ o.serial)
      | _ => true))
    let mx := !(eng.testBit 1) || decide (mws ≤ (s.team tid).mDone)
    left && io && ce && mx
  | _ => false

/-- A group whose FENCE has completed goes on; an acquire at DIE or wider drops WT lines (R204, R269). -/
def State.endFence (s : State) (gid : Nat) : State :=
  if s.fenceC gid then
    let s1 := match (s.grp gid).wait with
      | .fence order scope _ _ _ _ => if order.testBit 0 then s.acquire (teamCore (groupTeam gid)) scope else s
      | _ => s
    s1.updGrp gid (fun g => { g with wait := .ready })
  else s

/-- FENCE (R269): issued, it keeps the group not ready until it completes. -/
def execCFence (o : BitVec 2) (s : State) : Out :=
  cAlu [] anyType s (fun gid e g =>
    let upTo := (s.core (teamCore (groupTeam gid))).hbSerial
    let w := GWait.fence o.toNat (modeScope g.mode) (modeEngines g.mode) upTo e.mark e.mws
    (((s.performOwn gid).finish gid e 0).updGrp gid (fun k => k.waitNext w)).endFence gid)

/-! ## Monitors and batches (R271, R272) -/

/-- MONW: the group waits, its word unissued, until a read differs from the expected value (R271). A slot on another device is
armed once its home has done so, and the read follows (R379). -/
def execCMonw (d : BitVec 7) (n : BitVec 3) (b : BitVec 7) (s : State) : Out :=
  cAlu [b, d] anyType s (fun gid e g =>
    let c := teamCore (groupTeam gid)
    let va := g.base n + (g.uni [b, d] 0).zeroExtend 64
    let code := accCode 2 0 false false false
    if s.arming g.monitor then cWait s gid .room else
    s.cAccess gid e [(g.uniLane, va)] 2 code .load false (fun s1 ls =>
      match ls with
      | [] => s1
      | a :: _ =>
        let s2 := s1.performBefore gid [a.near c]
        match (s2.touch c (s.team (groupTeam gid)).lid (a.near c) va).readAt c (a.near c) 4 a.os with
        | (s3, none) => s3.raiseC gid { code := 0x110, lanes := 1#32 <<< a.lane, t3 := va, t4 := code } e
        | (s3, some x) =>
          let line := a.home / 128
          if leNat x ≠ (g.uni [b, d] 1).toNat then
            ((s3.disarm g.monitor).updGrp gid (fun k => { k with monitor := none })).finish gid e (kCount [b, d])
          else if g.monitor.isNone && decide (16 ≤ s3.waiters c) then cWait s3 gid (.monRetry (s3.clk + 512))
          else if g.monitor.any (fun m => m.line == line && m.src.isSome) then
            s3.updGrp gid (fun k => { k with wait := .monitor, monitor := k.monitor.map (fun m => { m with src := none }) })
          else
            let far := isPeerLine line
            let m : Monitor := { line := line, die := coreDie c, src := if far then some s3.opSerial else none }
            let s4 := (s3.disarm g.monitor).arm line m.die m.src
            let s5 : State := { s4 with opSerial := if far then s4.opSerial + 1 else s4.opSerial }
            s5.updGrp gid (fun k => { k with wait := if far then .room else .monitor, monitor := some m })))

/-- MWAITB (R272). -/
def execCMwaitb (a : BitVec 7) (s : State) : Out :=
  cAlu [a] anyType s (fun gid e g =>
    let b := fieldOf (g.uni [a] 0) 0 10
    if (s.team (groupTeam gid)).batchDone b then s.finish gid e (kCount [a]) else cWait s gid (.batch b))

end Sys2Proof.Machine
end

