-- ==== Sys2Proof/Machine/Timers.lean ====
section
/-! DEFINITION. Machine/Timers.lean: what comes about inside a core without a word: stores leaving hold-back, commits,
GSETB entries, completions, wake-ups, deadlines, leases and gang notices (R46, R131, R184, R217, R249, R267, R270, R271, R321,
R350, R379 to R382, R398, R414). -/

namespace Sys2Proof.Machine

/-- HOLD_BACK_LEAVE: the oldest entry of core a leaves, or has the leases recalled that keep it (R217, R380). -/
def execEHoldBackLeave (s : State) : Out :=
  match s.cur with
  | .event x =>
    .next (if s.mayLeave x.a then s.leave x.a
      else match (s.core x.a).hold with
        | h :: _ => s.recall x.a h.lines
        | [] => s)
  | _ => .next s

/-- REGION_COMMIT of team a (R184), and the gang arrival that it may let go on (R398). -/
def execERegionCommit (s : State) : Out :=
  match s.cur with
  | .event x => .next (if s.mayCommit x.a then (s.commit x.a).gangArrival x.a else s)
  | _ => .next s

/-- A GSETB entry at the head of the queue of a group at a boundary: its base register and value (R46, R64). -/
def Group.gsetbAtHead (g : Group) (clk : Nat) : Option (Nat × W64) :=
  match g.clause, g.wait, g.head with
  | none, .ready, some e =>
    match e.kind with
    | .gsetb n => if e.arrived clk then some (n, e.val) else none
    | _ => none
  | _, _, _ => none

/-- The entry at the head is applied, and retained (R46, R185). -/
def Group.applyGsetb (g : Group) (clk : Nat) : Group :=
  match g.gsetbAtHead clk with
  | some (n, v) => { g with ab := spSet g.ab n v, queue := consumeHead g.queue }
  | none => g

/-- GSETB_APPLY of group a. -/
def execEGsetbApply (s : State) : Out :=
  match s.cur with
  | .event x =>
    .next (if s.hasTeam (groupTeam x.a) ∧ ((s.grp x.a).gsetbAtHead s.clk).isSome then
        s.updGrp x.a (fun g => g.applyGsetb s.clk)
      else s)
  | _ => .next s

/-- C_MEMORY_COMPLETE of pending word b of group a (R249). -/
def execECMemoryComplete (s : State) : Out :=
  match s.cur with
  | .event x => .next (s.completeC x.a x.b)
  | _ => .next s

/-! ## Monitors and deadlines (R131, R270, R271, R350, R379) -/

/-- A waiter slot whose line gives three hashes is woken. -/
def Monitor.wake (dev : Nat) (m : Monitor) (h : Nat × Nat × Nat) : Monitor :=
  if lineHash dev m.line = h then { m with woken := true } else m

/-- A waiter slot is woken by three hashes. -/
def wokenBy (dev : Nat) (m : Option Monitor) (h : Nat × Nat × Nat) : Bool :=
  match m with
  | some x => lineHash dev x.line == h
  | none => false

/-- A context's slot is woken. -/
def Ctx.wakeBy (dev : Nat) (c : Ctx) (h : Nat × Nat × Nat) : Ctx :=
  if wokenBy dev c.monitor h then
    { c with monitor := c.monitor.map (fun m => m.wake dev h), wait := if c.wait = .monitor then .ready else c.wait }
  else c

/-- A group's slot is woken. -/
def Group.wakeBy (dev : Nat) (g : Group) (h : Nat × Nat × Nat) : Group :=
  if wokenBy dev g.monitor h then
    { g with monitor := g.monitor.map (fun m => m.wake dev h), wait := if g.wait = .monitor then .ready else g.wait }
  else g

/-- Cores with a waiter slot that three hashes wake. -/
def State.wokenCores (s : State) (h : Nat × Nat × Nat) : List Nat :=
  let dev := (s.die 0).devnum.toNat
  let a := (s.ctxs.filter (fun e => isTeamCtx e.1 && wokenBy dev e.2.monitor h)).map (fun e => e.1 / 4)
  let b := (s.groups.filter (fun e => wokenBy dev e.2.monitor h)).map (fun e => e.1 / 64)
  (a ++ b).eraseDups

/-- A write's hashes reach every core (R379): its waiter slots on such lines are woken, and what it reads of them next comes
from their homes. -/
def State.wakeMonitors (s : State) (h : Nat × Nat × Nat) : State :=
  let cs := s.wokenCores h
  let dev := (s.die 0).devnum.toNat
  let stale (k : Copy) : Bool := !k.os && lineHash dev k.line == h && cs.any (fun c => k.cache == c || k.cache == rdcOf c)
  { s with
    ctxs := kvMap (fun _ c => c.wakeBy dev h) s.ctxs, groups := kvMap (fun _ g => g.wakeBy dev h) s.groups
    copies := s.copies.filter (fun k => !stale k) }

/-- MONITOR_WAKE: wake-up b on its way from die a; with flag the three hashes in val arrive from another device, for a line
that has its home there (R379). -/
def execEMonitorWake (s : State) : Out :=
  match s.cur with
  | .event x =>
    .next (if x.flag then s.wakeMonitors (fieldOf x.val 0 12, fieldOf x.val 12 12, fieldOf x.val 24 12)
      else match (s.die x.a).wakes[x.b]? with
    | some h => (s.updDie x.a (fun d => { d with wakes := delAt d.wakes x.b })).wakeMonitors h
    | none => s)
  | _ => .next s

/-- MONW_RETRY of group a: 256 core clocks without a free slot are over (R271). -/
def execEMonwRetry (s : State) : Out :=
  match s.cur with
  | .event x =>
    .next (match (s.grp x.a).wait with
    | .monRetry t => if t ≤ s.clk then s.updGrp x.a (fun g => { g with wait := .ready }) else s
    | _ => s)
  | _ => .next s

/-- A context's deadline has passed. -/
def Ctx.late (c : Ctx) (now : Nat) : Bool := c.deadline != 0 && decide (c.deadline.toNat ≤ now)

/-- MWAITA_DEADLINE of context a (R270). -/
def execEMwaitaDeadline (s : State) : Out :=
  match s.cur with
  | .event x =>
    .next (if (s.ctx x.a).wait = .monitor ∧ (s.ctx x.a).late s.now then s.updCtx x.a (fun c => { c with wait := .ready })
      else s)
  | _ => .next s

/-- WFI_DEADLINE of context a (R131). -/
def execEWfiDeadline (s : State) : Out :=
  match s.cur with
  | .event x =>
    .next (if (s.ctx x.a).wait = .wake ∧ (s.ctx x.a).late s.now then s.updCtx x.a (fun c => { c with wait := .ready }) else s)
  | _ => .next s

/-- A YIELD is not held by a pre-emption of its team (R350). -/
def State.yieldFree (s : State) (id : Nat) : Bool := !isTeamCtx id || (s.team id).life == .running

/-- YIELD_TIMEOUT of context a: 8 fabric clocks have passed (R350). -/
def execEYieldTimeout (s : State) : Out :=
  match s.cur with
  | .event x =>
    .next (if (s.ctx x.a).wait = .yield ∧ (s.ctx x.a).yieldEnd ≤ s.clk ∧ s.yieldFree x.a then
        s.updCtx x.a (fun c => { c with wait := .ready }) else s)
  | _ => .next s

/-! ## Readiness and gating (R321, R414) -/

/-- GROUP_OVERDUE of group a: ready for 224 open core clocks without a break (R321). -/
def execEGroupOverdue (s : State) : Out :=
  match s.cur with
  | .event x => .next (if 224 < (s.grp x.a).readyFor then s.updGrp x.a (fun k => { k with overdue := true }) else s)
  | _ => .next s

/-! ## Leases (R380 to R382) -/

/-- LEASE_EXPIRY: core a stops using its lease of line b. -/
def execELeaseExpiry (s : State) : Out :=
  match s.cur with
  | .event x =>
    .next (match kvFind (s.core x.a).leases x.b with
    | some t => if t ≤ s.now then s.updCore x.a (fun k => { k with leases := kvDel k.leases x.b }) else s
    | none => s)
  | _ => .next s

/-- LEASE_VOID: the home voids the lease of line a, 250 ns after its expiry or when it has been recalled. -/
def execELeaseVoid (s : State) : Out :=
  match s.cur with
  | .event x =>
    .next (match kvFind s.leases x.a with
    | some (_, t, recalled) =>
      if recalled ∨ t + 250 < s.now then
        s.recallNow x.a []
      else s
    | none => s)
  | _ => .next s

/-! ## Gangs (R267, R398) -/

/-- GANG_EXIT_NOTICE: the core of index b in gang a learns that peer c has retired (R267). -/
def execEGangExitNotice (s : State) : Out :=
  match s.cur with
  | .event x =>
    .next (if (kvFind (s.gang x.a).retired x.c).isSome && !(s.gang x.a).known.contains (x.b, x.c) then
        s.updGang x.a (fun g => { g with known := g.known ++ [(x.b, x.c)] })
      else s)
  | _ => .next s

/-- GANG_BARRIER_ARRIVAL of team a, whose region has committed (R398). -/
def execEGangBarrierArrival (s : State) : Out :=
  match s.cur with
  | .event x => .next (if s.hasTeam x.a then s.gangArrival x.a else s)
  | _ => .next s

end Sys2Proof.Machine
end

