-- ==== Sys2Proof/Machine/Links.lean ====
section
/-! DEFINITION. Machine/Links.lean: Holusk ports, the power state of links, and the Tombac sequencer (R323, R357, R411 to
R413). -/

namespace Sys2Proof.Machine

/-! ## Flits (R411) -/

/-- A flit of 256 bytes whose CRC matches. -/
def flitGood (l : List Byte) : Bool := l.length == 256 && leNat (l.drop 252) == (crc32c (l.take 252)).toNat

/-- Kind, sequence number and acknowledgement of a flit. -/
def flitHead (l : List Byte) : Nat × Nat × Nat :=
  let h := w64 (leNat (l.take 8))
  (fieldOf h 60 4, fieldOf h 44 16, fieldOf h 28 16)

/-- A sequence number is covered by a cumulative acknowledgement, which names the last flit taken in sequence. -/
def ackCovers (ack seq : Nat) : Bool := decide ((ack + 65536 - seq) % 65536 < 512)

/-- A cumulative acknowledgement frees the slots that it covers. -/
def Port.ack (p : Port) (a clk : Nat) : Port :=
  let w := p.window.filter (fun x => !ackCovers a x.seq)
  { p with window := w, acked := a, lastAdvance := if w.length < p.window.length then clk else p.lastAdvance }

/-- Both copies of a slot are bad (R412). -/
def SendSlot.lost (x : SendSlot) : Bool := !x.good0 && !x.good1

/-- Slots are sent again from a sequence number on, up to one that is lost (R411, R412). -/
def Port.replay (p : Port) (from_ clk : Nat) : Port :=
  let l := (p.window.dropWhile (fun x => x.seq != from_)).takeWhile (fun x => !x.lost)
  l.foldl (fun q x => q.emit 0 x.seq x.payload) { p with replays := p.replays + 1, lastAdvance := clk }

/-- The answer to a RESYNC: the lost flit is rebuilt from its source, and the slots from it on are sent again (R412). -/
def Port.resume (p : Port) (clk : Nat) : Port :=
  match p.resync with
  | none => p
  | some q =>
    ({ p with
      resync := none
      window := p.window.map (fun x => if x.seq = q then { x with good0 := true, good1 := true } else x) } : Port).replay q clk

/-- A flit that arrives at a port (R411, R412). Data are taken in sequence only, and acknowledged at once (assumption 95); a
bad CRC or another number drops the flit; kinds 5 to 15 are discarded and counted; a RESYNC is answered with an ACK. -/
def Port.receive (p : Port) (l : List Byte) (clk : Nat) : Port :=
  let (k, seq, a) := flitHead l
  if !flitGood l then p
  else if 5 ≤ k then { p with errors := p.errors + 1 }
  else if k = 0 then
    if seq = p.expect then
      let p1 := p.ack a clk
      ({ p1 with expect := (p1.expect + 1) % 65536, received := p1.received ++ [(l.drop 8).take 244] } : Port).emit 1 0 []
    else p
  else if k = 3 then (p.ack a clk).emit 1 0 []
  else if k = 1 then (p.ack a clk).resume clk
  else p.ack a clk

/-- Entries in egress quarantine whose flits have been acknowledged are freed (R412). -/
def State.freeSources (s : State) (n : Nat) : State :=
  s.updIod (n / 12) (fun x => ({ x with egress := x.egress.filter (fun e =>
    !e.left || e.route != 16 + n || (s.port n).window.any (fun y => y.src == some e.serial)) } : Iod).refill s.clk)

/-- Bytes of a line that a write's payload brings, by their offset (assumption 95). -/
def flitBytes (mask : Nat) (l : List Byte) : KV Byte := ((List.range 128).filter mask.testBit).zip l

/-- What the payload of a data flit asks of the device (R374, R379; assumption 95): a write of one of its lines, a slot of a
filter armed or freed, or a wake. Messages come to the sequencer by TOMBAC_SEQUENCE. -/
def State.taken (s : State) (n : Nat) (b : List Byte) : State :=
  let num (o k : Nat) : Nat := leNat ((b.drop o).take k)
  let line := num 1 8 % 2 ^ 35
  let dev := num 9 4
  let own := (s.die 0).devnum.toNat
  let filter (f : Filter → Filter) : State := s.updDie (homeDie (line * 128)) (fun d => { d with filter := f d.filter })
  match num 0 1 with
  | 0 =>
    let a := num 1 8 / 128
    s.performAll (8 + n / 12) [] [a] (flitBytes (num 9 16) (b.drop 25)) (kvFind s.dir a).isSome (20480 + n / 12 * 64) 8191 false
  | 2 => filter (fun f => { f.arm (lineHash own line) with peers := dev :: f.peers })
  | 3 => filter (fun f => { f.free with peers := f.peers.erase dev })
  | 4 => s.wakeMonitors (num 1 8 % 4096, num 1 8 / 2 ^ 12 % 4096, num 1 8 / 2 ^ 24 % 4096)
  | _ => s

/-- A flit arrives at port n; a data flit that is taken has its effect. -/
def State.flit (s : State) (n : Nat) (l : List Byte) : State :=
  let t := (s.updPort n (fun p => p.receive l s.clk)).freeSources n
  if (t.port n).received.length = (s.port n).received.length then t else t.taken n ((l.drop 8).take 244)

/-- Payloads that wait at a port take slots of its window, once its link is up (R411, R413). -/
def State.sendWaiting (s : State) (n : Nat) : State :=
  s.overLink n (fun t => t.updPort n (fun p =>
    let k := 512 - p.window.length
    (p.waiting.take k).foldl (fun q w => q.send w.1 s.clk w.2) { p with waiting := p.waiting.drop k }))

/-- Ports at which payloads wait. -/
def State.sendAll (s : State) : State :=
  (s.ports.filter (fun e => !e.2.waiting.isEmpty && decide (e.2.window.length < 512))).foldl (fun a e => a.sendWaiting e.1) s

/-- A flit approaches port n: while the port is off or waking it is held behind those that came before (R413). -/
def State.flitArrives (s : State) (n : Nat) (l : List Byte) : State :=
  let k := (s.link n).wake s.clk
  if k.up s.clk && k.held.isEmpty then (s.updLink n (fun _ => k)).flit n l
  else s.updLink n (fun _ => { k with held := k.held ++ [l] })

/-- The flits that a wake has held are taken, in their order (R413). -/
def State.takeHeld (s : State) (n : Nat) : State :=
  if (s.link n).up s.clk then (s.link n).held.foldl (fun a l => a.flit n l) (s.updLink n (fun k => { k with held := [] }))
  else s

/-- HOLUSK_DATA_FLIT: a flit of any kind but ACK arrives at port a. -/
def execEHoluskDataFlit (s : State) : Out :=
  match s.cur with
  | .event x => .next (if (flitHead x.bytes).1 = 1 then s else s.flitArrives x.a x.bytes)
  | _ => .next s

/-- HOLUSK_ACK: an ACK arrives at port a. -/
def execEHoluskAck (s : State) : Out :=
  match s.cur with
  | .event x => .next (if (flitHead x.bytes).1 = 1 then s.flitArrives x.a x.bytes else s)
  | _ => .next s

/-! ## Replays, audits and lost slots (R411, R412) -/

/-- No acknowledgement has advanced for 2 µs, 3,200 fabric clocks (R411). -/
def Port.stuck (p : Port) (clk : Nat) : Bool := !p.window.isEmpty && decide (p.lastAdvance + 3200 ≤ clk)

/-- Another 4,096 data flits have been sent (R412). -/
def Port.auditDue (p : Port) : Bool := decide (p.audits < p.sent / 4096)

/-- A slot is lost that no RESYNC has named (R412). -/
def Port.resyncDue (p : Port) : Bool := p.window.any SendSlot.lost && p.resync.isNone

/-- What a read makes of a slot of which it finds copies bad, by a mask: one bad copy is rewritten from the other. -/
def SendSlot.found (x : SendSlot) (bad : Nat) : SendSlot :=
  let g0 := x.good0 && !bad.testBit 0
  let g1 := x.good1 && !bad.testBit 1
  { x with good0 := g0 || g1, good1 := g0 || g1 }

/-- A port reads its slots; which copies it finds bad is free, slot by slot (assumption 95). -/
def Port.reads (p : Port) (ctr : Nat) : Port :=
  { p with window := p.window.zipIdx.map (fun y => y.1.found (Config.badCopies (ctr + y.2))) }

/-- The slots of port n are read. -/
def State.readSlots (s : State) (n : Nat) : State :=
  { s.updPort n (fun p => p.reads s.freeCtr) with freeCtr := s.freeCtr + (s.port n).window.length }

/-- HOLUSK_REPLAY_TIMEOUT of port a: 2 µs are 3,200 fabric clocks; the slots are sent again from the oldest. -/
def execEHoluskReplayTimeout (s : State) : Out :=
  match s.cur with
  | .event x =>
    .next (match (s.port x.a).window.head? with
    | some y =>
      if (s.port x.a).stuck s.clk then
        s.overLink x.a (fun t => (t.readSlots x.a).updPort x.a (fun p => p.replay y.seq s.clk))
      else s
    | none => s)
  | _ => .next s

/-- AUDIT of port a: every 4,096 data flits it is sent, and slots that the latest acknowledgement covers are freed. -/
def execEAudit (s : State) : Out :=
  match s.cur with
  | .event x =>
    .next (if (s.port x.a).auditDue then
        s.overLink x.a (fun t => ((t.readSlots x.a).updPort x.a (fun p =>
          (({ p with audits := p.audits + 1 } : Port).emit 2 0 []).ack p.acked s.clk)).freeSources x.a)
      else s)
  | _ => .next s

/-- RESYNC of port a names its oldest lost slot; the receiver's ACK is awaited. -/
def execEResync (s : State) : Out :=
  match s.cur with
  | .event x =>
    .next (match (s.port x.a).window.find? SendSlot.lost, (s.port x.a).resync with
    | some y, none =>
      s.overLink x.a (fun t =>
        (t.updPort x.a (fun p => ({ p with resync := some y.seq, resyncs := p.resyncs + 1 } : Port).emit 3 y.seq [])).tally 158)
    | _, _ => s)
  | _ => .next s

/-! ## Power (R413) -/

/-- The unit has been idle for 4,096 fabric clocks, or for 1,024 more where a wake won against an earlier attempt (R413). -/
def Link.idle (l : Link) (clk : Nat) : Bool := !l.off && decide (l.idleSince + (if l.rewait then 1024 else 4096) ≤ clk)

/-- LINK_POWER_DOWN of link a. -/
def execELinkPowerDown (s : State) : Out :=
  match s.cur with
  | .event x =>
    .next (if (s.link x.a).idle s.clk then
        s.updLink x.a (fun k => { k with off := true, wakeAt := none, idleSince := s.clk, rewait := false })
      else s)
  | _ => .next s

/-- LINK_WAKE of link a for a packet that approaches or that it holds; a wake that is over lets the held ones on. -/
def execELinkWake (s : State) : Out :=
  match s.cur with
  | .event x => .next ((s.updLink x.a (fun l => l.wake s.clk)).takeHeld x.a)
  | _ => .next s

/-! ## Tombac (R323, R357) -/

/-- A message as hardware fills in its sender; one from another device has it already. -/
def State.stamped (s : State) (id : Nat) (m : Message) : Message :=
  if id = 0 then m else { m with sender := w64 (ctxDie id + (s.die 0).devnum.toNat * 16) }

/-- A message for another device (R357). -/
def outward (e : Nat × Nat × Message) : Bool := e.2.2.dw0.getLsbD 38 && e.1 != 0

/-- The sequencer's next message within the module takes its place in the order and reaches every receive queue that it
addresses, once each has a free place of 64. Messages of one fabric clock are taken by die and core, once it has passed
(R323). DESIGN CHOICE (assumption 117): one from another device comes before the module's own of its clock. -/
def State.sequence (s : State) : State :=
  match leastBy (fun e => [e.2.1, e.1]) (s.sends.filter (fun e => !outward e)) with
  | none => s
  | some e =>
    let rest := s.sends.erase e
    let ds := s.receivers e.2.2
    if s.clk ≤ e.2.1 || ds.any (fun d => decide (64 ≤ (s.die d).recv.length)) then s
    else if ds.isEmpty then { s with sends := rest }
    else
      let m := { s.stamped e.1 e.2.2 with seq := s.tombacSeq }
      ds.foldl (fun a d => (if e.1 = 0 then a else a.between (ctxDie e.1) d).updDie d (fun k => { k with recv := k.recv ++ [m] }))
        { s with sends := rest, tombacSeq := s.tombacSeq + 1 }

/-- The oldest message for another device leaves over Holusk, when the send window of its port has room (R323, R384,
R411). -/
def State.sendOut (s : State) : State :=
  match s.sends.find? outward with
  | none => s
  | some e =>
    let s1 := { s with sends := s.sends.erase e }
    let io := ioNear (ctxDie e.1)
    match s.route io (fieldOf e.2.2.dw0 16 22) 0 with
    | none => s1
    | some p =>
      if 512 ≤ (s.port (io * 12 + p)).window.length then s
      else
        let n := io * 12 + p
        let t := s.updLink n (fun l => l.wake s.clk)
        if (t.link n).up s.clk then { t with sends := s1.sends }.updPort n (fun q =>
          q.send (natLe 1 1 ++ (s.stamped e.1 e.2.2).bytes) s.clk none)
        else t

/-- TOMBAC_SEQUENCE: with flag, the 64 bytes given arrive from another device; else the sequencer takes its next message, or
with c the next for another device leaves (R323). -/
def execETombacSequence (s : State) : Out :=
  match s.cur with
  | .event x =>
    .next (if x.flag then { s with sends := s.sends ++ [(0, s.clk, Message.ofBytes x.bytes)] }
      else if x.c = 0 then s.sequence else s.sendOut)
  | _ => .next s

end Sys2Proof.Machine
end

