-- ==== Sys2Proof/Machine/Accum.lean ====
section
/-! DEFINITION. Machine/Accum.lean: the exact arithmetic of the accumulator: products, k-steps, renormalisation, loads and
conversion (R104 to R110, R286, R288, R292), and Q4x rows (R92, R302). -/

namespace Sys2Proof.Machine

/-! ## Elements -/

/-- The elements of a tile in row-major order; an unlisted one is finite zero. -/
def denseFrom (n i : Nat) (l : KV Elem) : List Elem :=
  match n with
  | 0 => []
  | k + 1 =>
    match l with
    | [] => .fin 0 :: denseFrom k (i + 1) []
    | (j, x) :: t => if j = i then x :: denseFrom k (i + 1) t else .fin 0 :: denseFrom k (i + 1) l

/-- The 4,096 elements of a slot. -/
def Slot.dense (x : Slot) : List Elem := denseFrom 4096 0 x.elems

/-- Elements as a slot lists them: finite zeros are left out. -/
def sparseElems (l : List Elem) : KV Elem :=
  (l.zipIdx.filter (fun e => e.1 != .fin 0)).map (fun e => (e.2, e.1))

/-- An element of a slot. -/
def Slot.elem (x : Slot) (i j : Nat) : Elem := kvGet (.fin 0) x.elems (i * 64 + j)

/-! ## Products (R105) -/

/-- Plus zero. -/
def fzero : FVal := .fin false 0 0

/-- The sum of two scale codes; none: one of them is −128, which makes the product +0. -/
def scaleSum (a b : Int) : Option Int := if a = -128 ∨ b = -128 then none else some (a + b)

/-- A product of two operand values under their scales. -/
def product (sc : Option Int) (a b : FVal) : FVal :=
  match sc with
  | none => fzero
  | some x =>
    match (a.mul b).1 with
    | .fin n m e => .fin n m (e + x)
    | v => v

/-! ## One k-step (R106 to R109) -/

/-- A tile in computation: its elements with E, eset and ovf, and the renormalisations made. -/
structure Tile where
  els : List Elem := []
  e : Int := 0
  eset : Bool := false
  ovf : Bool := false
  renorms : Nat := 0
deriving DecidableEq, Repr, Inhabited

/-- Largest magnitude that the headroom test lets pass, plus one (R106). -/
def headroom : Int := 2 ^ 46 - 1
/-- The saturation value (R108). -/
def satValue : Int := 2 ^ 47 - 1

/-- The finite products of a step, as signed mantissas with their exponents. -/
def finites (ps : List FVal) : List (Int × Int) :=
  ps.filterMap (fun p => match p with | .fin n m e => if m = 0 then none else some (signed n m, e) | _ => none)

/-- The least exponent of some products, and E. -/
def lowest (e : Int) (fs : List (Int × Int)) : Int := fs.foldl (fun l p => min l p.2) e

/-- |m| + Σ |p| / 2^E is at least the headroom, exactly (R106). -/
def tight (e : Int) (x : Elem × List FVal) : Bool :=
  match x.1 with
  | .fin m =>
    let fs := finites x.2
    let l := lowest e fs
    let t := (m.natAbs : Int) * 2 ^ (e - l).toNat + fs.foldl (fun a p => a + (p.1.natAbs : Int) * 2 ^ (p.2 - l).toNat) 0
    decide (headroom * 2 ^ (e - l).toNat ≤ t)
  | _ => false

/-- RoundInt of m × 2^e to nearest even (R94). -/
def roundInt (m e : Int) : Int := signed (decide (m < 0)) (neighbour 0 (decide (m < 0)) m.natAbs e)

/-- Step 1: renormalisation until no element is tight, or saturation of the slot (R106, R108). -/
def renorm (fuel : Nat) (t : Tile) (ps : List (List FVal)) : Tile :=
  match fuel with
  | 0 => t
  | k + 1 =>
    if !(t.els.zip ps).any (tight t.e) then t
    else if 1023 < t.e + 8 then
      { t with ovf := true, els := t.els.map (fun x => match x with
          | .fin m => .fin (if 0 ≤ m then satValue else -satValue)
          | x => x) }
    else
      renorm k { t with
        e := t.e + 8, renorms := t.renorms + 1
        els := t.els.map (fun x => match x with | .fin m => .fin (roundInt m (-8)) | x => x) } ps

/-- An element's class combined with the non-finite products of a step (R109). -/
def classOf (x : Elem) (ps : List FVal) : Elem :=
  let pos := ps.any (· == .inf false) || x == .inf false
  let neg := ps.any (· == .inf true) || x == .inf true
  if x = .nan ∨ ps.any (· == .nan) ∨ (pos ∧ neg) then .nan
  else if pos then .inf false
  else if neg then .inf true
  else x

/-- Step 2 for one element: one exact sum and one rounding, then the non-finite products (R106, R108, R109). -/
def addStep (t : Tile) (x : Elem) (ps : List FVal) : Elem :=
  let y := match x with
    | .fin m =>
      let fs := finites ps
      let l := lowest t.e fs
      let sum := fs.foldl (fun a p => a + p.1 * 2 ^ (p.2 - l).toNat) 0
      let v := m + (if t.eset then roundInt sum (l - t.e) else 0)
      Elem.fin (if t.ovf then max (-satValue) (min satValue v) else v)
    | x => x
  classOf y ps

/-- The largest product exponent of a step (R107). -/
def topExp (ps : List (List FVal)) : Option Int :=
  ps.foldl (fun a l => (finites l).foldl (fun a p =>
    let x : Int := Nat.log2 p.1.natAbs + p.2
    match a with
    | none => some x
    | some y => some (max x y)) a) none

/-- MmaStep (R106) with R107 while E is unset; ps holds the products of each element. -/
def mmaStep (t : Tile) (ps : List (List FVal)) : Tile :=
  let t1 := if t.eset then t else
    match topExp ps with
    | none => t
    | some x => { t with e := max (x - 30) (-1024), eset := true }
  let t2 := if t1.eset && !t1.ovf then renorm 300 t1 ps else t1
  { t2 with els := (t2.els.zip ps).map (fun x => addStep t2 x.1 x.2) }

/-! ## MMA (R288 to R290) -/

/-- The format factor of an operand (R288). -/
def formatFactor (f : Nat) : Nat := if f ≤ 1 then 1 else if f ≤ 4 then 2 else 4

/-- The products of a step: rows of A and columns of B as their values at the k indices of the step; a row that takes +0
products has no scale. -/
def stepProducts (as : List (Option Int × List FVal)) (bs : List (Int × List FVal)) : List (List FVal) :=
  as.flatMap (fun a => bs.map (fun b =>
    (a.2.zip b.2).map (fun p => product (match a.1 with | none => none | some x => scaleSum x b.1) p.1 p.2)))

/-- n values of a row from place k on; what the operand does not hold is +0 (R289). -/
def takeVals (l : List FVal) (k n : Nat) : List FVal := (List.range n).map (fun i => l.getD (k + i) fzero)

/-- Rows of A in step s of kf indices (R288, R289): lo to lo + c − 1 take part. -/
def stepRows (a : List (List FVal)) (lo c : Nat) (sa : List Int) (s kf : Nat) : List (Option Int × List FVal) :=
  (List.range 64).map (fun i =>
    (if lo ≤ i ∧ i < lo + c then some (sa.getD i 0) else none, takeVals (a.getD i []) (s * kf) kf))

/-- Columns of B in step s (R288, R289), B being given by its rows k. -/
def stepCols (b : List (List FVal)) (cols : Nat) (sb : List Int) (s kf : Nat) : List (Int × List FVal) :=
  let bk := (List.range kf).map (fun x => b.getD (s * kf + x) [])
  (List.range 64).map (fun j => (sb.getD j 0, bk.map (fun r => if j < cols then r.getD j fzero else fzero)))

/-- A slot's tile. -/
def Slot.tile (x : Slot) : Tile := { els := x.dense, e := x.e, eset := x.eset, ovf := x.ovf }

/-- A slot after a k-step of an MMA, and its renormalisations (R106, R286). -/
def Slot.step (x : Slot) (rows : List (Option Int × List FVal)) (cols : List (Int × List FVal)) : Slot × Nat :=
  let t := mmaStep x.tile (stepProducts rows cols)
  ({ x with
     elems := sparseElems t.els, e := t.e, eset := t.eset, ovf := t.ovf
     renorms := BitVec.ofNat 32 (min (x.renorms.toNat + t.renorms) (2 ^ 32 - 1)) }, t.renorms)

/-- What NEW makes of a slot (R285, R286). -/
def Slot.fresh : Slot := {}

/-- MZERO (R291). -/
def Slot.zero (x : Slot) : Slot := { x with elems := [], e := 0, eset := false, ovf := false, renorms := 0 }

/-! ## MLOADA and MOUT (R110, R292, R294) -/

/-- Output and source formats of MLOADA and MOUT. -/
def accFmt (f : Nat) : Fmt :=
  match f with
  | 0 => fp32
  | 1 => bf16
  | 2 => fp16
  | 3 => f8e4
  | _ => f8e5

/-- MLOADA of rows of values (R292). -/
def Slot.load (x : Slot) (vs : List (List FVal)) : Slot :=
  let all := (List.range 64).flatMap (fun i => (List.range 64).map (fun j => (vs.getD i []).getD j fzero))
  let top := topExp [all]
  let e := match top with | some t => max (t - 30) (-1024) | none => 0
  { x with
    e := e, eset := top.isSome, ovf := false, renorms := 0, t := 0x3F800000#32
    elems := sparseElems (all.map (fun v => match v with
      | .nan => .nan
      | .inf n => .inf n
      | .fin n m g => .fin (if top.isSome then roundInt (signed n m) (g - e) else 0))) }

/-- MoutElement (R110). -/
def Slot.out (x : Slot) (i j : Nat) (f : Fmt) (mode : Nat) (sat : Bool) : Nat :=
  match x.elem i j, fp32.val x.t.toNat with
  | .nan, _ => f.nan
  | _, .nan => f.nan
  | .inf n, .fin tn tm _ => if tm = 0 then f.nan else (roundTo f mode sat (.inf (n != tn))).1
  | .inf n, .inf tn => (roundTo f mode sat (.inf (n != tn))).1
  | .fin m, .inf tn => if m = 0 then f.nan else (roundTo f mode sat (.inf (decide (m < 0) != tn))).1
  | .fin m, .fin tn tm te =>
    if m = 0 ∨ tm = 0 then 0
    else (roundTo f mode sat (.fin (decide (m < 0) != tn) (m.natAbs * tm) ((if x.eset then x.e else 0) + te))).1

/-- The status record of MOUT (R294). -/
def Slot.status (x : Slot) : List Byte :=
  natLe 2 (if x.eset then (BitVec.ofInt 16 x.e).toNat else 0) ++ natLe 2 (bitN x.eset + 2 * bitN x.ovf)
    ++ natLe 4 x.renorms.toNat ++ natLe 4 x.t.toNat ++ natLe 4 0

/-! ## Operand elements (R92, R288) -/

/-- The value of an element of a descriptor format other than Q4x. -/
def elemVal (f x : Nat) : FVal :=
  match f with
  | 0 => bf16.val x
  | 1 => fp16.val x
  | 2 => f8e4.val x
  | 3 => f8e5.val x
  | _ => if x < 128 then .fin false x 0 else .fin true (256 - x) 0

/-- The least number above i that is not in a list, in n trials. -/
def nextFree (n i : Nat) (l : List Nat) : Nat :=
  match n with
  | 0 => i
  | k + 1 => if l.contains i then nextFree k (i + 1) l else i

/-- Q4xRow (R92) from element j on: the values, and the places of the markers; none is M_FORMAT. -/
def q4xFrom (b : List Byte) (n j : Nat) (left : Nat) (claimed : List Nat) : Option (List FVal × List Nat) :=
  match left with
  | 0 => some ([], [])
  | k + 1 =>
    let i := j / 2
    if claimed.contains i then (q4xFrom b n (j + 1) k claimed).map (fun r => (fzero :: r.1, r.2))
    else
      let nib := (b.getD i 0).toNat / (if j % 2 = 0 then 1 else 16) % 16
      if nib ≠ 8 then
        (q4xFrom b n (j + 1) k claimed).map (fun r =>
          ((if nib < 8 then .fin false nib 0 else .fin true (16 - nib) 0) :: r.1, r.2))
      else
        let p := nextFree (n / 2) (i + 1) claimed
        let x := (b.getD p 0).toNat
        if n / 2 ≤ p ∨ x = 0x80 then none
        else (q4xFrom b n (j + 1) k (p :: claimed)).map (fun r => (f8e4.val x :: r.1, j :: r.2))

/-- Q4xRow (R92). -/
def q4xRow (b : List Byte) (n : Nat) : Option (List FVal × List Nat) :=
  if n % 2 = 1 then none else q4xFrom b n 0 n []

/-- Markers of a row in a run of 16 elements, less one (R93). -/
def runExcess (marks : List Nat) (r : Nat) : Nat := (marks.filter (fun j => j / 16 == r)).length - 1

/-- The Q4x penalty of A: for each run, the largest excess over its rows (R302). DESIGN CHOICE (assumption 103): the runs of
all its columns count, also those from K on. -/
def penaltyA (rows : List (List Nat)) (cols : Nat) : Nat :=
  (List.range ((cols + 15) / 16)).foldl (fun a r => a + rows.foldl (fun m x => max m (runExcess x r)) 0) 0

/-- The Q4x penalty of B: for each row, the largest excess over its runs (R302). -/
def penaltyB (rows : List (List Nat)) (cols : Nat) : Nat :=
  rows.foldl (fun a x => a + (List.range ((cols + 15) / 16)).foldl (fun m r => max m (runExcess x r)) 0) 0

end Sys2Proof.Machine
end

