-- ==== Sys2Proof/Machine/Matrix.lean ====
section
/-! DEFINITION. Machine/Matrix.lean: the matrix unit: descriptors, checks, the M-words, and when a word may start (R49, R70,
R73, R188, R228, R280 to R303). A word of one core clock completes at its turn; another leaves what is to be done in each of its
clocks (R301; assumption 27). -/

namespace Sys2Proof.Machine

/-! ## Descriptors (R49, R283) -/

/-- A matrix descriptor with its number. -/
structure Desc where
  n : Nat
  base : Nat
  rows : Nat
  cols : Nat
  stride : Nat
  fmt : Nat
  swz : Nat
  sptr : Nat
  smode : Nat
  hdr : Bool
  resv : Nat
deriving DecidableEq, Repr, Inhabited

/-- The fields of md n. -/
def Team.desc (t : Team) (n : Nat) : Desc :=
  let v := spGet t.md n
  { n := n, base := fieldOf v 0 20, rows := fieldOf v 20 12 + 1, cols := fieldOf v 32 12 + 1, stride := fieldOf v 44 20
    fmt := fieldOf v 64 4, swz := fieldOf v 68 4, sptr := fieldOf v 72 20, smode := fieldOf v 92 2
    hdr := v.getLsbD 94, resv := fieldOf v 95 33 }

/-- Half bytes of an element of a descriptor format (R283). -/
def descNibbles (f : Nat) : Nat := if f ≤ 1 then 4 else if f ≤ 4 then 2 else 1

/-- Bytes P of a logical row, elements counted in half bytes (R283). -/
def Desc.pitch (d : Desc) (nib : Nat) : Nat := (d.cols * nib + 31) / 32 * 16

/-- Base, stride and swizzle agree with R283. -/
def Desc.shapeOk (d : Desc) (nib : Nat) : Bool :=
  d.base % 16 == 0 && d.stride % 16 == 0 && decide (d.pitch nib ≤ d.stride) && decide (d.swz ≤ 4) &&
    d.pitch nib / 16 % 2 ^ d.swz == 0

/-- An operand descriptor of an MMA holds no reserved value and has a shape (R49, R283). -/
def Desc.operandOk (d : Desc) : Bool :=
  decide (d.fmt ≤ 5) && d.resv == 0 && d.smode != 3 && d.shapeOk (descNibbles d.fmt) && !(d.fmt == 5 && d.cols % 2 == 1)

/-- Share offset of byte b of logical row r (R283). -/
def Desc.byteAt (d : Desc) (r b : Nat) : Nat :=
  d.base + r * d.stride + ((b / 16) ^^^ (r % 2 ^ d.swz)) * 16 + b % 16

/-- Bytes of a logical row. -/
def Desc.row (d : Desc) (t : Team) (r n : Nat) : List Byte :=
  (List.range n).map (fun b => spGet t.sp (t.place (d.byteAt r b)))

/-- Bytes of a share that a word reads or writes: offset, count, and the descriptor by which it does. -/
structure Piece where
  off : Int
  n : Nat
  d : Nat
deriving DecidableEq, Repr, Inhabited

/-- The pieces of the first rows of an operand, in rising order within a row. -/
def Desc.rowPieces (d : Desc) (rows nib : Nat) : List Piece :=
  let used := (d.cols * nib + 1) / 2
  (List.range rows).flatMap (fun r => (List.range (d.pitch nib / 16)).map (fun p =>
    let c := p ^^^ (r % 2 ^ d.swz)
    { off := (d.base + r * d.stride + p * 16 : Nat), n := min 16 (used - 16 * c), d := d.n }))

/-- The 16 bytes of a header, status record or group table, k bytes below a descriptor's base. -/
def Desc.below (d : Desc) (k : Nat) : Piece := { off := (d.base : Int) - k, n := 16, d := d.n }

/-- The 64 scale bytes of a descriptor. -/
def Desc.scalePiece (d : Desc) : Piece := { off := d.sptr, n := 64, d := d.n }

/-- The first offset of some pieces outside a share, with its descriptor. -/
def outside (share : Nat) (l : List Piece) : Option (Int × Nat) :=
  (l.find? (fun p => decide (p.off < 0) || decide ((share : Int) < p.off + p.n))).map (fun p =>
    (if p.off < 0 ∨ (share : Int) ≤ p.off then p.off else share, p.d))

/-- The first poisoned word that some pieces read, with its descriptor (R456). -/
def Team.poisonIn (t : Team) (l : List Piece) : Option (Nat × Nat) :=
  l.findSome? (fun p =>
    let lo := p.off.toNat / 4
    ((List.range ((p.off.toNat + p.n + 3) / 4 - lo)).find? (fun i => t.spPoisoned (4 * (lo + i)))).map (fun i =>
      (4 * (lo + i), p.d)))

/-- An operand header as it is to stand (R284). -/
def Desc.header (d : Desc) : List Byte :=
  natLe 4 0x48535A43 ++ natLe 1 d.fmt ++ natLe 1 d.swz ++ natLe 2 0 ++ natLe 4 d.rows ++ natLe 4 d.cols

/-- The 16 bytes below an operand. -/
def Desc.found (d : Desc) (t : Team) : List Byte := t.spBytesAt (d.base - 16) 16

/-- Row r of an operand, decoded, with the places of its outlier markers; none is M_FORMAT (R92, R288). -/
def Desc.values (d : Desc) (t : Team) (r : Nat) : Option (List FVal × List Nat) :=
  let nib := descNibbles d.fmt
  let b := d.row t r (d.cols * nib / 2)
  if d.fmt = 5 then q4xRow b d.cols
  else
    let n := nib / 2
    some ((List.range d.cols).map (fun k => elemVal d.fmt (leNat ((b.drop (k * n)).take n))), [])

/-- Scales of an operand, 0 where they are not applied (R289). -/
def Desc.scales (d : Desc) (t : Team) (on : Bool) : List Int :=
  (List.range 64).map (fun i => if on then (spGet t.sp (t.place (d.sptr + i))).toInt else 0)

/-! ## M-faults (R164, R287) -/

/-- An M-fault: cause, offset, two words of information. -/
structure MFault where
  code : Nat
  t3 : W64 := 0
  t4 : W64 := 0
  t5 : W64 := 0
deriving DecidableEq, Repr, Inhabited

/-- The record of an M-fault (R165, R287). -/
def MFault.toRec (f : MFault) (msn : W32) (e : QEntry) : TrapRec :=
  { t0 := trec0 2 0 f.code msn, t1 := e.pc.zeroExtend 64, t3 := f.t3, t4 := f.t4, t5 := f.t5, t7 := e.word.zeroExtend 64 }

/-- A fault of the M-word at a team's turn: nothing changes but that the unit is held for the team (R164, R287). -/
def State.raiseM (s : State) (tid : Nat) (f : MFault) (e : QEntry) : State :=
  (s.fire (coreDie (teamCore tid)) 2).updTeam tid (fun t => { t with
    mHeld := some e, mCode := f.code, faults := t.faults ++ [{ agent := .mat, trec := f.toRec t.msn e }] })

/-- An M-word acts on the team at the matrix unit's turn. -/
def mWord (s : State) (k : Nat → QEntry → Team → State) : Out :=
  match s.cur with
  | .mat tid e => .next (k tid e (s.team tid))
  | _ => .fault .noMatrix

/-- A word of one core clock completes at its turn, and takes its MSN (R73, R280, R301). -/
def State.doneM (s : State) (tid : Nat) (f : Team → Team) : State := s.updTeam tid (fun t => (f t).consumeM)

/-! ## Handles and slots (R49, R285, R286) -/

/-- The slot that a handle names, if it is valid. -/
def Team.handle (t : Team) (h : Nat) : Option Nat :=
  let a := spGet t.ah h
  if a.getLsbD 15 then some (fieldOf a 0 4) else none

/-- Slots that a team holds, those released and not yet returned among them (R285). -/
def Team.slotsHeld (t : Team) : Nat := (t.ah.filter (fun h => h.2.getLsbD 15)).length + t.released.length

/-- State of a slot. -/
def Team.slot (t : Team) (x : Nat) : Slot := kvGet {} t.slotState x

/-- M_SLOT of a handle (R166). -/
def Team.slotFault (t : Team) (h : Nat) : MFault := { code := 0x205, t4 := w64 h, t5 := w64 t.slotsHeld }

/-- NEW (R285, R286): a valid handle's slot is re-initialised in place, another takes the lowest free slot. -/
def Team.allocate (t : Team) (h : Nat) : Team :=
  match t.handle h with
  | some x => { t with slotState := kvSet t.slotState x Slot.fresh }
  | none =>
    let x := t.free.headD 0
    { t with ah := spSet t.ah h (0x8000#16 ||| BitVec.ofNat 16 x), free := t.free.drop 1
             slotState := kvSet t.slotState x Slot.fresh }

/-- A word on one valid handle's slot. -/
def mSlot (h : BitVec 4) (s : State) (k : Nat → QEntry → Team → Nat → Slot → State) : Out :=
  mWord s (fun tid e t =>
    match t.handle h.toNat with
    | none => s.raiseM tid (t.slotFault h.toNat) e
    | some x => k tid e t x (t.slot x))

/-- A new state of a slot. -/
def Team.putSlot (t : Team) (x : Nat) (v : Slot) : Team := { t with slotState := kvSet t.slotState x v }

/-- One operation of the word under way for a team (R288 to R294), with what the counters and renorms of its core count
(R51, R401). -/
def State.matOp (s : State) (tid : Nat) (o : MatOp) : State :=
  let t := s.team tid
  match o with
  | .alloc h => s.setTeam tid (t.allocate h)
  | .step h rows cols =>
    let x := (t.handle h).getD 0
    let r := (t.slot x).step rows cols
    ((s.setTeam tid (t.putSlot x r.1)).count (teamCore tid) 5).updCore (teamCore tid) (fun k =>
      { k with renorms := BitVec.ofNat 32 (min (k.renorms.toNat + r.2) (2 ^ 32 - 1)) })
  | .stall => s.count (teamCore tid) 6
  | .put h v => s.setTeam tid (t.putSlot ((t.handle h).getD 0) v)
  | .write l whole =>
    s.setTeam tid (whole.foldl (fun a w => a.setPoison w false) (l.foldl (fun a e => a.spWrite e.1 e.2) t))
  | .finish => s.setTeam tid t.consumeM

/-- A core clock of the word under way (R301). -/
def State.matClock (s : State) (c : Nat) : State :=
  let k := s.core c
  match k.matJob with
  | [] => s
  | l :: r => l.foldl (fun a o => a.matOp (c * 4 + k.served) o) (s.updCore c (fun k => { k with matJob := r }))

/-- A word of several core clocks starts: its first clock is this one. -/
def State.startM (s : State) (tid : Nat) (job : List (List MatOp)) : State :=
  (s.updCore (teamCore tid) (fun k => { k with served := tid % 4, matJob := job })).matClock (teamCore tid)

/-- n core clocks in which nothing can be seen, and a last one. -/
def endAfter (n : Nat) (l : List MatOp) : List (List MatOp) := List.replicate n [] ++ [l ++ [.finish]]

/-- M_FORMAT of a descriptor. -/
def formatFault (d : Nat) : MFault := { code := 0x202, t4 := w64 d }

/-- Check 6 of R287. DESIGN CHOICE (assumption 115): an offset below 0, of a header, a group table or a status record, stands in
TREC3 as a signed 64-bit number. -/
def mInside (s : State) (tid : Nat) (e : QEntry) (l : List Piece) (k : State) : State :=
  let sh := (s.team tid).share
  match outside sh l with
  | some (o, d) => s.raiseM tid { code := 0x207, t3 := BitVec.ofInt 64 o, t4 := w64 d, t5 := w64 sh } e
  | none => k

/-- Check 9 of R287. -/
def mClean (s : State) (tid : Nat) (e : QEntry) (l : List Piece) (k : State) : State :=
  match (s.team tid).poisonIn l with
  | some (o, d) => s.raiseM tid { code := 0x208, t3 := w64 o, t4 := w64 d } e
  | none => k

/-! ## MMA and MMAG (R287 to R290) -/

/-- A group of an MMA or MMAG that is not empty: handle, descriptor of B, first row and rows of A. -/
structure MGroup where
  h : Nat
  b : Desc
  lo : Nat
  c : Nat
deriving DecidableEq, Repr, Inhabited

/-- k indices of a step of a group (R288). -/
def MGroup.kf (g : MGroup) (a : Desc) : Nat := min (formatFactor a.fmt) (formatFactor g.b.fmt)

/-- Check 2 of R287: the first handle that is not valid and gets no slot. -/
def badHandle (t : Team) (new : Bool) (gs : List MGroup) (free : Nat) : Option Nat :=
  match gs with
  | [] => none
  | g :: r =>
    if (t.handle g.h).isSome then badHandle t new r free
    else if !new || free == 0 then some g.h
    else badHandle t new r (free - 1)

/-- Check 4 of R287 for operand B of a group, with the agreement of A's columns: the descriptor that fails. -/
def badGroup (a : Desc) (n : Nat) (col : Bool) (g : MGroup) : Option Nat :=
  if !g.b.operandOk then some g.b.n
  else if a.cols < n * g.kf a then some a.n
  else if g.b.rows < n * g.kf a || decide (64 < g.b.cols) || (col && g.b.smode != 2) then some g.b.n
  else none

/-- What an operand's rows, header and scales read. DESIGN CHOICE (assumption 103): of a row every column is read, also those
of A from K on. -/
def Desc.pieces (d : Desc) (rows : Nat) (scale : Bool) : List Piece :=
  d.rowPieces rows (descNibbles d.fmt) ++ (if d.hdr then [d.below 16] else []) ++ (if scale then [d.scalePiece] else [])

/-- The first of some operands whose header differs, or whose row is malformed (checks 7 and 8 of R287). -/
def badHeader (t : Team) (ds : List Desc) : Option Desc := ds.find? (fun d => d.hdr && d.found t != d.header)

/-- Row of an operand that does not decode, with its descriptor. -/
def badRow (t : Team) (ds : List (Desc × Nat)) : Option (Nat × Nat) :=
  ds.findSome? (fun x => ((List.range x.2).find? (fun r => (x.1.values t r).isNone)).map (fun r => (x.1.n, r)))

/-- Values of the first rows of an operand, and its markers. -/
def Desc.load (d : Desc) (t : Team) (rows : Nat) : List (List FVal) × List (List Nat) :=
  let l := (List.range rows).map (fun r => (d.values t r).getD ([], []))
  (l.map (fun x => x.1), l.map (fun x => x.2))

/-- The core clocks of a group of an MMA or MMAG: its k-steps, the first with its NEW, and then its penalty (R289, R290,
R301). DESIGN CHOICE (assumption 114): a group's X covers the rows of its own that the group reads, and no others of mdA (R302). -/
def groupJob (t : Team) (a : Desc) (av : List (List FVal) × List (List Nat)) (sa : List Int) (n : Nat) (new col : Bool)
    (g : MGroup) : List (List MatOp) :=
  let kf := g.kf a
  let bv := g.b.load t (n * kf)
  let sb := g.b.scales t col
  let x := penaltyA ((av.2.drop g.lo).take g.c) a.cols + penaltyB bv.2 g.b.cols
  (List.range n).map (fun i =>
    (if new && i == 0 then [.alloc g.h] else []) ++
      [.step g.h (stepRows av.1 g.lo g.c sa i kf) (stepCols bv.1 g.b.cols sb i kf)]) ++
  List.replicate x [.stall]

/-- The checks of R287 from the second on for an MMA or MMAG of n k-steps, and then its clocks. total: the sum of an MMAG's
group table; table: the bytes of that table; rows: the rows of A that the word reads. -/
def mmaWord (s : State) (tid : Nat) (e : QEntry) (a : Desc) (gs : List MGroup) (n total rows : Nat) (new row col : Bool)
    (table : List Piece) : State :=
  let t := s.team tid
  match badHandle t new gs t.free.length with
  | some h => s.raiseM tid (t.slotFault h) e
  | none =>
    match (if new then none else gs.find? (fun g => !(t.slot ((t.handle g.h).getD 0)).inregion)) with
    | some g => s.raiseM tid { code := 0x206, t4 := w64 g.h } e
    | none =>
      if !a.operandOk || decide (64 < a.rows) || (row && a.smode != 1) then s.raiseM tid (formatFault a.n) e
      else
        match gs.findSome? (badGroup a n col) with
        | some d => s.raiseM tid (formatFault d) e
        | none =>
          if a.rows < total then s.raiseM tid { code := 0x204, t4 := w64 total } e
          else
            let ps := table ++ a.pieces rows row ++ gs.flatMap (fun g => g.b.pieces (n * g.kf a) col)
            mInside s tid e ps (
              match badHeader t (a :: gs.map (fun g => g.b)) with
              | some d =>
                s.raiseM tid { code := 0x203, t4 := w64 d.n, t5 := w64 (leNat ((d.found t).take 8)) } e
              | none =>
                match badRow t ((a, rows) :: gs.map (fun g => (g.b, n * g.kf a))) with
                | some (d, r) => s.raiseM tid { formatFault d with t5 := w64 r } e
                | none =>
                  mClean s tid e ps (
                    let av := a.load t a.rows
                    s.startM tid (gs.flatMap (groupJob t a av (a.scales t row) n new col) ++ endAfter 3 [])))

/-- MMA (R289). -/
def execMMma (h a b : BitVec 4) (n : BitVec 12) (w r c : BitVec 1) (s : State) : Out :=
  mWord s (fun tid e t =>
    mmaWord s tid e (t.desc a.toNat) [{ h := h.toNat, b := t.desc b.toNat, lo := 0, c := 64 }] (n.toNat + 1) 0
      (t.desc a.toNat).rows (w == 1) (r == 1) (c == 1) [])

/-- MMAG (R290): its group table is read first, and its empty groups are passed over; of A it reads the rows that its groups
cover, and with every group empty nothing. -/
def execMMmag (h a b g : BitVec 4) (n : BitVec 8) (w r c : BitVec 1) (s : State) : Out :=
  mWord s (fun tid e t =>
    if 15 < h.toNat + g.toNat ∨ 15 < b.toNat + g.toNat then s.raiseM tid { code := 0x201 } e
    else
      let d := t.desc a.toNat
      let tb := d.below 32
      mInside s tid e [tb] (
        let cs := (t.spBytesAt tb.off.toNat (g.toNat + 1)).map (fun x => x.toNat)
        let sums := (List.range (g.toNat + 1)).map (fun i => (cs.take i).sum)
        let gs := (List.range (g.toNat + 1)).filterMap (fun i =>
          if cs.getD i 0 = 0 then none
          else some { h := h.toNat + i, b := t.desc (b.toNat + i), lo := sums.getD i 0, c := cs.getD i 0 })
        if gs.isEmpty then mClean s tid e [tb] (s.startM tid (endAfter 3 []))
        else mmaWord s tid e d gs (n.toNat + 1) cs.sum cs.sum (w == 1) (r == 1) (c == 1) [tb]))

/-! ## The other M-words (R291 to R297) -/

/-- MNOP (R297). -/
def execMMnop (s : State) : Out := mWord s (fun tid _ _ => s.doneM tid id)

/-- MZERO (R291). -/
def execMMzero (h : BitVec 4) (s : State) : Out :=
  mSlot h s (fun tid _ _ _ v => s.startM tid (endAfter 63 [.put h.toNat v.zero]))

/-- Check 4 of R287 for MLOADA and MOUT with elements of a format (R283, R292, R294). -/
def Desc.tileOk (d : Desc) (nib : Nat) : Bool := d.shapeOk nib && decide (d.rows ≤ 64) && decide (d.cols ≤ 64)

/-- Half bytes of an element of a format of MLOADA and MOUT. -/
def accNibbles (f : Nat) : Nat := if f = 0 then 8 else if f ≤ 2 then 4 else 2

/-- MLOADA (R292). -/
def execMMloada (h a : BitVec 4) (f : BitVec 3) (s : State) : Out :=
  mWord s (fun tid e t =>
    let nib := accNibbles f.toNat
    let d := t.desc a.toNat
    let ps := d.rowPieces d.rows nib
    if 4 < f.toNat then s.raiseM tid { code := 0x201 } e
    else
      match t.handle h.toNat with
      | none => s.raiseM tid (t.slotFault h.toNat) e
      | some x =>
        if !d.tileOk nib then s.raiseM tid (formatFault d.n) e
        else
          mInside s tid e ps (mClean s tid e ps (
            let n := nib / 2
            let vs := (List.range d.rows).map (fun r =>
              let b := d.row t r (d.cols * n)
              (List.range d.cols).map (fun k => (accFmt f.toNat).val (leNat ((b.drop (k * n)).take n))))
            s.startM tid (endAfter 63 [.put h.toNat ((t.slot x).load vs)]))))

/-- Row i of an MOUT (R294): its elements, and the words that they write whole, by elements of one or two bytes too, which
lose their poison (R456). -/
def Desc.outRow (d : Desc) (x : Slot) (f : Nat) (mode : Nat) (sat : Bool) (i : Nat) : MatOp :=
  let n := accNibbles f / 2
  .write ((List.range d.cols).map (fun j => (d.byteAt i (j * n), natLe n (x.out i j (accFmt f) mode sat))))
    ((List.range (d.cols * n / 4)).map (fun k => d.byteAt i (4 * k)))

/-- The core clocks of an MOUT (R301): DESIGN CHOICE (assumption 27), its rows are written in the last of them, one in a clock,
and the status record with the last row. -/
def Desc.outJob (d : Desc) (x : Slot) (f : Nat) (mode : Nat) (sat st : Bool) : List (List MatOp) :=
  List.replicate 64 [] ++ (List.range d.rows).map (fun i =>
    d.outRow x f mode sat i ::
      (if i + 1 = d.rows then (if st then [.write [(d.base - 16, x.status)] []] else []) ++ [.finish] else []))

/-- MOUT (R294). -/
def execMMout (h a : BitVec 4) (f r : BitVec 3) (sat st : BitVec 1) (s : State) : Out :=
  mWord s (fun tid e t =>
    let nib := accNibbles f.toNat
    let d := t.desc a.toNat
    let ps := d.rowPieces d.rows nib ++ (if st = 1 then [d.below 16] else [])
    if 4 < f.toNat ∨ 4 < r.toNat then s.raiseM tid { code := 0x201 } e
    else
      match t.handle h.toNat with
      | none => s.raiseM tid (t.slotFault h.toNat) e
      | some x =>
        if !d.tileOk nib then s.raiseM tid (formatFault d.n) e
        else
          mInside s tid e ps (s.startM tid (d.outJob (t.slot x) f.toNat r.toNat (sat == 1) (st == 1))))

/-- MSCALE (R293). -/
def execMMscale (h : BitVec 4) (o : BitVec 15) (s : State) : Out :=
  mSlot h s (fun tid e t x v =>
    let p : Piece := { off := (o.toNat * 32 : Nat), n := 4, d := 16 }
    mInside s tid e [p] (mClean s tid e [p]
      (s.doneM tid (fun t1 => t1.putSlot x { v with t := BitVec.ofNat 32 (t.spRead (o.toNat * 32) 4) }))))

/-- MRELEASE: the handle is cleared at once, and the slot returns at the commit (R188, R295). -/
def execMMrelease (h : BitVec 4) (s : State) : Out :=
  mSlot h s (fun tid _ _ x _ => s.doneM tid (fun t =>
    { t with ah := spSet t.ah h.toNat (spGet t.ah h.toNat &&& 0x7FFF#16), released := t.released ++ [(h.toNat, x)] }))

/-- The matrix unit is a member of a barrier and has arrived in its phase (R296). -/
def Team.mArrived (t : Team) (b : Nat) : Bool :=
  decide (b < t.bars) && (barMember (t.bar b)).testBit 17 && (barArrived (t.bar b)).testBit 17

/-- MBATCH (R296): it arrives at its barrier, or waits for the flip after the arrival it has made; its batch completes, and
MWAIT's tokens end with its MSN (R298). -/
def execMMbatch (b : BitVec 5) (_n : BitVec 10) (s : State) : Out :=
  mWord s (fun tid _ t =>
    let bar := t.bar b.toNat
    if t.mArrived b.toNat then s
    else
      let s1 := if b.toNat < t.bars ∧ (barMember bar).testBit 17 then
          s.putBar tid b.toNat (barArrive bar 17 false) else s
      let s2 := s1.doneM tid id
      (s2.updCore (teamCore tid) (fun k => { k with matSwitch := true })).endWaits tid (t.msn.zeroExtend 64))

/-- A word that is no M instruction (R70). -/
def execEIllegalMWord (_v : W32) (s : State) : Out := mWord s (fun tid e _ => s.raiseM tid { code := 0x201 } e)

/-- The two descriptor entries at a queue's head are applied, or the first of them alone is taken (R282). -/
def Team.applyDesc (t : Team) : Team :=
  match t.mLive.head? with
  | some e =>
    match e.kind with
    | .descriptor n high =>
      let t1 := { t with mq := consumeHead t.mq }
      if high then { t1 with md := spSet t1.md n (e.val ++ t.mdLow) } else { t1 with mdLow := e.val }
    | _ => t
  | none => t

/-- MDSET_APPLY of team a (R282): the unit consumes the descriptor entry at the head of its queue. -/
def execEMdsetApply (s : State) : Out :=
  match s.cur with
  | .event x => .next (if s.hasTeam x.a && (s.team x.a).mHeld.isNone then s.updTeam x.a Team.applyDesc else s)
  | _ => .next s

/-! ## When a word may start (R228, R281) -/

/-- An M-word stands at the head of a team's matrix queue, and the team does not wait at an MBATCH (R281, R296). -/
def State.mWord (s : State) (tid : Nat) : Bool :=
  let t := s.team tid
  match t.mLive.head? with
  | some e =>
    e.kind == .word && t.mHeld.isNone &&
      (match decodeM e.word with | some (.mMbatch b _) => !t.mArrived b.toNat | _ => true)
  | none => false

/-- The word at the head of a team's matrix queue may start: no FENCE keeps it back (R228). -/
def State.mReady (s : State) (tid : Nat) : Bool :=
  s.mWord tid && (List.range (s.team tid).groups).all (fun g => !(s.grp (groupId tid g)).fenceHolds 1 (s.team tid).mDone)

/-- The team that the matrix unit of a core serves next, if one has a word to start: the served team stays at a word that
only a FENCE keeps back and at a marker that can commit, which are no switch points (R281). -/
def State.mChoose (s : State) (c : Nat) : Option Nat :=
  let k := s.core c
  let cur := c * 4 + k.served
  let ready (tid : Nat) : Bool := s.hasTeam tid && s.mReady tid
  if s.hasTeam cur && (s.mWord cur || s.mayCommit cur) && !k.matSwitch then (if s.mReady cur then some cur else none)
  else
    match ((List.range 3).map (fun i => c * 4 + (k.served + 1 + i) % 4)).find? ready with
    | some t => some t
    | none => if ready cur then some cur else none

end Sys2Proof.Machine
end

