-- ==== Sys2Proof/Machine/Launches.lean ====
section
/-! DEFINITION. Machine/Launches.lean: the body of a launch, its checks, and the task range table (R25, R314, R335, R336,
R355). -/

namespace Sys2Proof.Machine

/-! ## Fields of a launch (R335, R355) -/

/-- Offset and size in bytes of a field in a LAUNCH packet; none for a number that is no field. -/
def fieldPlace (n : Nat) : Option (Nat × Nat) :=
  match n with
  | 0 => some (0x08, 8)
  | 1 => some (0x18, 8)
  | 2 => some (0x20, 2)
  | 3 => some (0x22, 2)
  | 4 => some (0x24, 2)
  | 5 => some (0x28, 1)
  | 6 => some (0x29, 1)
  | 7 => some (0x2A, 1)
  | 8 => some (0x2B, 1)
  | 9 => some (0x2C, 1)
  | 10 => some (0x2D, 1)
  | 11 => some (0x2E, 1)
  | 12 => some (0x2F, 1)
  | 13 => some (0x30, 4)
  | 14 => some (0x34, 4)
  | 15 => some (0x38, 1)
  | 16 => some (0x39, 1)
  | 17 => some (0x40, 8)
  | 18 => some (0x48, 8)
  | 19 => some (0x50, 8)
  | 20 => some (0x58, 8)
  | 21 => some (0x60, 8)
  | 22 => some (0x68, 1)
  | 23 => some (0x70, 8)
  | _ => none

/-- Bits [63:47] of an entry are all equal (R31). -/
def entryOk (v : Nat) : Bool := decide (v < 2 ^ 47) || decide (2 ^ 64 - 2 ^ 47 ≤ v)

/-- A value lies in its field's range (R335). Gang shape and affinity function are judged with the rectangle (R336). -/
def fieldInRange (n v : Nat) : Bool :=
  match n with
  | 0 => entryOk v
  | 2 | 3 | 4 => decide (1 ≤ v)
  | 5 | 6 => decide (v ≤ 31)
  | 7 | 8 => decide (1 ≤ v) && decide (v ≤ 32)
  | 9 => decide (1 ≤ v) && decide (v ≤ 16)
  | 10 => decide (v ≤ 16)
  | 11 => decide (v ≤ 32)
  | 13 => v % 256 == 0 && decide (v ≤ 786432)
  | 14 => v % 4096 == 0 && decide (v ≤ 131072)
  | 22 => decide (2 ≤ v) && decide (v ≤ 4)
  | _ => true

/-- Alignment of a field (R336, R337). -/
def fieldAligned (n v : Nat) : Bool :=
  match n with
  | 0 => v % 4 == 0
  | 19 => v % 65536 == 0
  | 20 => v % 8 == 0
  | _ => true

/-- A field of a launch. -/
def Launch.get (l : Launch) (n : Nat) : Nat := (spGet l.field n).toNat
/-- Sides of a gang of the launch, 1 by 1 without one. -/
def Launch.gangW (l : Launch) : Nat := 2 ^ (l.get 12 % 16)
/-- Height of a gang of the launch. -/
def Launch.gangH (l : Launch) : Nat := 2 ^ (l.get 12 / 16)
/-- Teams of the grid. -/
def Launch.total (l : Launch) : Nat := l.get 2 * l.get 3 * l.get 4
/-- A core lies in the launch's rectangle. -/
def Launch.holds (l : Launch) (c : Nat) : Bool :=
  decide (l.get 5 ≤ coreX c) && decide (coreX c < l.get 5 + l.get 7) && decide (l.get 6 ≤ coreY c)
    && decide (coreY c < l.get 6 + l.get 8)
/-- Die of the rectangle's origin core: its distributor leads (R18). -/
def Launch.lead (l : Launch) : Nat := coreDie (coreAt (l.get 5) (l.get 6))

/-- The exchange window agrees with the gang and the share (R200, R335). -/
def Launch.windowOk (l : Launch) : Bool := l.get 14 == 0 || (l.get 12 != 0 && decide (2 * l.get 14 ≤ l.get 13))

/-- Gang shape, affinity function and team count (R317, R319, R336). -/
def Launch.shapeOk (l : Launch) : Bool :=
  let g := l.get 12
  decide (g % 16 ≤ 5) && decide (g / 16 ≤ 5) && decide (l.get 15 ≤ 2) && l.total % (l.gangW * l.gangH) == 0 &&
    (g == 0 || (l.get 5 % l.gangW == 0 && l.get 7 % l.gangW == 0 && l.get 6 % l.gangH == 0 && l.get 8 % l.gangH == 0))

/-- The rectangle lies in the mesh and holds no absent core (R18, R25). -/
def State.meshOk (s : State) (l : Launch) : Bool :=
  decide (l.get 5 + l.get 7 ≤ 32) && decide (l.get 6 + l.get 8 ≤ 32) &&
    (List.range 1024).all (fun c => !l.holds c || !s.absent c)

/-- Checks 2 and 3 of R336: the code that rejects a launch. -/
def State.rejects (s : State) (l : Launch) : Option Nat :=
  if !s.meshOk l then some 0x40 else if !l.shapeOk then some 0x41 else none

/-! ## LAUNCH packets (R335, R336) -/

/-- n bytes of a packet at an offset; no field straddles a doubleword. -/
def pktField (p : Packet) (o n : Nat) : Nat := (p.body.getD ((o - 8) / 8) 0).toNat / 2 ^ (8 * (o % 8)) % 2 ^ (8 * n)

/-- Hotness, read and write ranges of a packet. -/
def pktCounts (p : Packet) : Nat × Nat × Nat := (fieldOf p.hdr 0 4, fieldOf p.hdr 4 4, fieldOf p.hdr 8 4)

/-- Base and second doubleword of declared range k. -/
def pktRange (p : Packet) (k : Nat) : Nat × Nat := (pktField p (0x78 + 16 * k) 8, pktField p (0x80 + 16 * k) 8)

/-- The launch that a packet asks for, at the parse pointer of a queue. A declared range of length 0 is ignored (R336). -/
def launchOf (i q : Nat) (x : Queue) (p : Packet) : Launch :=
  let (h, r, w) := pktCounts p
  let fs : Sparse 64 := (List.range 24).foldl (fun a n =>
    match fieldPlace n with
    | some (o, k) => spSet a n (w64 (pktField p o k))
    | none => a) []
  let pr := pktField p 0x39 1
  let tag := pktField p 0x70 8
  { iod := i, q := q, pktOff := x.offset, pktAddr := x.unitVa 0, asid := x.asid
    prio := if 128 ≤ pr then pr % 8 else x.prio
    field := fs, prologue := w64 (pktField p 0x10 8)
    hots := ((List.range h).map (fun k =>
      let b := pktRange p k
      ({ tag := w64 tag, base := w64 b.1, len := w64 (b.2 % 2 ^ 48), cls := b.2 / 2 ^ 48 % 4, asid := x.asid } : Hot))).filter
      (fun r => r.len != 0)
    reads := (List.range r).map (fun k => pktRange p (h + k))
    writes := (List.range w).map (fun k => pktRange p (h + r + k)) }

/-- Reserved fields of a LAUNCH body are zero (check 3 of R325). -/
def launchReserved (p : Packet) : Bool :=
  pktField p 0x26 2 == 0 && pktField p 0x3A 6 == 0 && pktField p 0x69 7 == 0 && pktField p 0x39 1 / 8 % 16 == 0 &&
    (List.range (pktCounts p).1).all (fun k => decide ((pktRange p k).2 < 2 ^ 50))

/-- One field's range and then its alignment (check 1 of R336). -/
def Launch.fieldCode (l : Launch) (n : Nat) : Option Nat :=
  if !fieldInRange n (l.get n) || (n == 14 && !l.windowOk) then some 0x18
  else if !fieldAligned n (l.get n) then some 0x19
  else none

/-- Range and alignment of the prologue address, which a LAUNCH leaves zero. -/
def Launch.prologueCode (l : Launch) (indirect : Bool) : Option Nat :=
  let v := l.prologue.toNat
  if !indirect then (if v = 0 then none else some 0x18)
  else if v = 0 ∨ !entryOk v then some 0x18
  else if v % 4 ≠ 0 then some 0x19
  else none

/-- Check 1 of R336: the header's counts, and then each field in ascending order of its offset; ok says which doublewords of
the packet could be read. -/
def launchFields (p : Packet) (l : Launch) (indirect : Bool) (ok : Nat → Bool := fun _ => true) : Option Nat :=
  let (h, r, w) := pktCounts p
  let code (n : Nat) : Option Nat :=
    match fieldPlace n with
    | some (o, _) => if ok (o / 8) && (n != 14 || (ok 5 && ok 6)) then l.fieldCode n else none
    | none => none
  if 8 < h ∨ 8 < r ∨ 8 < w then some 0x18
  else ((code 0).or (if ok 2 then l.prologueCode indirect else none)).or (((List.range 23).map (· + 1)).findSome? code)

/-! ## The task range table (R314) -/

/-- Granules of 256 bytes of a range; a range of length 0 has none. -/
def granules (r : Nat × Nat) : Option (Nat × Nat) := if r.2 = 0 then none else some (r.1 / 256, (r.1 + r.2 - 1) / 256)

/-- Two lists of ranges share a granule. -/
def shareGranule (a b : List (Nat × Nat)) : Bool :=
  a.any (fun x => b.any (fun y => match granules x, granules y with
    | some g, some h => decide (g.1 ≤ h.2) && decide (h.1 ≤ g.2)
    | _, _ => false))

/-- Two entries conflict. -/
def Launch.conflicts (a b : Launch) : Bool :=
  shareGranule a.writes (b.reads ++ b.writes) || shareGranule b.writes a.reads

/-- Entries of a Pewter's table for an address space. -/
def State.tableOf (s : State) (i asid : Nat) : List (Nat × Launch) :=
  s.launches.filter (fun e => e.2.iod == i && e.2.asid == asid)

/-- The table of an address space has a free entry. -/
def State.tableRoom (s : State) (i asid : Nat) : Bool := decide ((s.tableOf i asid).length < 256)

/-- No earlier entry that an entry conflicts with remains. -/
def State.clear (s : State) (lid : Nat) : Bool :=
  let l := s.launch lid
  (s.tableOf l.iod l.asid).all (fun e => decide (lid ≤ e.1) || !l.conflicts e.2)

/-- An entry joins the table. -/
def State.enterTable (s : State) (l : Launch) : State × Nat :=
  let n := s.nextLid
  let s1 := { s.setLaunch n l with nextLid := n + 1 }
  (if s1.clear n then s1 else s1.countPewter l.iod 7 1, n)

/-- An entry leaves the table. -/
def State.leaveTable (s : State) (lid : Nat) : State := { s with launches := kvDel s.launches lid }

/-- Entries of a queue that stand in the table: launches and copies (R333). -/
def State.queueBusy (s : State) (i q : Nat) : Bool := s.launches.any (fun e => e.2.iod == i && e.2.q == q)

/-- The copy engine of an I/O die with the fewest operations. -/
def State.idleEngine (s : State) (die : Nat) : Nat :=
  (leastBy (fun e => [(s.engine e).length, e]) ((List.range 8).map (fun k => die * 8 + k))).getD (die * 8)

/-- An entry whose conflicts have left goes on: a copy to an engine with room, a launch to its lead distributor (R314,
R334). -/
def State.dispatchLaunch (s : State) (lid : Nat) : State :=
  let l := s.launch lid
  match l.copy with
  | some a =>
    let e := s.idleEngine (8 + l.iod)
    if 64 ≤ (s.engine e).length then s
    else
      let n := s.opSerial
      let o : CopyOp :=
        { kind := .copy, by_ := .lane l.iod l.q lid, asid := l.asid, src := a.src, dst := a.dst, len := a.len
          loc := a.loc, overlap := overlaps a.src.toNat a.dst.toNat a.len, serial := n }
      { (s.setEngine e (s.engine e ++ [o])).setLaunch lid { l with stage := .running } with opSerial := n + 1 }
  | none =>
    (s.setLaunch lid { l with stage := .atLead, leadDie := l.lead }).updDie l.lead (fun d => { d with prologues := d.prologues ++ [lid] })

/-- LAUNCH_DISPATCH of entry a (R314). -/
def execELaunchDispatch (s : State) : Out :=
  match s.cur with
  | .event x =>
    .next (match kvFind s.launches x.a with
    | some l => if l.stage = .table_ ∧ s.clear x.a then s.dispatchLaunch x.a else s
    | none => s)
  | _ => .next s

end Sys2Proof.Machine
end

