-- ==== Sys2Proof/Machine/Packets.lean ====
section
/-! DEFINITION. Machine/Packets.lean: the meanings of the packets (R324 to R336), and the events that end a lane's wait
(R310, R332). -/

namespace Sys2Proof.Machine

/-! ## What every packet shares (R325, R329) -/

/-- A packet raises a queue error that names it; it has no effect. -/
def State.packetError (s : State) (i l code : Nat) : State :=
  let q := (s.lane i l).q
  let x := s.queue i q
  s.queueError i q code x.offset (x.unitVa 0) true

/-- A packet's check 5 of R325: for a lane and a packet, with the queue and the doublewords that could be read, the code of
the first value out of its range. -/
abbrev Range := Nat → Nat → Packet → Queue → (Nat → Bool) → Option Nat

/-- A packet without such a value. -/
def noRange : Range := fun _ _ _ _ _ => none

/-- A code where a condition holds. -/
def codeIf (b : Bool) (c : Nat) : Option Nat := if b then some c else none

/-- A packet at a lane's turn: checks 2 to 4 of R325, the skip of a PRED, check 5, the faults of its own bytes, and then its
effect. -/
def pPacket (len : Packet → Nat) (hdr : BitVec 48) (body : Packet → Bool) (rng : Range) (s : State)
    (k : Nat → Nat → Packet → Queue → State) : Out :=
  match s.cur with
  | .lane i l p =>
    let x := s.laneQueue i l
    let n := p.len.toNat
    let bad := ((s.window i l).take n).find? (fun u => u.2 != 0)
    .next (
      if n = 0 ∨ n ≠ len p then s.packetError i l 0x11
      else if p.hdr &&& ~~~hdr ≠ 0 || !body p then s.packetError i l 0x12
      else if x.level ≠ 0 ∧ x.lv.left < n then s.packetError i l 0x13
      else if (s.lane i l).skip then s.passPacket i l n false
      else match rng i l p x (fun j => (((s.window i l)[j]?).map (fun u => u.2 == 0)).getD false) with
        | some c => s.packetError i l c
        | none =>
          match bad with
          | some u => s.packetError i l u.2
          | none => k i l p x)
  | _ => .fault .noLane

/-- No reserved body field. -/
def anyBody (_ : Packet) : Bool := true

/-- Doubleword k of a packet, the header being doubleword 0. -/
def pktDw (p : Packet) (k : Nat) : W64 := p.body.getD (k - 1) 0

/-- An access of a packet to an aligned address (R325, orders 6 and 7): its places with the home first, or the error or
the wait that it brings; what reads host memory is tried again until the host's translation stands (R408). -/
def State.packetAccess (s : State) (i l : Nat) (va : W64) (n : Need)
    (k : State → List Nat → Nat → PageKind → State) : State :=
  match s.iodXlate i (s.laneQueue i l).asid va n with
  | (s1, .ok e z) =>
    let pls := placesOf (s1.die 0).devnum.toNat e z va
    if n.r && s1.hostWaits pls then (s1.askHost pls).updLane i l (fun k => { k with wait := .host })
    else k s1 pls (homePlace (s1.die 0).devnum.toNat e z va) (pteKind e)
  | (s1, .perm _) | (s1, .gone _) => s1.packetError i l 0x1D
  | (s1, .poison) => s1.packetError i l 0x1E
  | (s1, .park pi b z) => s1.parkLane i l va pi b z false

/-- Source tag of a lane's writes. -/
def laneUnit (i l : Nat) : Nat := 20480 + i * 64 + l

/-! ## NOP, FETCHFENCE, DRAIN, SETPRIO -/

/-- NOP of any length (R327). -/
def execPNopPacket (s : State) : Out :=
  pPacket (fun p => p.len.toNat) 0 anyBody noRange s (fun i l p _ => s.passPacket i l p.len.toNat false)

/-- FETCHFENCE discards the fetch-ahead of every level (R313, R333). -/
def execPFetchfence (s : State) : Out :=
  pPacket (fun _ => 1) 0 anyBody noRange s (fun i l _ _ =>
    ((s.updLane i l (fun k => { k with fetched := [[], [], [], [], []] })).countPewter i 6 1).passPacket i l 1 false)

/-- DRAIN holds the lane while a launch or copy of its queue stands in the table (R333). -/
def execPDrain (s : State) : Out :=
  pPacket (fun _ => 1) 0 anyBody noRange s (fun i l _ _ =>
    if s.queueBusy i (s.lane i l).q then s.updLane i l (fun k => { k with wait := .drain }) else s.passPacket i l 1 false)

/-- SETPRIO (R315, R333). -/
def execPSetprio (s : State) : Out :=
  pPacket (fun _ => 1) 7 anyBody noRange s (fun i l p x =>
    (s.setQueue i (s.lane i l).q { x with prio := fieldOf p.hdr 0 3 }).passPacket i l 1 false)

/-! ## CALLIB and loops -/

/-- The length field of a CALLIB is 32 bits wide. -/
def highZero (k : Nat) (p : Packet) : Bool := decide ((pktDw p k).toNat < 2 ^ 32)

/-- A CALLIB at the highest level, or with no length, or at a misaligned address (R328). -/
def callibRange : Range := fun _ _ p x ok =>
  (codeIf (decide (4 ≤ x.level) || (ok 2 && pktDw p 2 == 0)) 0x14).or (codeIf (ok 1 && (pktDw p 1).toNat % 8 != 0) 0x19)

/-- CALLIB enters a buffer at the next level (R328). -/
def execPCallib (s : State) : Out :=
  pPacket (fun _ => 3) 0 (highZero 2) callibRange s (fun i l p x =>
    let k := s.lane i l
    let y := { x.skip 3 with lastOff := some x.offset }
    let v : Level := { addr := pktDw p 1, left := (pktDw p 2).toNat, used := 0 }
    let y1 := { y with level := x.level + 1, levels := y.levels.set x.level v }
    ((s.setQueue i k.q y1).setLane i l { k with
      parsed := k.parsed + 1
      fetched := (k.fetched.modify x.level (fun f => f.drop 3)).set (x.level + 1) [] }).laneMoved i l)

/-- A LOOP of no passes, or a third one open (R330). -/
def loopRange : Range := fun _ _ p x _ => codeIf (fieldOf p.hdr 0 16 == 0 || decide (2 ≤ x.loops.length)) 0x15

/-- LOOP opens a loop at the packet after it (R330). -/
def execPLoop (s : State) : Out :=
  pPacket (fun _ => 1) 0xFFFF anyBody loopRange s (fun i l p x =>
    let e : LoopEntry := { start := (x.skip 1).unitVa 0, left := fieldOf p.hdr 0 16 - 1, level := x.level }
    (s.setQueue i (s.lane i l).q { x with loops := x.loops ++ [e] }).passPacket i l 1 false)

/-- The parse pointer moved back to an address of the present level (R330). -/
def Queue.back (x : Queue) (a : W64) : Queue :=
  if x.level = 0 then
    let off := ((a - x.base).toNat / 8) % x.capacity
    { x with ri := x.ri - BitVec.ofNat 32 ((x.ri.toNat + x.capacity - off) % x.capacity) }
  else
    let n := (x.lv.addr - a).toNat / 8
    let v : Level := { addr := a, left := x.lv.left + n, used := x.lv.used - n }
    { x with levels := x.levels.set (x.level - 1) v }

/-- An ENDLOOP with no loop of its level innermost (R330). -/
def endloopRange : Range := fun _ _ _ x _ => codeIf (!(x.loops.getLast?.any (fun e => e.level == x.level))) 0x16

/-- ENDLOOP goes back, discarding the level's fetch-ahead, or closes the innermost loop (R313, R330). -/
def execPEndloop (s : State) : Out :=
  pPacket (fun _ => 1) 0 anyBody endloopRange s (fun i l _ x =>
    match x.loops.getLast? with
    | none => s
    | some e =>
      let q := (s.lane i l).q
      if e.left = 0 then (s.setQueue i q { x with loops := x.loops.dropLast }).passPacket i l 1 false
      else
        let y := { x.back e.start with loops := x.loops.dropLast ++ [{ e with left := e.left - 1 }]
                                       lastOff := some x.offset }
        let s1 := (s.setQueue i q y).updLane i l (fun k => { k with
          parsed := k.parsed + 1, fetched := k.fetched.set x.level [] })
        (s1.countPewter i 6 1).laneMoved i l)

/-! ## PRED and WAITMEM (R327, R329, R332) -/

/-- Bytes of the location that a PRED or WAITMEM reads. -/
def testSize (p : Packet) : Nat := if p.hdr.getLsbD 3 then 8 else 4

/-- The read of a PRED or WAITMEM, and what follows when its condition holds or fails; line is the home's. -/
def State.testRead (s : State) (i l : Nat) (p : Packet) (k : State → Bool → Nat → State) : State :=
  s.packetAccess i l (pktDw p 1) .load (fun s1 pls home pk =>
    match s1.dieRead (8 + i) (readPlace (8 + i) pls) (testSize p) pk with
    | (s2, none) => s2.packetError i l 0x1E
    | (s2, some b) =>
      let m := pktDw p 3
      k s2 (condHolds (fieldOf p.hdr 0 3) (w64 (leNat b) &&& m) (pktDw p 2 &&& m)) (home / 128))

/-- A condition code that does not exist (R329). -/
def testRange : Range := fun _ _ p _ _ => codeIf (decide (5 < fieldOf p.hdr 0 3)) 0x1A

/-- A misaligned location of a PRED or WAITMEM (R327). -/
def testAlign (p : Packet) (ok : Nat → Bool) : Option Nat := codeIf (ok 1 && (pktDw p 1).toNat % testSize p != 0) 0x19

/-- The packet behind a PRED is a PRED, LOOP or ENDLOOP (R329). -/
def State.predLoops (s : State) (i l : Nat) (x : Queue) : Bool :=
  (if x.avail ≤ 4 then none else (s.window i l)[4]?).any (fun u =>
    u.2 == 0 && (hdrType u.1 == 5 || hdrType u.1 == 6 || hdrType u.1 == 7))

/-- PRED: its read is an acquire at SYS, and a condition that fails has the next packet skipped (R329). -/
def execPPred (s : State) : Out :=
  pPacket (fun _ => 4) 0xF anyBody (fun i l p x ok => ((testRange i l p x ok).or (codeIf (s.predLoops i l x) 0x1C)).or (testAlign p ok)) s
    (fun i l p _ => s.testRead i l p (fun s1 holds _ => s1.passPacket i l 4 (!holds)))

/-- What a WAITMEM does with a read of its word (R332). -/
def State.waitmem (s : State) (i l : Nat) (p : Packet) : State :=
  s.testRead i l p (fun s1 holds line =>
    if holds then s1.passPacket i l 4 false
    else s1.updLane i l (fun k => { k with wait := .waitmem line s1.clk false }))

/-- WAITMEM (R332). -/
def execPWaitmem (s : State) : Out := 
  pPacket (fun _ => 4) 0xF anyBody (fun i l p x ok => (testRange i l p x ok).or (testAlign p ok)) s (fun i l p _ => s.waitmem i l p)

/-- WAITMEM_REREAD of lane b of Pewter a: after a write of the line has been performed, or 1 µs after the last read
(R332). -/
def execEWaitmemReread (s : State) : Out :=
  match s.cur with
  | .event x =>
    .next (match (s.lane x.a x.b).wait with
    | .waitmem _ t woken =>
      if woken || decide (t + 1600 ≤ s.clk) then
        (s.updLane x.a x.b (fun k => { k with wait := .none })).waitmem x.a x.b (packetOf (s.window x.a x.b))
      else s
    | _ => s)
  | _ => .next s

/-! ## SIGNAL and TIMESTAMP (R331) -/

/-- A packet of n units has written: within the device the write has been performed and the lane goes on, outside it the lane
stays until the write has left quarantine (R312, R331). -/
def State.wrotePacket (s : State) (i l n : Nat) (pls : List Nat) : State :=
  if pls.any isFar then s.updLane i l (fun k => { k with wait := .sent n }) else s.passPacket i l n false

/-- The operation, scope or size of a SIGNAL does not exist, or its address is misaligned (R327, R331). -/
def signalRange : Range := fun _ _ p _ ok =>
  let sc := fieldOf p.hdr 3 3
  let z := fieldOf p.hdr 6 2
  (codeIf (decide (1 < fieldOf p.hdr 0 3) || decide (sc < 2) || decide (4 < sc) || decide (z < 2)) 0x1A).or
    (codeIf (ok 1 && (pktDw p 1).toNat % 2 ^ z != 0) 0x19)

/-- What a SIGNAL writes (R331): every earlier write of the lane has been performed before. -/
def State.signalWrite (s : State) (i l : Nat) (p : Packet) : State :=
  let op := fieldOf p.hdr 0 3
  let a := pktDw p 1
  let n := 2 ^ fieldOf p.hdr 6 2
  s.packetAccess i l a (if op = 0 then .store else .amo) (fun s1 pls home pk =>
    let v := (pktDw p 2).toNat % 2 ^ (8 * n)
    if !s1.egressRoom (8 + i) pls then s1.updLane i l (fun k => { k with wait := .egress })
    else if op = 0 then
      (s1.performAll (8 + i) [] (pls.map (· / 128)) (kvBytes [] (a.toNat % 128) (natLe n v)) pk.os (laneUnit i l) 8191
        (fieldOf p.hdr 3 3 == 4) none n).wrotePacket i l 3 pls
    else
      match s1.atomicDie (8 + i) (home :: pls.filter (fun y => y != home)) n 0 v 0 pk.os (laneUnit i l) with
      | (s2, none) => s2.packetError i l 0x1E
      | (s2, some _) => s2.wrotePacket i l 3 pls)

/-- SIGNAL with its operation. -/
def pSignal (s : State) : Out :=
  pPacket (fun _ => 3) 0xFF anyBody signalRange s (fun i l p _ => s.signalWrite i l p)

/-- SIGNAL WRITE (R331). -/
def execPSignalWrite (s : State) : Out := pSignal s
/-- SIGNAL ADD, and a SIGNAL of an operation that does not exist (R327, R331). -/
def execPSignalAdd (s : State) : Out := pSignal s

/-- The scope of a TIMESTAMP does not exist, or its address is misaligned (R327, R331). -/
def timestampRange : Range := fun _ _ p _ ok =>
  (codeIf (decide (fieldOf p.hdr 3 3 < 2) || decide (4 < fieldOf p.hdr 3 3)) 0x1A).or
    (codeIf (ok 1 && (pktDw p 1).toNat % 8 != 0) 0x19)

/-- What a TIMESTAMP writes. -/
def State.stampWrite (s : State) (i l : Nat) (p : Packet) : State :=
  let a := pktDw p 1
  s.packetAccess i l a .store (fun s1 pls _ pk =>
    if !s1.egressRoom (8 + i) pls then s1.updLane i l (fun k => { k with wait := .egress })
    else
      (s1.performAll (8 + i) [] (pls.map (· / 128)) (kvBytes [] (a.toNat % 128) (natLe 8 s.now)) pk.os (laneUnit i l) 8191
        false none 8).wrotePacket i l 2 pls)

/-- TIMESTAMP (R331). -/
def execPTimestamp (s : State) : Out :=
  pPacket (fun _ => 2) 0x38 anyBody timestampRange s (fun i l p _ => s.stampWrite i l p)

/-! ## COPY, LAUNCH, LAUNCHI (R314, R334 to R336) -/

/-- The entry that a COPY packet makes: its source is read, its destination written. -/
def copyEntry (i q : Nat) (x : Queue) (p : Packet) : Launch :=
  let n := fieldOf (pktDw p 3) 0 32
  { iod := i, q := q, pktOff := x.offset, pktAddr := x.unitVa 0, asid := x.asid
    copy := some { src := pktDw p 1, dst := pktDw p 2, len := n, loc := p.hdr.getLsbD 1, wait := p.hdr.getLsbD 0 }
    reads := [((pktDw p 1).toNat, n)], writes := [((pktDw p 2).toNat, n)] }

/-- The entry of a checked packet. -/
def entryOf (i q : Nat) (x : Queue) (p : Packet) : Launch :=
  if p.len = 4 then copyEntry i q x p else launchOf i q x p

/-- A packet's entry joins the task range table and the lane goes on, or waits for a free entry; a COPY with its wait bit
waits for its end (R314, R334). -/
def State.enter (s : State) (i l : Nat) (p : Packet) : State :=
  let x := s.laneQueue i l
  let e := entryOf i (s.lane i l).q x p
  if !s.tableRoom i x.asid then s.updLane i l (fun k => { k with wait := .table_ p })
  else
    let (s1, n) := s.enterTable e
    if (match e.copy with | some c => c.wait | none => false) then s1.updLane i l (fun k => { k with wait := .copy n })
    else s1.passPacket i l p.len.toNat false

/-- COPY (R334). -/
def execPCopyPacket (s : State) : Out :=
  pPacket (fun _ => 4) 3 (highZero 3) noRange s (fun i l p _ => s.enter i l p)

/-- LAUNCH and LAUNCHI: checked, and entered into the task range table (R335, R336). -/
def pLaunchPacket (indirect : Bool) (s : State) : Out :=
  let len (p : Packet) : Nat := let (h, r, w) := pktCounts p; 15 + 2 * (h + r + w)
  pPacket len 0xFFF launchReserved
    (fun i l p x ok => launchFields p (launchOf i (s.lane i l).q x p) indirect ok) s (fun i l p x =>
    match s.rejects (launchOf i (s.lane i l).q x p) with
    | some c => s.packetError i l c
    | none => s.enter i l p)

/-- LAUNCH (R335). -/
def execPLaunch (s : State) : Out := pLaunchPacket false s
/-- LAUNCHI (R316, R335). -/
def execPLaunchi (s : State) : Out := pLaunchPacket true s

/-- LANE_WAIT_END of lane b of Pewter a (R310, R312): a DRAIN, a full table, a waited COPY or a
write under way whose condition has come to hold. -/
def execELaneWaitEnd (s : State) : Out :=
  match s.cur with
  | .event x =>
    let pass (n : Nat) : State := s.passPacket x.a x.b n false
    .next (match (s.lane x.a x.b).wait with
    | .drain => if s.queueBusy x.a (s.lane x.a x.b).q then s else pass 1
    | .table_ p =>
      if s.tableRoom x.a (s.laneQueue x.a x.b).asid then
        (s.updLane x.a x.b (fun k => { k with wait := .none })).enter x.a x.b p
      else s
    | .copy n => if (kvFind s.launches n).isNone then pass 4 else s
    | .host => s.updLane x.a x.b (fun k => { k with wait := .none })
    | .sent n => if s.egressPast (laneUnit x.a x.b) then pass n else s
    | .egress =>
      let p := packetOf (s.window x.a x.b)
      let t := s.updLane x.a x.b (fun k => { k with wait := .none })
      if s.headType x.a x.b = 8 then t.signalWrite x.a x.b p else t.stampWrite x.a x.b p
    | _ => s)
  | _ => .next s

end Sys2Proof.Machine
end

