-- ==== Sys2Proof/Machine/Copies.lean ====
section
/-! DEFINITION. Machine/Copies.lean: the copy engines: one destination line of an operation at a time, and its end (R204,
R207, R228, R273 to R278, R334, R456). -/

namespace Sys2Proof.Machine

/-! ## What an operation reads and writes -/

/-- Where the bytes of a piece come from. -/
inductive PieceFrom where
  | bytes (l : List Byte)
  | share (off : Nat)
  | global (va : W64)
deriving DecidableEq, Repr

/-- Rows, row bytes, chunks to a row, tag and stride of a shape (R276). -/
structure Shape where
  rows : Nat
  cols : Nat
  fmt : Nat
  tag : Nat
  stride : Nat
deriving DecidableEq, Repr

/-- The shape of a COPYS. -/
def shapeOf (v : W64) : Shape :=
  { rows := fieldOf v 0 12 + 1, cols := fieldOf v 12 12 + 1, fmt := fieldOf v 24 4, tag := fieldOf v 28 4
    stride := fieldOf v 32 20 }

/-- Bytes of a row. -/
def Shape.rowBytes (h : Shape) : Nat := (shapeRow h.cols h.fmt).1
/-- Chunks of 16 bytes to a row. -/
def Shape.chunks (h : Shape) : Nat := (shapeRow h.cols h.fmt).2 / 16

/-- A shape that COPYS carries out (R276, R277). -/
def shapeValid (v : W64) : Bool :=
  let h := shapeOf v
  v.extractLsb' 52 12 == 0 && decide (h.fmt ≤ 5) && !(h.fmt == 5 && h.cols % 2 == 1) && decide (h.tag ≤ 4) &&
    h.chunks % 2 ^ h.tag == 0

/-- The 16 bytes that COPYS writes below an operand (R276). -/
def Shape.head (h : Shape) : List Byte :=
  natLe 4 0x48535A43 ++ natLe 1 h.fmt ++ natLe 1 h.tag ++ natLe 2 0 ++ natLe 4 h.rows ++ natLe 4 h.cols

/-- Bytes that an operation writes in all. -/
def CopyOp.total (o : CopyOp) : Nat :=
  match o.kind with
  | .shape => 16 + (shapeOf o.shape).rows * (shapeOf o.shape).chunks * 16
  | _ => o.len

/-- Bytes of the destination line that the operation comes to next. -/
def CopyOp.step (o : CopyOp) : Nat := min (o.total - o.done) (128 - (o.dst.toNat + o.done) % 128)

/-- Chunk n of a COPYS buffer: where its bytes come from, and how many; zeros follow (R276, R277). -/
def CopyOp.chunk (o : CopyOp) (n : Nat) : PieceFrom × Nat :=
  let h := shapeOf o.shape
  if n = 0 then (.bytes h.head, 16)
  else
    let r := (n - 1) / h.chunks
    let c := ((n - 1) % h.chunks) ^^^ (r % 2 ^ h.tag)
    (.global (o.src + w64 (r * h.stride + 16 * c)), min 16 (h.rowBytes - 16 * c))

/-- The pieces of the next destination line, each with its bytes read and its bytes written. -/
def CopyOp.pieces (o : CopyOp) : List (PieceFrom × Nat × Nat) :=
  match o.kind with
  | .shape => (List.range (o.step / 16)).map (fun k =>
      let c := o.chunk (o.done / 16 + k)
      (c.1, c.2, 16))
  | .zero => [(.bytes [], 0, o.step)]
  | .copy => [(if o.srcSp then .share (o.src.toNat + o.done) else .global (o.src + w64 o.done), o.step, o.step)]

/-! ## Reading -/

/-- Why a line is not written; full: the device's egress has no room for it, or the host's translation is being asked for
(R218, R408). -/
inductive CopyStop where
  | full
  | perm
  | gone
  | poison
  | park (pi : Bool) (va : W64) (base size : Nat)
deriving DecidableEq, Repr

/-- Translation by an engine through its own TLB, and on an I/O die through the ATS cache then (R360, R366). -/
def State.engineXlate (s : State) (e : Nat) (o : CopyOp) (va : W64) (n : Need) : State × Walk :=
  let die := e / 8
  let l := kvGet [] (s.die die).cetlb (e % 8)
  let put (t : State) (l : List Tlb) : State := t.updDie die (fun d => { d with cetlb := kvSet d.cetlb (e % 8) l })
  if die < 8 || l.any (fun t => t.hit (if upperHalf va then 0 else o.asid) va) then
    let r := s.translateVia l 256 die o.asid o.supper va n
    (put r.1 r.2.1, r.2.2)
  else
    match s.iodXlate (die - 8) o.asid va n o.supper with
    | (s1, .ok pte z) =>
      (put s1 (tlbFill l 256
        { asid := if upperHalf va then 0 else o.asid, base := va.toNat / z * z, size := z, pte := pte }), .ok pte z)
    | r => r

/-- An engine's access that does not go on (R273, R274, R364, R368). -/
def Walk.copyStop (w : Walk) (o : CopyOp) (va : W64) : Option CopyStop :=
  match w with
  | .ok _ _ => none
  | .perm _ => some .perm
  | .gone _ => some (match o.rewalk with
    | some (b, z) => if b ≤ va.toNat ∧ va.toNat < b + z then .gone else .perm
    | none => .perm)
  | .poison => some .poison
  | .park pi b z => some (.park pi va b z)

/-- A request of a team's operation reaches the L2 of the engine's die (R376). -/
def State.copyHeat (s : State) (e : Nat) (o : CopyOp) (va : W64) (pls : List Nat) : State :=
  match o.by_ with
  | .ctx id _ => if isTeamCtx id && !o.gone then s.heatReq (e / 8) (s.team id).lid va pls none else s
  | _ => s

/-- Global bytes that an engine reads, 64 at most at a time, each with its poison. -/
def State.copyRead (s : State) (e : Nat) (o : CopyOp) (va : W64) (n fuel : Nat) :
    State × Except CopyStop (List (Byte × Bool)) :=
  match fuel with
  | 0 => (s, .ok [])
  | k + 1 =>
    if n = 0 then (s, .ok [])
    else
      let m := min n (64 - va.toNat % 64)
      match s.engineXlate e o va .load with
      | (s1, .ok pte z) =>
        let die := e / 8
        let pl := readPlace die (placesOf (s1.die 0).devnum.toNat pte z va)
        if s1.hostWaits [pl] then (s1.askHost [pl], .error .full) else
        let (s2, l) := match (s1.copyHeat e o va [pl]).readHome die pl m (pteKind pte) with
          | (s2, some b) => (s2, b.map (fun x => (x, false)))
          | (s2, none) => (s2, (s2.bytes pl m).map (fun x => (x, true)))
        match s2.copyRead e o (va + w64 m) (n - m) k with
        | (s3, .ok r) => (s3, .ok (l ++ r))
        | (s3, .error x) => (s3, .error x)
      | (s1, w) => (s1, .error ((w.copyStop o va).getD .perm))

/-- The bytes of a piece, filled up with zeros. -/
def State.pieceRead (s : State) (e : Nat) (o : CopyOp) (p : PieceFrom × Nat × Nat) :
    State × Except CopyStop (List (Byte × Bool)) :=
  let pad (l : List (Byte × Bool)) : List (Byte × Bool) := l ++ List.replicate (p.2.2 - l.length) (0, false)
  match p.1 with
  | .bytes l => (s, .ok (pad (l.map (fun x => (x, false)))))
  | .share off =>
    match o.by_ with
    | .ctx id _ =>
      let t := s.team id
      (s, .ok (pad ((List.range p.2.1).map (fun k => (spGet t.sp (t.place (off + k)), t.spPoisoned (off + k))))))
    | _ => (s, .ok (pad []))
  | .global va =>
    match s.copyRead e o va p.2.1 4 with
    | (s1, .ok l) => (s1, .ok (pad l))
    | (s1, .error x) => (s1, .error x)

/-- The bytes of the next destination line. -/
def State.lineRead (s : State) (e : Nat) (o : CopyOp) : State × Except CopyStop (List (Byte × Bool)) :=
  o.pieces.foldl (fun a p =>
    match a with
    | (s1, .error x) => (s1, .error x)
    | (s1, .ok l) =>
      match s1.pieceRead e o p with
      | (s2, .ok r) => (s2, .ok (l ++ r))
      | (s2, .error x) => (s2, .error x)) (s, .ok [])

/-! ## Writing -/

/-- Sectors fed by poisoned data are marked poisoned (R207, R274). -/
def State.copyPoison (s : State) (pls : List Nat) (l : List (Byte × Bool)) : State :=
  pls.foldl (fun a p => l.zipIdx.foldl (fun b x => if x.1.2 then b.poisonSector (p + x.2) else b) a) s

/-- The next destination line is written, or why it is not. -/
def State.lineWrite (s : State) (e : Nat) (o : CopyOp) (l : List (Byte × Bool)) : State × Option CopyStop :=
  let at_ := o.dst.toNat + o.done
  let bs := l.map (fun x => x.1)
  if o.dstSp then
    match o.by_ with
    | .ctx id _ =>
      (s.updTeam id (fun t => l.zipIdx.foldl (fun a x => if x.1.2 then a.setPoison (at_ + x.2) true else a)
        (t.spWrite at_ bs)), none)
    | _ => (s, none)
  else
    let va := o.dst + w64 o.done
    match s.engineXlate e o va .store with
    | (s1, .ok pte z) =>
      let die := e / 8
      let all := placesOf (s1.die 0).devnum.toNat pte z va
      let pls := if o.loc then [readPlace die all] else all
      if !s1.egressRoom die pls then (s1, some .full) else
      let team := match o.by_ with | .ctx id _ => (if isTeamCtx id && !o.gone then id else 8191) | _ => 8191
      let s2 := (s1.copyHeat e o va pls).performAll die [] (pls.map (· / 128)) (kvBytes [] (va.toNat % 128) bs) (pteOs pte) (16384 + e) team false
      (s2.copyPoison pls l, none)
    | (s1, w) => (s1, w.copyStop o va)

/-! ## The end of an operation (R273, R274, R334) -/

/-- A status word: code, and bytes written. -/
def copyStatus (code done : Nat) : W64 := w64 (code * 2 ^ 56 + done % 2 ^ 32)

/-- A COPY packet's operation has ended: its entry leaves the table, and a status other than 0 stops the queue (R334,
R457); that of a wait that was abandoned is discarded. -/
def State.packetCopyEnd (s : State) (i q lid code : Nat) : State :=
  let l := s.launch lid
  let waits := match l.copy with | some c => c.wait | none => false
  let s1 := s.leaveTable lid
  if code = 0 then s1
  else if !waits then s1.lateStop i q 0x1B l.pktOff l.pktAddr
  else
    let here : Bool := match s.laneOf i q with
      | some n => (s.lane i n).wait == .copy lid
      | none => (s.queue i q).copyWait == some lid
    if here then s1.queueError i q 0x1B l.pktOff l.pktAddr true else s1

/-- An operation ends with a status: the token register takes it and the token clears (R32, R273). -/
def State.copyEnd (s : State) (e n : Nat) (o : CopyOp) (code : Nat) : State :=
  let s1 := s.setEngine e (delAt (s.engine e) n)
  match o.by_ with
  | .ctx id sd =>
    if o.gone ∨ o.dead ∨ sd = 0 then s1
    else s1.updCtx id (fun c => (c.put (BitVec.ofNat 6 sd) (copyStatus code o.done)).setTok sd false)
  | .lane i q lid => s1.packetCopyEnd i q lid code

/-- The operation is held for a page: a PARK record in its issuer's name, none for a pending-invalid page (R273). -/
def State.copyHold (s : State) (e n : Nat) (o : CopyOp) (pi : Bool) (va : W64) (base size : Nat) : State :=
  let s1 := s.setEngine e (setAt (s.engine e) n { o with held := some (base, size), heldPi := pi, rewalk := some (base, size) })
  if pi then s1
  else
    let page (r : Rec2) : Rec2 := { r with src := .engine e o.serial, page := base, pageSize := size }
    match o.by_ with
    | .lane i q _ => s1.send (page (queueRec i q 2 va 0 0 .nobody))
    | .ctx id _ =>
      if isTeamCtx id && !o.gone then s1.send (page (s.teamRec id 2 0 { t3 := va } .nobody))
      else
        let d := e / 8
        s1.send (page { kind := 2, head := recHead 2 0 d 0 0, body := { t3 := va }, die := d, permit := .dist d })

/-- The reply to the PARK record of an engine's operation (R273): 0 resumes, 1 ends with status 2, 2 kills the team. -/
def State.answerEngine (s : State) (e op reply : Nat) : State :=
  let hit (o : CopyOp) : Bool := o.serial == op && o.held.isSome && !o.heldPi
  let l := s.engine e
  let s1 := s.setEngine e (l.map (fun o =>
    if hit o then { o with held := none, lost := decide (1 ≤ reply) } else o))
  if reply < 2 then s1
  else (l.filter hit).foldl (fun a o => match o.by_ with
    | .ctx id _ => if isTeamCtx id && !o.gone then a.kill id 6 else a
    | _ => a) s1

/-- The status with which an operation ends before it writes anything: bad flags or shape, nothing to do, an overlap. -/
def CopyOp.refused (o : CopyOp) : Option Nat :=
  if o.badFlags || (o.kind == .shape && !shapeValid o.shape) then some 5
  else if o.total = 0 then some 0
  else if o.overlap then some 4
  else none

/-- A write of a share has its place in the core clock: after the words of generator and groups, and before the arriving
XSTs (R266). -/
def State.copyInOrder (s : State) (o : CopyOp) : Bool :=
  match o.dstSp, o.by_ with
  | true, .ctx id _ => s.clk % 2 == 1 && (s.team id).xstAt != some s.clk
  | _, _ => true

/-- An engine goes on with an operation: its next destination line, or its end. -/
def State.copyStep (s : State) (e n : Nat) (o : CopyOp) : State :=
  if o.dead || (o.gone && (o.srcSp || o.dstSp)) then s.copyEnd e n { o with dead := true } 0
  else if o.held.isSome || s.copyFenced o || !s.copyInOrder o then s
  else if o.lost then s.copyEnd e n o 2
  else
    match (if o.done = 0 then o.refused else none) with
    | some c => s.copyEnd e n o c
    | none =>
      let stop (t : State) (x : CopyStop) : State :=
        match x with
        | .full => t
        | .perm => t.copyEnd e n o 1
        | .gone => t.copyEnd e n o 2
        | .poison => t.copyEnd e n o 3
        | .park pi va b z => t.copyHold e n o pi va b z
      match s.lineRead e o with
      | (s1, .error x) => stop s1 x
      | (s1, .ok l) =>
        match s1.lineWrite e o l with
        | (s2, some x) => stop s2 x
        | (s2, none) =>
          let o1 := { o with done := o.done + o.step, poisoned := o.poisoned || l.any (fun x => x.2), rewalk := none }
          if o1.done < o1.total then s2.setEngine e (setAt (s2.engine e) n o1)
          else s2.copyEnd e n o1 (if o1.poisoned then 3 else 0)

/-- COPY_OPERATION_END: engine a goes on with operation b of its queue; which of its lines and operations is next is the
world's choice (R273, R274). -/
def execECopyOperationEnd (s : State) : Out :=
  match s.cur with
  | .event x =>
    .next (match (s.engine x.a)[x.b]? with
    | some o => s.copyStep x.a x.b o
    | none => s)
  | _ => .next s

end Sys2Proof.Machine
end

