-- ==== Sys2Proof/Machine/Prologue.lean ====
section
/-! DEFINITION. Machine/Prologue.lean: the prologue words of major 0x1E, the start of a prologue and of its repeats, and
the rejection of a launch after its prologue (R316, R354 to R356). -/

namespace Sys2Proof.Machine

/-! ## The prologue context (R316, R354) -/

/-- The prologue context of a die has ended: its registers are gone, and its copies report to nobody. -/
def State.endPrologue (s : State) (die : Nat) : State :=
  let id := proCtx die
  let mine (o : CopyOp) : CopyOp :=
    match o.by_ with
    | .ctx k _ => if k = id then { o with gone := true } else o
    | _ => o
  let s1 := (s.disarm (s.ctx id).monitor).updDie die (fun d => { d with prologue := none })
  { s1 with ctxs := kvDel s1.ctxs id, engines := kvMap (fun _ l => l.map mine) s1.engines }

/-- A launch leaves the order of its lead distributor. -/
def State.leaveLead (s : State) (lid : Nat) : State :=
  s.updDie (s.launch lid).leadDie (fun d => { d with prologues := d.prologues.erase lid })

/-- A launch is rejected after its prologue (R316): no team of the run is created, it leaves the table without a signal,
its lead distributor writes the record, and its queue is stopped. -/
def State.rejectLaunch (s : State) (lid code : Nat) : State :=
  let l := s.launch lid
  let r := { queueRec l.iod l.q 1 0 (errorField code l.pktOff) l.pktAddr .nobody with permit := .dist l.leadDie }
  ((((s.leaveLead lid).leaveTable lid).send r).fire (8 + l.iod) 3).lateStop l.iod l.q code l.pktOff l.pktAddr

/-- LGO and LREPEAT release a launch to placement, once it has passed the mesh checks again (R316). An exchange window that
a later LSET of the gang or the share has made wrong fails with them (assumption 43). -/
def State.releaseLaunch (s : State) (lid : Nat) : State :=
  let l := s.launch lid
  match (s.rejects l).or (if l.windowOk then none else some 0x41) with
  | some c => s.rejectLaunch lid c
  | none => s.setLaunch lid { l with stage := .handout }

/-- LCANCEL ends the launch: no team of the run is created, and its completion signal is due (R314, R356). -/
def State.cancelLaunch (s : State) (lid : Nat) : State :=
  let s1 := s.leaveLead lid
  if (s.launch lid).cancelled then s1.leaveTable lid
  else s1.updLaunch lid (fun l => { l with stage := .signal, inSeries := false, lastDie := l.leadDie })

/-- The prologue of a launch starts on its lead distributor's context (R354). -/
def State.startPrologue (s : State) (lid : Nat) : State :=
  let l := s.launch lid
  let c : Ctx := { pc := l.prologue.extractLsb' 0 48 }
  let c1 := ((c.put 4 (spGet l.field 1)).put 6 (spGet l.field 23)).put 7 (w64 l.run)
  ((s.setLaunch lid { l with stage := .prologue }).setCtx (proCtx l.leadDie) c1).updDie l.leadDie
    (fun d => { d with prologue := some lid })

/-- PROLOGUE_START of die a: the LAUNCHI at the head of its order (R316). -/
def execEPrologueStart (s : State) : Out :=
  match s.cur with
  | .event x =>
    .next (match (s.die x.a).prologues with
    | lid :: _ =>
      if (s.die x.a).prologue.isNone ∧ (s.launch lid).stage = .atLead ∧ (s.launch lid).prologue ≠ 0 then
        s.startPrologue lid
      else s
    | [] => s)
  | _ => .next s

/-- PROLOGUE_REPEAT of launch a: the prologue of the next run (R356). -/
def execEPrologueRepeat (s : State) : Out :=
  match s.cur with
  | .event x =>
    let l := s.launch x.a
    .next (if l.stage = .between ∧ (s.die l.leadDie).prologue = none then
        (s.setLaunch x.a { l with run := l.run + 1 }).startPrologue x.a
      else s)
  | _ => .next s

/-! ## The words (R355, R356) -/

/-- A word of major 0x1E, with its launch: G_PRIV outside the prologue context (R58). -/
def gPro (use : List (BitVec 6)) (s : State) (k : Nat → Nat → W32 → Ctx → State) : Out :=
  gWord use s (fun id w c =>
    if isPro id then k id ((s.die (ctxDie id)).prologue.getD 0) w c else s.raiseG id { code := 0x2 } w)

/-- A value that LSET lets a field of a launch take: the range of R335, with alignment; an exchange window needs a gang and a
share of twice its bytes (R200, R355). -/
def lsetOk (l : Launch) (n v : Nat) : Bool :=
  fieldInRange n v && fieldAligned n v &&
    (match n with
     | 14 => v == 0 || (l.get 12 != 0 && decide (2 * v ≤ l.get 13))
     | 12 => decide (v % 16 ≤ 5) && decide (v / 16 ≤ 5)
     | 16 => v / 8 % 16 == 0
     | _ => true)

/-- LSET: the value is narrowed to the field's size and then judged. The launch's priority stays as R315 fixed it. -/
def execGLset (a : BitVec 6) (f : BitVec 6) (s : State) : Out :=
  gPro [a] s (fun id lid w c =>
    let bad := s.raiseG id { code := 0x10, t4 := w64 f.toNat, t5 := c.get a } w
    match (if f.toNat < 23 then fieldPlace f.toNat else none) with
    | none => bad
    | some (_, k) =>
      let v := (c.get a).toNat % 2 ^ (8 * k)
      if lsetOk (s.launch lid) f.toNat v then
        (s.updLaunch lid (fun l => { l with field := spSet l.field f.toNat (w64 v) })).setCtx id (c.done)
      else bad)

/-- LGET. -/
def execGLget (d : BitVec 6) (f : BitVec 6) (s : State) : Out :=
  gPro [d] s (fun id lid w c =>
    if 24 ≤ f.toNat then s.raiseG id { code := 0x10, t4 := w64 f.toNat } w
    else s.setCtx id ((c.put d (spGet (s.launch lid).field f.toNat)).done))

/-- LCANCEL. -/
def execGLcancel (s : State) : Out :=
  gPro [] s (fun id lid _ _ => (s.endPrologue (ctxDie id)).cancelLaunch lid)

/-- LREPEAT opens a series in the first run; in a later run its count is ignored. -/
def execGLrepeat (a : BitVec 6) (s : State) : Out :=
  gPro [a] s (fun id lid w c =>
    let n := (c.get a).toNat
    let s1 := s.endPrologue (ctxDie id)
    if (s.launch lid).inSeries then s1.releaseLaunch lid
    else if n = 0 ∨ 65535 < n then s.raiseG id { code := 0x10, t4 := 63, t5 := c.get a } w
    else (s1.updLaunch lid (fun l => { l with runs := n, inSeries := true })).releaseLaunch lid)

/-- LGO. -/
def execGLgo (s : State) : Out :=
  gPro [] s (fun id lid _ _ => (s.endPrologue (ctxDie id)).releaseLaunch lid)

/-- The reply to a prologue's record (R354): 0 retries, 1 skips the word or takes UNMAPPED, 2 ends the launch without a
signal, and a KILL record with reason 6 follows. -/
def State.killPrologue (s : State) (die : Nat) : State :=
  let lid := (s.die die).prologue.getD 0
  let tag := spGet (s.launch lid).field 23
  ((((s.endPrologue die).leaveLead lid).leaveTable lid).send
    { kind := 4, head := recHead 4 6 die 0 0, tag := tag, die := die, permit := .dist die }).fire die 4

end Sys2Proof.Machine
end

