-- ==== Sys2Proof/Machine/Distribute.lean ====
section
/-! DEFINITION. Machine/Distribute.lean: the distributors: affinity, pending lists, gangs, admission, retirement and the
completion signal (R19, R30, R198, R201, R285, R316 to R319, R338, R376, R458). -/

namespace Sys2Proof.Machine

/-! ## Affinity (R317, R318) -/

/-- Coordinates of team t of a launch's grid. -/
def Launch.coords (l : Launch) (t : Nat) : Nat × Nat × Nat := (t % l.get 2, t / l.get 2 % l.get 3, t / l.get 2 / l.get 3)

/-- Cores of a cluster of a die, in order of their number within it (R12). -/
def clusterCores (die cl : Nat) : List Nat :=
  (List.range 8).map (fun k => coreAt (die % 2 * 16 + cl % 4 * 4 + k % 4) (die / 2 * 8 + cl / 4 * 2 + k / 4))

/-- A cluster of a compute die has a core in the rectangle. -/
def Launch.reaches (l : Launch) (die cl : Nat) : Bool := decide (die < 8) && (clusterCores die cl).any l.holds

/-- Function 0: row-major. -/
def Launch.rowMajor (l : Launch) (t : Nat) : Nat × Nat :=
  let c := t % (l.get 7 * l.get 8)
  let k := coreAt (l.get 5 + c % l.get 7) (l.get 6 + c / l.get 7)
  (coreDie k, coreCluster k)

/-- The place that a launch's address has for a read, if its walk ends in the last row of R364. -/
def State.tilePlace (s : State) (l : Launch) (va : W64) : Option Nat :=
  match s.translateWalk l.leadDie l.asid false va .load with
  | .ok e z => some (homePlace (s.die 0).devnum.toNat e z va)
  | _ => none

/-- A die has a core in the launch's rectangle. -/
def Launch.reachesDie (l : Launch) (die : Nat) : Bool := decide (die < 8) && (List.range 16).any (l.reaches die)

/-- Byte t of an affinity table, if it can be read: n free values stand for what the outside returns. -/
def State.tileByte (s : State) (l : Launch) (t : Nat) (p : Nat) : Option Nat :=
  if isFar p then (s.farRoute l.leadDie p).map (fun _ => (Config.outsideByte (s.freeCtr + t)).toNat)
  else if s.readsBad p then none else some (s.byte p).toNat

/-- Places of the bytes of a launch's affinity table (R317). -/
def State.tablePlaces (s : State) (l : Launch) : List Nat :=
  if l.get 15 = 2 then (List.range l.total).filterMap (fun t => s.tilePlace l (spGet l.field 17 + w64 t)) else []

/-- The walks and the reads of a launch's affinity function are made (R207, R317, R361). -/
def State.affinityReads (s : State) (l : Launch) : State :=
  let step := match l.get 15 with | 1 => some (spGet l.field 18) | 2 => some 1 | _ => none
  let s1 := match step with
    | some k => (List.range l.total).foldl (fun a t =>
        (a.walkRead l.leadDie l.asid false (spGet l.field 17 + w64 t * k) .load).1) s
    | none => s
  (((s.tablePlaces l).filter (fun p => isLocal p && !isMmio p)).map (· / 128)).eraseDups.foldl
    (fun a line => a.homeRead l.leadDie line 0) s1

/-- Die and cluster of team t (R317). -/
def State.affinity (s : State) (l : Launch) (t : Nat) : Nat × Nat :=
  let p0 := spGet l.field 17
  let at_ (p : Nat × Nat) : Nat × Nat := if l.reaches p.1 p.2 then p else l.rowMajor t
  match l.get 15 with
  | 1 =>
    match s.tilePlace l (p0 + w64 t * spGet l.field 18) with
    | some p => if isLocal p && l.reachesDie (homeDie p) then (homeDie p, sliceOf (p / 128) / 8) else l.rowMajor t
    | none => l.rowMajor t
  | 2 =>
    match (s.tilePlace l (p0 + w64 t)).bind (s.tileByte l t) with
    | some b => if 128 ≤ b then l.rowMajor t else at_ (b / 16, b % 16)
    | none => l.rowMajor t
  | _ => l.rowMajor t

/-! ## Hand-out (R316, R319, R376) -/

/-- A die loads a launch's hotness ranges; those that find the table of 64 full are not loaded (R376). -/
def State.loadHot (s : State) (lid d : Nat) : State :=
  let l := s.launch lid
  if l.hots.isEmpty then s
  else s.updDie d (fun k => { k with hot := (k.hot ++ l.hots.map (fun (h : Hot) => { h with lid := lid })).take 64 })

/-- The teams of a launch without a gang join the pending lists that the affinity function chooses. -/
def State.handTeams (s : State) (lid : Nat) : State :=
  let l := s.launch lid
  let ps := (List.range l.total).map (fun t => (t, s.affinity l t))
  let entry (p : Nat × Nat × Nat) : Waiting :=
    { lid := lid, num := p.1, run := l.run, cluster := p.2.2, prio := l.prio, order := s.opSerial }
  let s0 := s.affinityReads l
  let s1 := ps.foldl (fun a p => a.updDie p.2.1 (fun d => { d with pending := d.pending ++ [entry p] }))
    { s0 with freeCtr := s0.freeCtr + l.total }
  ((ps.map (fun p => p.2.1)).eraseDups).foldl (fun a d => a.loadHot lid d) s1

/-- Gang k of a launch, on its sub-rectangle. -/
def Launch.gang (l : Launch) (lid k order clk : Nat) : Gang :=
  let cols := l.get 7 / l.gangW
  let j := k % (cols * (l.get 8 / l.gangH))
  { lid := lid, ox := l.get 5 + j % cols * l.gangW, oy := l.get 6 + j / cols * l.gangH, w := l.gangW, h := l.gangH
    first := k * (l.gangW * l.gangH), run := l.run, prio := l.prio, order := order, since := clk, xwin := l.get 14 }

/-- The gangs of a launch begin to wait. -/
def State.handGangs (s : State) (lid : Nat) : State :=
  let l := s.launch lid
  let n := l.total / (l.gangW * l.gangH)
  let gs := (List.range n).map (fun k => l.gang lid k s.opSerial s.clk)
  let s1 := (gs.zipIdx).foldl (fun a g => { a with gangs := kvSet a.gangs (s.nextGang + g.2) g.1 }) s
  ((List.range 8).filter (fun d => gs.any (fun g => g.touches d))).foldl (fun a d => a.loadHot lid d)
    { s1 with nextGang := s.nextGang + n }

/-- A launch is handed out: its teams are numbered and wait. A table in host memory is read once the host's translations stand
(R408). -/
def State.handOut (s0 : State) (lid : Nat) : State :=
  let l := s0.launch lid
  if s0.hostWaits (s0.tablePlaces l) then s0.askHost (s0.tablePlaces l) else
  let s := (s0.leaveLead lid).setLaunch lid { l with stage := .running, teamsLeft := l.total }
  let s1 := if l.get 12 = 0 then s.handTeams lid else s.handGangs lid
  { s1 with opSerial := s.opSerial + 1 }

/-- TEAM_DISTRIBUTION of launch a: a prologue has released it, or it is a plain launch at the head of its order (R316). -/
def execETeamDistribution (s : State) : Out :=
  match s.cur with
  | .event x =>
    let l := s.launch x.a
    let head := (s.die l.leadDie).prologues.head? == some x.a && (s.die l.leadDie).prologue.isNone
    .next (if l.stage = .handout ∨ (l.stage = .atLead ∧ l.prologue = 0 ∧ head) then s.handOut x.a else s)
  | _ => .next s

/-! ## Resources of a core (R198, R285, R317, R319) -/

/-- What a team needs of its core: a slot, group slots, scratchpad units, accumulator slots and barriers. -/
def Launch.needs (l : Launch) : List Nat := [1, l.get 9, (l.get 13 + 65535) / 65536, l.get 10, l.get 11]

/-- Team slots of a core in use. -/
def State.slotsOf (s : State) (c : Nat) : List Nat := [0, 1, 2, 3].filter (fun k => s.hasTeam (c * 4 + k))

/-- What a core has free; a lent unit can be reclaimed (R201). -/
def State.freeOn (s : State) (c : Nat) : List Nat :=
  let k := s.core c
  [4 - (s.slotsOf c).length, 16 - (s.slotsOf c).foldl (fun a n => a + (s.team (c * 4 + n)).groups) 0,
    12 - k.unitsUsed.length, 16 - k.accUsed.length, 32 - k.barsUsed]

/-- A gang's sub-rectangle holds a core. -/
def Gang.holds (g : Gang) (c : Nat) : Bool :=
  decide (g.ox ≤ coreX c) && decide (coreX c < g.ox + g.w) && decide (g.oy ≤ coreY c) && decide (coreY c < g.oy + g.h)

/-- What a core has left once the gangs numbered below a bound have reserved what they need of it, the earlier first
(R319). -/
def State.unreserved (s : State) (c upTo : Nat) : List Nat :=
  (s.gangs.filter (fun e => e.2.waiting && decide (e.1 < upTo) && e.2.holds c)).foldl (fun f e =>
    List.zipWith (fun a n => a - n) f (s.launch e.2.lid).needs) (s.freeOn c)

/-- A gang that has waited 64 µs bars teams of later launches of equal or lower priority from its cores (R319). -/
def State.barred (s : State) (c order prio : Nat) : Bool :=
  s.gangs.any (fun e => e.2.waiting && e.2.expired && e.2.holds c && decide (e.2.order < order) && decide (prio ≤ e.2.prio))

/-- A core can take a team with given needs. -/
def State.fits (s : State) (c upTo order prio : Nat) (needs : List Nat) : Bool :=
  !s.absent c && !s.barred c order prio && (List.zip needs (s.unreserved c upTo)).all (fun p => decide (p.1 ≤ p.2))

/-! ## Admission (R30, R49, R198, R199, R285, R389) -/

/-- A team takes its resources from a core: the highest-numbered lent units and the lowest free accumulator slots; units
and accumulator slots given. -/
def Core.take (k : Core) (units accs bars : Nat) : Core × List Nat × List Nat :=
  let us := (k.lent.reverse.take units).reverse
  let as_ := ((List.range 16).filter (fun a => !k.accUsed.contains a)).take accs
  ({ k with
      lent := k.lent.filter (fun u => !us.contains u), unitsUsed := us.foldl natAdd k.unitsUsed
      accUsed := as_.foldl natAdd k.accUsed, barsUsed := k.barsUsed + bars }, us, as_)

/-- The lines of reclaimed units leave the L1: which lines lay in them is open, and as many go as it may no longer hold
(R201; assumption 10). -/
def State.reclaim (s : State) (core : Nat) : State :=
  let most := s.cacheLines core
  let n := (s.copies.filter (fun k => k.cache == core)).length
  (List.range (n - most)).foldl (fun a _ => a.makeRoom core most) s

/-- Team num of a launch starts on a core, in its lowest free slot. -/
def State.admitTeam (s : State) (lid num order core : Nat) (gang : Option Nat) (idx : Nat) : State :=
  let l := s.launch lid
  let tid := core * 4 + (([0, 1, 2, 3].filter (fun k => !s.hasTeam (core * 4 + k))).headD 0)
  let (x, y, z) := l.coords num
  let (k, us, as_) := (s.core core).take ((l.get 13 + 65535) / 65536) (l.get 10) (l.get 11)
  let t : Team :=
    { lid := lid, num := num, tag := spGet l.field 23, x := BitVec.ofNat 32 x, y := BitVec.ofNat 32 y
      z := BitVec.ofNat 32 z, asid := BitVec.ofNat 16 l.asid, groups := l.get 9, accs := l.get 10, bars := l.get 11
      share := l.get 13, xwin := l.get 14, prio := l.prio, order := order, swapArea := spGet l.field 19, gang := gang, gangIdx := idx
      units := us, slots := as_, free := as_, gbMember := if gang.isSome then List.range 8 else [] }
  let entry := (spGet l.field 0).extractLsb' 0 48
  let regs := [(1, w64 x), (2, w64 y), (3, w64 z), (4, spGet l.field 1),
    (5, w64 (coreX core - l.get 5 + (coreY core - l.get 6) * 2 ^ 32)), (6, w64 (l.get 9)), (7, w64 l.run)]
  let c : Ctx := { s := regs.foldl (fun a r => spSet a r.1 r.2) [], pc := entry, regpc := entry, pendEntry := entry }
  (List.range (l.get 9)).foldl (fun a g => a.setGrp (groupId tid g) {})
    (((((s.setCore core k).reclaim core).setTeam tid t).setCtx tid c).updLaunch lid (fun l => { l with
      admitted := natAdd l.admitted (coreDie core) }))

/-- Order of a pending list (R316). -/
def Waiting.key (w : Waiting) : List Nat := [bitN (!w.ahead), 7 - w.prio, w.order, w.num]

/-- An agent of a swapped team is not parked, or its page is there, or an answer for its park has come. -/
def State.pageReady (s : State) (w : Swapped) (parked : Bool) (va : W64) : Bool :=
  !parked || w.replies.any (fun r => r.1.kind == 2 && decide (r.1.page ≤ va.toNat) && decide (va.toNat < r.1.page + r.1.pageSize)) ||
    (match s.walk (coreDie w.core) w.team.asid.toNat va {} with
     | .park _ _ _ => false
     | _ => true)

/-- A swapped team may return: every page that it is parked on is there (R180). -/
def State.swapReady (s : State) (w : Swapped) : Bool :=
  s.pageReady w (w.ctx.wait == .parked) w.ctx.parkVa && w.groups.all (fun g => s.pageReady w (g.2.wait == .parked) g.2.parkVa)

/-- The team whose turn it is among those that wait for a cluster; a swapped team waits once its pages are there. -/
def State.nextWaiting (s : State) (die cl : Nat) : Option Waiting :=
  leastBy Waiting.key ((s.die die).pending.filter (fun w => w.cluster == cl &&
    (match w.swapped with | some x => s.swapReady x | none => true)))

/-- The core that takes a team: of those of its cluster and rectangle that have what it needs, the one with the fewest
teams, then the lowest number within the cluster (R317). -/
def State.pickCore (s : State) (die : Nat) (w : Waiting) : Option Nat :=
  let l := s.launch w.lid
  let cs := (clusterCores die w.cluster).filter (fun c => l.holds c && s.fits c s.nextGang w.order w.prio l.needs)
  leastBy (fun c => [(s.slotsOf c).length, coreInCluster c]) cs

/-- TEAM_ADMISSION of cluster b of die a (R317). -/
def execETeamAdmission (s : State) : Out :=
  match s.cur with
  | .event x =>
    .next (match s.nextWaiting x.a x.b with
    | none => s
    | some w =>
      if w.swapped.isSome then s
      else match s.pickCore x.a w with
        | some c => (s.updDie x.a (fun d => { d with pending := d.pending.erase w })).admitTeam w.lid w.num w.order c none 0
        | none => s)
  | _ => .next s

/-- Cores of a gang, by gang-relative index. -/
def Gang.cores (g : Gang) : List Nat := (List.range (g.w * g.h)).map (fun i => coreAt (g.ox + i % g.w) (g.oy + i / g.w))

/-- GANG_ADMISSION of gang a: its teams are admitted together (R319). -/
def execEGangAdmission (s : State) : Out :=
  match s.cur with
  | .event x =>
    let g := s.gang x.a
    let cs := g.cores
    .next (if (kvFind s.gangs x.a).isSome ∧ g.waiting ∧
        cs.all (fun c => s.fits c x.a g.order g.prio (s.launch g.lid).needs) then
      let tids := cs.map (fun c => c * 4 + (([0, 1, 2, 3].filter (fun k => !s.hasTeam (c * 4 + k))).headD 0))
      let s1 := s.updGang x.a (fun g => { g with waiting := false, tids := tids })
      cs.zipIdx.foldl (fun a c => a.admitTeam g.lid (g.first + c.2) g.order c.1 (some x.a) c.2) s1
    else s)
  | _ => .next s

/-- GANG_WAIT_EXPIRY of gang a: 64 µs are 102,400 fabric clocks (R319). -/
def execEGangWaitExpiry (s : State) : Out :=
  match s.cur with
  | .event x =>
    .next (if decide ((s.gang x.a).since + 102400 ≤ s.clk) then s.updGang x.a (fun g => { g with expired := g.waiting })
      else s)
  | _ => .next s

/-- TEAM_RETIREMENT of team a, whose EXIT waits (R129). -/
def execETeamRetirement (s : State) : Out :=
  match s.cur with
  | .event x =>
    .next (if s.hasTeam x.a ∧ (s.ctx x.a).wait = .exit ∧ s.mayExit x.a then s.retire x.a else s)
  | _ => .next s

/-! ## The completion signal (R19, R338, R458) -/

/-- A page place is host memory. -/
def isHost (pl : Nat) : Bool := decide (2 ^ 65 ≤ pl) && decide (pl < 2 ^ 65 + 2 * 2 ^ 42)

/-- The signal is abandoned (R458). -/
def State.abandonSignal (s : State) (lid code : Nat) : State :=
  let l := s.launch lid
  (s.leaveTable lid).send
    { kind := 1, head := recHead 1 0 l.lastDie 0 0, tag := spGet l.field 23, die := l.lastDie, permit := .dist l.lastDie
      body := { t0 := w64 (5 * 2 ^ 28 + code), t3 := spGet l.field 20, t4 := 0x1B } }

/-- Every store of the launch has left hold-back. -/
def State.launchDrained (s : State) (lid : Nat) : Bool := s.cores.all (fun e => e.2.hold.all (fun h => h.lid != lid))

/-- No write of the launch stands in egress quarantine. -/
def State.launchOut (s : State) (lid : Nat) : Bool :=
  [0, 1].all (fun i => (s.iod i).outgoing.all (fun e => e.left || e.lid != some lid))

/-- The completion signal has been stored: the launch leaves the table once the store has been performed, which outside the
device is once it has left quarantine (R338). -/
def State.signalled (s : State) (lid : Nat) (far : Bool) : State :=
  if far then s.updLaunch lid (fun l => { l with stage := .signalSent }) else s.leaveTable lid

/-- The completion signal is stored: a release doubleword of the completion value. -/
def State.signal (s0 : State) (lid : Nat) : State :=
  let l := s0.launch lid
  let va := spGet l.field 20
  if va = 0 then s0.leaveTable lid
  else
    let (s, w) := s0.walkRead l.lastDie l.asid false va .store
    match w with
    | .ok e z =>
      let pls := placesOf (s.die 0).devnum.toNat e z va
      let sys := l.get 22 == 4
      if (sys && pls.any isHost && !s.launchOut lid) || !s.egressRoom l.lastDie pls then s
      else
        (s.performAll l.lastDie [] (pls.map (· / 128)) (kvBytes [] (va.toNat % 128) (natLe 8 (l.get 21))) (pteOs e)
          (24576 + l.lastDie) 8191 sys (some lid)).signalled lid (pls.any isFar)
    | .perm _ => s.abandonSignal lid 0xB
    | .gone _ => s.abandonSignal lid (if l.waited then 0xC else 0xB)
    | .poison => s.abandonSignal lid 0xD
    | .park pi b z =>
      let s1 := s.setLaunch lid { l with stage := .signalWait b z pi, waited := true }
      if pi then s1
      else s1.send
        { kind := 2, head := recHead 2 0 l.lastDie 0 0, tag := spGet l.field 23, die := l.lastDie, permit := .dist l.lastDie
          body := { t3 := va }, src := .signal lid, page := b, pageSize := z }

/-- COMPLETION_SIGNAL of launch a. -/
def execECompletionSignal (s : State) : Out :=
  match s.cur with
  | .event x =>
    let l := s.launch x.a
    .next (if (kvFind s.launches x.a).isSome ∧ l.stage = .signalSent ∧ s.launchOut x.a then s.leaveTable x.a
      else if (kvFind s.launches x.a).isSome ∧ l.stage = .signal ∧ !l.cancelled ∧ s.launchDrained x.a then s.signal x.a
      else s)
  | _ => .next s

/-- The reply to a signal's PARK record (R458). -/
def State.answerSignal (s : State) (lid reply : Nat) : State :=
  match (s.launch lid).stage with
  | .signalWait _ _ false =>
    if reply = 0 then s.updLaunch lid (fun l => { l with stage := .signal }) else s.abandonSignal lid 0xC
  | _ => s

end Sys2Proof.Machine
end

