-- ==== Sys2Proof/Machine/Replies.lean ====
section
/-! DEFINITION. Machine/Replies.lean: level-two records on their way to a die fault queue, the release of an entry, what
every reply does, and the watchdog (R128, R171 to R174, R180, R307, R322, R354, R458). -/

namespace Sys2Proof.Machine

/-! ## Permits and entries (R174, R307, R322, R458) -/

/-- Permits free for a record. -/
def State.permits (s : State) (p : PermitOf) : Nat :=
  match p with
  | .core c => (s.core c).permit
  | .pewter i => (s.pewter i).permit
  | .dist d => (s.die d).distPermit

/-- A permit count changes. -/
def State.updPermit (s : State) (p : PermitOf) (f : Nat → Nat) : State :=
  match p with
  | .core c => s.updCore c (fun k => { k with permit := f k.permit })
  | .pewter i => s.updPewter i (fun k => { k with permit := f k.permit })
  | .dist d => s.updDie d (fun k => { k with distPermit := f k.distPermit })

/-- The 128 bytes of a record, written at a time (R172). -/
def Rec2.bytes (r : Rec2) (now : Nat) : List Byte :=
  natLe 8 r.head.toNat ++ natLe 8 r.tag.toNat ++ natLe 8 now ++ natLe 8 0 ++ r.body.regs.flatMap (fun x => natLe 8 x.toNat)
    ++ natLe 32 0

/-- Address of an entry of a die's fault queue. -/
def State.fqAddr (s : State) (d n : Nat) : Nat := fieldOf (s.die d).fqbase 15 27 * 32768 + n % 256 * 128

/-- The record numbered n among those on their way is tried: with a permit and a free entry it is written, and otherwise
its wait doubles from 64 up to 4,096 core clocks (R174). -/
def State.tryRecord (s : State) (n : Nat) (r : Rec2) : State :=
  let d := s.die r.die
  let tail := d.fqtail.toNat
  if s.permits r.permit = 0 ∨ (kvFind d.fq tail).isSome then
    let w := if r.wait = 0 then 128 else min 8192 (2 * r.wait)
    { s with records := setAt s.records n { r with wait := w, nextTry := s.clk + w } }
  else
    let s1 := { s with records := delAt s.records n }
    let s2 := s1.updPermit r.permit (fun k => k - 1)
    let s3 := s2.updDie r.die (fun k => { k with fqtail := k.fqtail + 1, fq := kvSet k.fq tail r })
    s3.storePhys r.die (s.fqAddr r.die tail) (r.bytes s.now)

/-- FAULT_RECORD_WRITE: the first try of record a (R174). -/
def execEFaultRecordWrite (s : State) : Out :=
  match s.cur with
  | .event x =>
    .next (match s.records[x.a]? with
    | some r => if r.wait = 0 then s.tryRecord x.a r else s
    | none => s)
  | _ => .next s

/-- PERMIT_BACKOFF_RETRY: record a is tried again (R174). -/
def execEPermitBackoffRetry (s : State) : Out :=
  match s.cur with
  | .event x =>
    .next (match s.records[x.a]? with
    | some r => if r.wait ≠ 0 ∧ r.nextTry ≤ s.clk then s.tryRecord x.a r else s
    | none => s)
  | _ => .next s

/-! ## Replies (R128, R173) -/

/-- The reply of an ECALL: s[sd] takes it, and pc advances (R128). -/
def State.answerCall (s : State) (id : Nat) (v : W64) : State :=
  let c := s.ctx id
  if c.wait = .reply then s.setCtx id ((c.put c.replyTo v).done) else s

/-- The reply to a generator's FAULT record: retry, or skip (R173); a watchdog's releases the context for another 50 µs or
kills the team (R171). -/
def State.answerG (s : State) (tid : Nat) (r : TrapRec) (v : Nat) : State :=
  if 2 ≤ v ∨ (r.code = 0x12 ∧ v ≠ 0) then s.kill tid 6
  else if r.code = 0x12 then
    s.updCtx tid (fun c => if c.wait = .watchdog then { c with wait := .ready, watch := some (s.now + 50000) } else c)
  else s.updCtx tid (fun c =>
    if c.wait = .held then { c with wait := .ready, pc := if v = 1 then c.pc + 4 else c.pc } else c)

/-- The reply to a FAULT record of a team's agent (R173). -/
def State.answerFault (s : State) (tid : Nat) (r : TrapRec) (v : Nat) : State :=
  if !s.hasTeam tid then s
  else if r.kind = 0 then s.answerG tid r v
  else if 2 ≤ v then s.kill tid 6
  else if v = 1 then s.disposeSkip tid r
  else s.dispose tid r

/-- The reply to a PARK record of a context of no team: the page is there, or gone; there is no team to kill, so that a
supervisor takes UNMAPPED at any other reply, and a prologue's launch ends (R173, R354). -/
def State.answerSolo (s : State) (id v : Nat) : State :=
  let c := s.ctx id
  if isPro id ∧ 2 ≤ v then s.killPrologue (ctxDie id)
  else if c.wait ≠ .parked then s
  else if v = 0 then s.setCtx id { c.setPark false with wait := .ready }
  else (s.setCtx id { c.setPark false with wait := .ready }).raiseG id { code := 0xC, t3 := c.parkVa, t4 := c.parkCode }
    c.parkWord

/-- The reply to a prologue's FAULT record (R354). -/
def State.answerPro (s : State) (die v : Nat) : State :=
  let id := proCtx die
  if 2 ≤ v then s.killPrologue die
  else s.updCtx id (fun c =>
    if c.wait = .held then { c with wait := .ready, pc := if v = 1 then c.pc + 4 else c.pc } else c)

/-- The reply to a record of a team that is swapped out is kept; one that kills takes the team from its pending list
(R173, R182). -/
def State.answerOut (s : State) (name : Nat) (r : Rec2) (v : W64) : State :=
  let mine (w : Waiting) : Bool := match w.swapped with | some x => x.name == name | none => false
  match (s.die r.die).pending.find? mine with
  | none => s
  | some w =>
    let x := w.swapped.getD {}
    let kills := r.kind != 3 && (decide (2 ≤ v.toNat) || (r.kind == 1 && r.body.kind == 0 && r.body.code == 0x12 && v != 0))
    if kills then
      let k : Rec2 := { kind := 4, head := recHead 4 6 r.die x.core 0, tag := x.team.tag, die := r.die, permit := .core x.core }
      let s1 := (s.updDie r.die (fun d => { d with pending := d.pending.erase w })).send k
      (s1.fire r.die 4).teamGone w.lid r.die true
    else
      let w1 := { w with swapped := some { x with replies := x.replies ++ [(r, v)] } }
      s.updDie r.die (fun d => { d with pending := d.pending.map (fun y => if y = w then w1 else y) })

/-- What a reply does for the agent that a record holds (R173). -/
def State.answer (s : State) (r : Rec2) (v : W64) : State :=
  let n := v.toNat
  match r.src with
  | .agent tid a =>
    if r.kind = 3 then (if a = .gen then s.answerCall tid v else s)
    else if r.kind = 2 then s.answerPark tid r.page r.pageSize n
    else s.answerFault tid r.body n
  | .sup id => if r.kind = 3 then s.answerCall id v else s.answerSolo id n
  | .prologue d =>
    if r.kind = 3 then s.answerCall (proCtx d) v
    else if r.kind = 2 then s.answerSolo (proCtx d) n
    else s.answerPro d n
  | .engine e o => s.answerEngine e o n
  | .lane i q => s.answerLane i q r.page r.pageSize n
  | .signal lid => s.answerSignal lid n
  | .out name _ => s.answerOut name r v
  | .nobody => s

/-- A record that waits on an empty count takes the permit that has returned in the same clock (R400). -/
def State.permitBack (s : State) (p : PermitOf) : State :=
  let waits (r : Rec2) : Bool := decide (r.permit = p) && r.wait != 0 && (kvFind (s.die r.die).fq (s.die r.die).fqtail.toNat).isNone
  match s.records.findIdx? waits with
  | some n => (match s.records[n]? with | some r => s.tryRecord n r | none => s)
  | none => s

/-- A store of an entry number to FQREL of a die (R322): the entry is released, its permit returns, and its reply acts. The
reply is what the entry holds at 0x18; poison there is a value of its own (assumption 8). -/
def State.releaseEntry (s : State) (d n : Nat) : State :=
  match kvFind (s.die d).fq n with
  | none => s
  | some r =>
    let at_ := s.fqAddr d n + 0x18
    let s1 := ((s.updDie d (fun k => { k with fq := kvDel k.fq n })).updPermit r.permit (fun k => k + 1)).permitBack r.permit
    let s2 := s1.homeRead d (at_ / 128) 0
    if s.readsBad at_ then s2.used.answer r s2.free else s2.answer r (w64 (s.readN at_ 8))

/-- FQREL of die a: a store of val (R322). -/
def execEFqrel (s : State) : Out :=
  match s.cur with
  | .event x => .next (if x.size = .aligned64 then s.releaseEntry x.a (fieldOf x.val 0 8) else s)
  | _ => .next s

/-! ## Delivery and the watchdog (R167, R171) -/

/-- TRAP_DELIVERY of context a: its own fault that waited for token words, the oldest fault of its team whose older words
have completed, or the oldest queued record (R164, R167). -/
def execETrapDelivery (s : State) : Out :=
  match s.cur with
  | .event x =>
    let s0 := s.takePended x.a
    let s1 := if isTeamCtx x.a ∧ s0.hasTeam x.a then s0.takeFault x.a else s0
    .next (if isTeamCtx x.a && !s1.hasTeam x.a then s1 else s1.deliver x.a)
  | _ => .next s

/-- A context that stands at its next G-word, so that the watchdog can hold it there. -/
def Ctx.atWord (c : Ctx) : Bool :=
  match c.wait with
  | .held => c.pended.isSome
  | .reply | .watchdog => false
  | _ => true

/-- WATCHDOG_EXPIRY of team a (R171): the context is held at its next G-word, and G_WATCHDOG goes to level two. -/
def execEWatchdogExpiry (s : State) : Out :=
  match s.cur with
  | .event x =>
    let c := s.ctx x.a
    .next (match c.watch with
    | some t =>
      if isTeamCtx x.a ∧ s.hasTeam x.a ∧ t ≤ s.now ∧ c.atWord then
        let r := ({ code := 0x12, t4 := c.tepc, t5 := w64 (s.now - c.delivered) } : GFault).toRec c.pc 0
        ((s.fire (ctxDie x.a) 0).setCtx x.a { c.setPark false with wait := .watchdog, watch := none, pended := none }).levelTwo x.a r
      else s
    | none => s)
  | _ => .next s

end Sys2Proof.Machine
end

