-- ==== Sys2Proof/Machine/Boot.lean ====
section
/-! DEFINITION. Machine/Boot.lean: cold reset, boot, the module's release, Smify's mailbox and lifetime counters, strikes,
scrubbing, gating, memory-mapped registers and snapshots (R7, R26, R50 to R53, R190, R207, R210, R219, R306, R322, R365, R382,
R384, R401 to R405, R407, R414, R416 to R418, R454). -/

namespace Sys2Proof.Machine

/-! ## Cold reset, boot and release (R7, R402, R416, R454) -/

/-- What fuses give a die lasts through a cold reset (R51, R211). -/
def Die.fused (k : Die) (d : Nat) : Die :=
  { Die.boot d with rows := k.rows, spares := k.spares, dhbm := k.dhbm, dmemcap := k.dmemcap }

/-- Cold reset: every register takes its reset value. Fuses, the lifetime counters and the system's configuration last; the
turns taken and the free values used are the model's own. Memory has no value after it (assumption 1). -/
def State.coldReset (s : State) : State :=
  { State.reset with
    turns := s.turns, freeCtr := s.freeCtr, turnCtr := s.turnCtr
    dies := kvMap (fun d k => k.fused d) s.dies
    cores := kvMap (fun _ k => { spare := k.spare }) s.cores
    smify := { configNum := s.smify.configNum, life := s.smify.life, histo := s.smify.histo, stays := s.smify.stays } }

/-- COLD_RESET (R7). -/
def execEColdReset (s : State) : Out :=
  match s.cur with
  | .event _ => .next s.coldReset
  | _ => .next s

/-- A field of a boot image. -/
def imgField (b : List Byte) (o n : Nat) : Nat := leNat ((b.drop o).take n)

/-- Why a stage does not run: 4 format, 2 key, 3 version, 1 signature; none: it runs (R416). -/
def bootCause (stage : Nat) (b : List Byte) : Option Nat :=
  let k := imgField b 12 4
  let body := (b.drop 512).take (imgField b 16 8)
  if b.length < 512 ∨ imgField b 0 4 ≠ 0x4D494243 ∨ imgField b 4 4 ≠ stage ∨ 4 ≤ k ∨ b.length < 512 + imgField b 16 8 then some 4
  else if Config.sha256 (Config.publicKey k) ≠ Config.fusedHash k then some 2
  else if imgField b 8 4 < (Config.fusedMinimum stage).toNat then some 3
  else if !Config.pssVerify (Config.publicKey k) (b.take 0x80 ++ body) ((b.drop 0x80).take 384) then some 1
  else none

/-- DEVNUM of every die (R454). -/
def State.setDevnum (s : State) (n : BitVec 22) : State :=
  (List.range 10).foldl (fun a d => a.updDie d (fun k => { k with devnum := n })) s

/-- BOOT_STAGE_VERIFY of the next stage, whose image bytes holds. Before stage 2 runs, DEVNUM is set. After a failure the
module stays in reset (assumption 73). -/
def execEBootStageVerify (s : State) : Out :=
  match s.cur with
  | .event x =>
    let n := s.smify.stage + 1
    .next (if s.released || decide (3 < n) || (s.die 8).bootst != 0 then s
      else match bootCause n x.bytes with
        | some c => s.updDie 8 (fun k => { k with bootst := BitVec.ofNat 8 (c * 16 + n) })
        | none =>
          let s1 := if n = 2 then s.setDevnum s.smify.configNum else s
          { s1 with smify := { s1.smify with
              stage := n, hashes := s1.smify.hashes ++ [Config.sha256 x.bytes]
              versions := s1.smify.versions ++ [BitVec.ofNat 32 (imgField x.bytes 8 4)] } })
  | _ => .next s

/-- MODULE_RELEASE: the three stages have run; global time runs from here (R402). -/
def execEModuleRelease (s : State) : Out :=
  match s.cur with
  | .event _ => .next (if s.smify.stage = 3 ∧ !s.released then { s with released := true, clk := 0 } else s)
  | _ => .next s

/-! ## Strikes, failures, scrubbing (R26, R187, R190, R207, R219) -/

/-- STRIKE on core a: the tallies, and the rollback or kill of its teams. -/
def execEStrike (s : State) : Out :=
  match s.cur with
  | .event x =>
    let s1 := s.updCore x.a (fun k => { k with strikes := satInc k.strikes, strikeT := s.time })
    let s2 := (s1.updDie (coreDie x.a) (fun d => { d with dstrikes := satInc d.dstrikes })).fire (coreDie x.a) 5
    .next ((s2.tally (18 + coreDie x.a * 16 + coreCluster x.a)).strikeTeams x.a)
  | _ => .next s

/-- SLICE_STRIKE in the control logic of slice b of die a: what the slice has sent to egress within 96 fabric clocks is
dropped and sent again by its replay (R190, R219). -/
def execESliceStrike (s : State) : Out :=
  match s.cur with
  | .event x =>
    let again (e : Egress) : Bool := !e.left && e.slice == x.a * 128 + x.b && decide (s.clk ≤ e.at_ + 96)
    let s1 := [0, 1].foldl (fun a i => if (s.iod i).egress.all (fun e => !again e) then a
      else a.updIod i (fun k => { k with
        egress := k.egress.filter (fun e => !again e) ++ (k.egress.filter again).map (fun e => { e with at_ := s.clk }) })) s
    .next ((s1.updDie x.a (fun d => { d with dstrikes := satInc d.dstrikes, sliceStrikes := d.sliceStrikes + 1 })).fire x.a 5
      |>.tally (146 + x.a % 8))
  | _ => .next s

/-- DIE_FAILURE of compute die a (R25, R26, R414). -/
def execEDieFailure (s : State) : Out :=
  match s.cur with
  | .event x => .next (if x.a < 8 then s.failDie x.a else s)
  | _ => .next s

/-- Sectors of a die's memory. -/
def State.sectors (s : State) (d : Nat) : Nat := (s.die d).dmemcap.toNat / 64

/-- Local address of sector n of a die's memory (R209). -/
def sectorAt (d n : Nat) : Nat := (if d < 8 then d * 0x2000000000 else 0x10000000000 * (d - 7)) + n * 64

/-- A die's scrubber is to read its next sector: it reads all of them, in their order, in 24 hours, which are
138,240,000,000,000 fabric clocks (R207). -/
def State.scrubDue (s : State) (d : Nat) : Bool :=
  let n := s.sectors d
  decide (n ≠ 0) && (s.die d).scrubbed != s.clk * n / 138240000000000 % n

/-- DRAM_SCRUB of die a: its next sector in order is read as R207 says of a read (assumption 109). With flag, b bytes of the
sector at local address val have become erroneous. -/
def execEDramScrub (s : State) : Out :=
  match s.cur with
  | .event x =>
    let la := x.val.toNat
    .next (if x.flag then
        (if s.populated la && decide (1 ≤ x.b) && decide (x.b ≤ 64) then
          { s with errs := kvSet s.errs (la / 64) (min 64 (kvGet 0 s.errs (la / 64) + x.b)) } else s)
      else
        if s.scrubDue x.a then
          (s.correct (sectorAt x.a (s.die x.a).scrubbed)).updDie x.a (fun d => { d with
            scrubbed := (d.scrubbed + 1) % max 1 (s.sectors x.a) })
        else s)
  | _ => .next s

/-! ## Gating and clocks (R382, R402, R414) -/

/-- ISSUE_GATING of die a by b eighths. -/
def execEIssueGating (s : State) : Out :=
  match s.cur with
  | .event x =>
    .next (if x.b < 8 then s.updDie x.a (fun d => { d with throt := BitVec.ofNat 3 x.b }) else s)
  | _ => .next s

/-- CLOCK_STOP of core a; its estimated time error is then b ns. -/
def execEClockStop (s : State) : Out :=
  match s.cur with
  | .event x =>
    .next (s.updCore x.a (fun k => { k with clockStopped := true, syncErr := BitVec.ofNat 32 (min x.b (2 ^ 32 - 1)) }))
  | _ => .next s

/-- CLOCK_RESUME of core a with a time error of b ns: it voids every lease that it holds (R382). -/
def execEClockResume (s : State) : Out :=
  match s.cur with
  | .event x =>
    let k := s.core x.a
    .next (if k.clockStopped ∨ 250 < b32 k x.b then
        { s.updCore x.a (fun k => { k with clockStopped := false, leases := [], syncErr := BitVec.ofNat 32 (min x.b (2 ^ 32 - 1)) })
          with leases := s.leases.filter (fun l => l.2.1 != x.a) }
      else s)
  | _ => .next s
where
  /-- The larger of the error that stands and the one reported. -/
  b32 (k : Core) (n : Nat) : Nat := max k.syncErr.toNat n

/-! ## Counters and registers (R50, R53, R210, R306, R322, R365, R384, R401 to R405) -/

/-- A store to a PMC or PMS register at an offset of its block: 0x100 + 8n or 0x140 + 8n. -/
def pmcWrite (pmc : Sparse 48) (pms : Sparse 11) (off : Nat) (v : W64) : Sparse 48 × Sparse 11 :=
  if 0x100 ≤ off ∧ off < 0x140 then (spSet pmc ((off - 0x100) / 8) (v.extractLsb' 0 48), pms)
  else if 0x140 ≤ off ∧ off < 0x180 then (pmc, spSet pms ((off - 0x140) / 8) (v.extractLsb' 0 11))
  else (pmc, pms)

/-- A store to a core's control block (R50, R401, R403). -/
def State.coreWrite (s : State) (c off : Nat) (v : W64) : State :=
  let z := v == 0
  s.updCore c (fun k =>
    match off with
    | 0x010 => { k with tswap := v.extractLsb' 0 16 }
    | 0x018 => { k with tmax := v.extractLsb' 0 16 }
    | 0x020 => if fieldOf v 16 8 = 0 then { k with hbHigh := 0 } else k
    | 0x040 => { k with
        snapArmed := v.getLsbD 0, snapLatched := v.getLsbD 1, snapAt := if v.getLsbD 0 then some s.now else none }
    | 0x050 => if z then { k with rolls := 0 } else k
    | 0x058 => if z then { k with parks := 0 } else k
    | 0x060 => if z then { k with swaps := 0 } else k
    | 0x068 => if z then { k with renorms := 0 } else k
    | _ => let r := pmcWrite k.pmc k.pms off v; { k with pmc := r.1, pms := r.2 })

/-- A store to SNAPTRIG of a die: the kinds that fire, and the trigger (R405). DESIGN CHOICE (assumption 96): bits [15:14],
for which the rule names no kind, are kept as they are written. -/
def State.snapWrite (s : State) (d : Nat) (v : W64) : State :=
  let s1 := s.updDie d (fun k => { k with snaptrig := v.extractLsb' 0 16 &&& 0xFF00#16 })
  if v.getLsbD 0 then s1.trigger else s1

/-- A store to a die control block (R322, R365, R405, R407). -/
def State.blockWrite (s : State) (d off : Nat) (v : W64) : State :=
  match off with
  | 0x030 => s.snapWrite d v
  | 0x100 => s.updDie d (fun k => { k with fqbase := v &&& ~~~0x7FFF#64 })
  | 0x110 => s.releaseEntry d (fieldOf v 0 8)
  | 0x200 => s.updDie d (fun k => { k with atroot := v &&& ~~~0x7FFFF#64 })
  | 0x500 => if d < 8 then s else s.updDie d (fun k => { k with apbase := v &&& 0x1FFFFFFFFFF0000#64 })
  | 0x508 => if d < 8 then s else s.updDie d (fun k => { k with apasid := v &&& 0x1FFFF#64 })
  | _ =>
    if 0x400 ≤ off ∧ off < 0x440 then s.updDie d (fun k => { k with hintcls := spSet k.hintcls ((off - 0x400) / 8) v }) else s

/-- A store to a Pewter control block (R306, R401). -/
def State.pewterWrite (s : State) (i off : Nat) (v : W64) : State :=
  match off with
  | 0x000 => s.updPewter i (fun p => { p with qdbase := v &&& ~~~0x1FFFF#64 })
  | 0x008 => s.updPewter i (fun p => { p with qctl := v.getLsbD 0 })
  | 0x020 =>
    let q := fieldOf v 0 12
    if q / 2048 = i then s.lateStop i q 0x0F 0 (s.queue i q |>.unitVa 0) else s
  | _ =>
    if 0x100 ≤ off then
      s.updPewter i (fun p => let r := pmcWrite p.pmc p.pms (off - 0x100) v; { p with pmc := r.1, pms := r.2 })
    else s

/-- A store to the mailbox (R417): a command, or a doubleword of the buffer; dropped while a command runs. -/
def State.mailWrite (s : State) (off : Nat) (v : W64) : State :=
  let m := s.smify
  if m.stat = 0 then s
  else if off = 0 then
    (if 1 ≤ v.toNat ∧ v.toNat ≤ 3 then { s with smify := { m with cmd := v.toNat, stat := 0 } }
     else { s with smify := { m with stat := 2 } })
  else if 0x1000 ≤ off ∧ off < 0x2000 then
    { s with smify := { m with buffer := spBytes m.buffer (off - 0x1000) (natLe 8 v.toNat) } }
  else s

/-- An aligned 64-bit store to an offset of a die's MMIO window (R210); any other offset drops it. -/
def State.mmioWrite (s : State) (d off : Nat) (v : W64) : State :=
  if off % 8 ≠ 0 then s
  else if off < 0x1000 then s.blockWrite d off v
  else if d < 8 then
    (if 0x100000 ≤ off ∧ off < 0x180000 then
      let l := (off - 0x100000) / 0x1000
      s.coreWrite (coreAt (d % 2 * 16 + l % 16) (d / 2 * 8 + l / 16)) (off % 0x1000) v
     else if 0x400000 ≤ off ∧ off < 0x480000 then
      let sl := (off - 0x400000) / 0x1000
      s.updDie d (fun k =>
        let r := pmcWrite (sliceSub k.spmc sl) (sliceSub k.spms sl) (off % 0x1000) v
        { k with spmc := sliceBack k.spmc r.1 sl, spms := sliceBack k.spms r.2 sl })
     else s)
  else
    let i := d - 8
    if 0x200000 ≤ off ∧ off < 0x201000 then s.pewterWrite i (off - 0x200000) v
    else if 0x300000 ≤ off ∧ off < 0x300800 then
      s.updIod i (fun k => { k with routes := spSet k.routes ((off - 0x300000) / 8) (v &&& 0x8000007FFFFFFFFF#64) })
    else if d = 8 ∧ 0x600000 ≤ off ∧ off < 0x602000 then s.mailWrite (off - 0x600000) v
    else if 0x100000000 ≤ off ∧ off % 0x10000 = 0 ∧ (off - 0x100000000) / 0x10000 / 2048 = i then
      s.kick i ((off - 0x100000000) / 0x10000) v .aligned64
    else s

/-- REGISTER_WRITE: a store of val to offset b of the MMIO window of die a (R210). A store of another size is dropped, and at
a kick register counted (R53). -/
def execERegisterWrite (s : State) : Out :=
  match s.cur with
  | .event x =>
    .next (if x.size = .aligned64 then s.mmioWrite x.a x.b x.val
      else if 8 ≤ x.a ∧ 0x100000000 ≤ x.b ∧ (x.b - 0x100000000) / 0x10000 / 2048 = x.a - 8 ∧ x.b % 0x10000 < 8 then
        s.kick (x.a - 8) ((x.b - 0x100000000) / 0x10000) x.val .other
      else s)
  | _ => .next s

/-- SNAPTRIG: a store of val to SNAPTRIG of die a (R405). -/
def execESnaptrig (s : State) : Out :=
  match s.cur with
  | .event x => .next (if x.size = .aligned64 then s.snapWrite x.a x.val else s)
  | _ => .next s

/-- Offsets of a core's control block that a latch copies. -/
def snapOffsets : List Nat := (List.range 15).map (fun n => 8 * n) ++ (List.range 16).map (fun n => 0x100 + 8 * n)

/-- Provenance of the words at the heads of a core's queues: team slot, pc, target, sequence (R74). -/
def State.provenance (s : State) (c : Nat) : List (Nat × BitVec 48 × Nat × W32) :=
  ([0, 1, 2, 3].filter (fun k => s.hasTeam (c * 4 + k))).flatMap (fun k =>
    let tid := c * 4 + k
    (List.range (s.team tid).groups).filterMap (fun g =>
      ((s.grp (groupId tid g)).head).map (fun e => (k, e.pc, g, (s.grp (groupId tid g)).wordEsn))) ++
    ((s.team tid).mLive.head?.map (fun e => (k, e.pc, 16, (s.team tid).msn))).toList)

/-- A core latches: it is armed, and no store has armed it in the tick of a trigger of the latch (R405). -/
def Core.latches (k : Core) (l : List Nat) : Bool :=
  k.snapArmed && (match k.snapAt with | some n => !l.contains n | none => true)

/-- SNAPSHOT_LATCH: at the tick every armed core copies its registers, and the provenance of what it holds (R52, R74, R405;
assumption 108). -/
def execESnapshotLatch (s : State) : Out :=
  match s.cur with
  | .event _ =>
    .next (match s.snapTick with
    | none => s
    | some (t, l) =>
      if s.now < t then s
      else
        let latch (c : Nat) (k : Core) : Core :=
          if k.latches l then
            { k with snapRegs := snapOffsets.map (s.coreRead c), snapProv := s.provenance c, snapLatched := true
                     snapArmed := false, snapTime := w64 t }
          else k
        { s with cores := kvMap latch s.cores, snapTick := none })
  | _ => .next s

/-! ## Smify's commands (R404, R405, R417, R418) -/

/-- A command ends with bytes in the buffer. -/
def State.mailDone (s : State) (l : List Byte) : State :=
  { s with smify := { s.smify with
      cmd := 0, stat := 1, buffer := spBytes s.smify.buffer 0 (l.take 4096) } }

/-- A command is under way. -/
def State.mailBusy (s : State) (n : Nat) : Bool := s.smify.stat == 0 && s.smify.cmd == n

/-- What an attestation report says, before its signature (R418). -/
def State.report (s : State) : List Byte :=
  let m := s.smify
  bytesAt (spGet m.buffer) 0 32 ++ natLe 4 (s.die 8).devnum.toNat ++ natLe 8 Config.romRevision.toNat
    ++ (List.range 3).flatMap (fun k => m.hashes.getD k []) ++ (List.range 3).flatMap (fun k => natLe 4 (m.versions.getD k 0).toNat)
    ++ (List.range 3).flatMap (fun k => natLe 4 (Config.fusedMinimum (k + 1)).toNat) ++ natLe 8 s.now

/-- ATTESTATION_REPORT: command 1 (R418). -/
def execEAttestationReport (s : State) : Out :=
  match s.cur with
  | .event _ =>
    .next (if s.mailBusy 1 then s.mailDone (s.report ++ Config.pssSign (Config.sha256 s.report) ++ Config.identity) else s)
  | _ => .next s

/-- The lifetime counters in the order of R404, and the histograms. -/
def Smify.lifeBytes (m : Smify) : List Byte :=
  (List.range 159).flatMap (fun k => natLe 8 (spGet m.life k).toNat) ++ (List.range 384).flatMap (fun k =>
    natLe 4 (spGet m.histo k).toNat)

/-- READ_LIFETIME_COUNTERS: command 2 (R417). -/
def execEReadLifetimeCounters (s : State) : Out :=
  match s.cur with
  | .event _ => .next (if s.mailBusy 2 then s.mailDone s.smify.lifeBytes else s)
  | _ => .next s

/-- SNAPSHOT_TRIGGER_COMMAND: command 3 (R405, R417). -/
def execESnapshotTriggerCommand (s : State) : Out :=
  match s.cur with
  | .event _ => .next (if s.mailBusy 3 then (s.mailDone []).trigger else s)
  | _ => .next s

/-- A saturating sum. -/
def satAdd {w : Nat} (x : BitVec w) (n : Nat) : BitVec w := BitVec.ofNat w (min (2 ^ w - 1) (x.toNat + n))

/-- Bin of a stay in seconds (R404). -/
def stayBin (n : Nat) : Nat := min 15 (Nat.log2 (max n 1))

/-- A stay goes on, or ends in its bin and another begins; k is 0 for temperature, 1 voltage, 2 utilisation. -/
def Smify.stay (m : Smify) (k band : Nat) : Smify :=
  let (b, n) := m.stays.getD k (0, 0)
  if b = band then { m with stays := m.stays.set k (b, n + 1) }
  else
    let i := (k * 8 + b) * 16 + stayBin n
    { m with histo := spSet m.histo i (satInc (spGet m.histo i)), stays := m.stays.set k (band, 1) }

/-- A second, 1,600,000,000 fabric clocks, has passed since the last update. -/
def State.lifeDue (s : State) : Bool := decide (s.smify.updated + 1600000000 ≤ s.clk)

/-- LIFETIME_COUNTER_UPDATE: once a second, from the units' tallies; a, b and c are the bands of temperature, voltage and
utilisation (R404). What software does to a register that shows a tally changes no lifetime counter. -/
def execELifetimeCounterUpdate (s : State) : Out :=
  match s.cur with
  | .event x =>
    .next (if !s.lifeDue then s
      else
        let add (m : Smify) (e : Nat × W64) : Smify := { m with life := spSet m.life e.1 (satAdd (spGet m.life e.1) e.2.toNat) }
        let m := { s.smify.due.foldl add s.smify with due := [] }
        { s with smify := { ((m.stay 0 (x.a % 8)).stay 1 (x.b % 8)).stay 2 (x.c % 8) with updated := s.clk } })
  | _ => .next s

end Sys2Proof.Machine
end

