-- ==== Sys2Proof/Machine/GenAlu.lean ====
section
/-! DEFINITION. Machine/GenAlu.lean: the generator's register and immediate arithmetic, majors 0x00 to 0x0E (R112 to
R119). -/

namespace Sys2Proof.Machine

/-- Shift amount: bits [5:0] of the operand (R112). -/
def shAmt (b : W64) : Nat := fieldOf b 0 6

/-- Width of a SEXT or ZEXT code (R112). -/
def extWidth (w : BitVec 6) : Nat := 8 * 2 ^ w.toNat

/-- SEXT of the low bits (R112). -/
def sext64 (a : W64) (n : Nat) : W64 := BitVec.sshiftRight (a <<< (64 - n)) (64 - n)

/-- ZEXT of the low bits (R112). -/
def zext64 (a : W64) (n : Nat) : W64 := (a <<< (64 - n)) >>> (64 - n)

/-- Signed quotient, rounded towards zero; never a trap (R103). -/
def divS (a b : W64) : W64 := if b = 0 then BitVec.allOnes 64 else BitVec.ofInt 64 (a.toInt.tdiv b.toInt)
/-- Unsigned quotient (R103). -/
def divU (a b : W64) : W64 := if b = 0 then BitVec.allOnes 64 else a / b
/-- Signed remainder, of the dividend's sign (R103). -/
def remS (a b : W64) : W64 := if b = 0 then a else BitVec.ofInt 64 (a.toInt.tmod b.toInt)
/-- Unsigned remainder (R103). -/
def remU (a b : W64) : W64 := if b = 0 then a else a % b

/-- Leading zero bits of an n-bit number x (R113). -/
def clzN (n x : Nat) : Nat := if x = 0 then n else n - 1 - Nat.log2 x

/-- Trailing zero bits, at most n (R113). -/
def ctzN (n x : Nat) : Nat :=
  match n with
  | 0 => 0
  | k + 1 => if x % 2 = 1 then 0 else 1 + ctzN k (x / 2)

/-- One bits among the n low bits (R113). -/
def popN (n x : Nat) : Nat :=
  match n with
  | 0 => 0
  | k + 1 => x % 2 + popN k (x / 2)

/-- The n low bits in the opposite order (R113). -/
def revN (n x : Nat) : Nat :=
  match n with
  | 0 => 0
  | k + 1 => x % 2 * 2 ^ k + revN k (x / 2)

/-- Position, width and sign of a field specifier (R114). -/
def specOf (b : W64) : Nat × Nat × Bool := (fieldOf b 0 6, fieldOf b 8 6 + 1, b.getLsbD 16)

/-- BFX: the field of a, its bits past bit 63 zero, sign- or zero-extended (R114). -/
def bfx (a b : W64) : W64 :=
  let (pos, w, sgn) := specOf b
  let f := zext64 (a >>> pos) w
  if sgn then sext64 f w else f

/-- BFI: the low bits of a in the place of x's field, its bits past bit 63 dropped (R114). -/
def bfi (x a b : W64) : W64 :=
  let (pos, w, _) := specOf b
  let m : W64 := zext64 (BitVec.allOnes 64) w <<< pos
  (x &&& ~~~m) ||| ((a <<< pos) &&& m)

/-- Position and width of a CWSET selector (R75). -/
def cwField (sel : Nat) : Nat × Nat :=
  match sel with
  | 0 => (21, 7)
  | 1 => (14, 7)
  | 2 => (7, 7)
  | 3 => (0, 7)
  | 4 => (0, 7)
  | 5 => (16, 12)
  | 6 => (12, 4)
  | 7 => (8, 4)
  | _ => (4, 4)

/-- CWSET's replacement of a field of the low word (R115). -/
def cwPut (x a : W64) (lo w : Nat) : W64 :=
  let m : W32 := BitVec.ofNat 32 ((2 ^ w - 1) * 2 ^ lo)
  (((x.extractLsb' 0 32) &&& ~~~m) ||| (((a.extractLsb' 0 32) <<< lo) &&& m)).zeroExtend 64

/-- SHI's operations (R57, R116): 0 SLL, 1 SRL, 2 SRA, 3 ROL. -/
def shiftOp (o : BitVec 2) (a : W64) (n : Nat) : W64 :=
  match o.toNat with
  | 0 => a <<< n
  | 1 => a >>> n
  | 2 => a.sshiftRight n
  | _ => a.rotateLeft n

/-- ADD: a + b (R112). -/
def execGAdd (d a b : BitVec 6) (s : State) : Out := gSet d [a, b] (fun c => c.get a + c.get b) s

/-- SUB: a − b (R112). -/
def execGSub (d a b : BitVec 6) (s : State) : Out := gSet d [a, b] (fun c => c.get a - c.get b) s

/-- AND: a AND b (R112). -/
def execGAnd (d a b : BitVec 6) (s : State) : Out := gSet d [a, b] (fun c => c.get a &&& c.get b) s

/-- OR: a OR b (R112). -/
def execGOr (d a b : BitVec 6) (s : State) : Out := gSet d [a, b] (fun c => c.get a ||| c.get b) s

/-- XOR: a XOR b (R112). -/
def execGXor (d a b : BitVec 6) (s : State) : Out := gSet d [a, b] (fun c => c.get a ^^^ c.get b) s

/-- ANDN: a AND NOT b (R112). -/
def execGAndn (d a b : BitVec 6) (s : State) : Out := gSet d [a, b] (fun c => c.get a &&& ~~~(c.get b)) s

/-- SLL: a shifted left (R112). -/
def execGSll (d a b : BitVec 6) (s : State) : Out := gSet d [a, b] (fun c => c.get a <<< shAmt (c.get b)) s

/-- SRL: a shifted right with zeros (R112). -/
def execGSrl (d a b : BitVec 6) (s : State) : Out := gSet d [a, b] (fun c => c.get a >>> shAmt (c.get b)) s

/-- SRA: a shifted right with its sign (R112). -/
def execGSra (d a b : BitVec 6) (s : State) : Out := gSet d [a, b] (fun c => (c.get a).sshiftRight (shAmt (c.get b))) s

/-- ROL: a rotated left (R112). -/
def execGRol (d a b : BitVec 6) (s : State) : Out := gSet d [a, b] (fun c => (c.get a).rotateLeft (shAmt (c.get b))) s

/-- SLT: signed less (R112). -/
def execGSlt (d a b : BitVec 6) (s : State) : Out := gSet d [a, b] (fun c => if (c.get a).slt (c.get b) then 1 else 0) s

/-- SLTU: unsigned less (R112). -/
def execGSltu (d a b : BitVec 6) (s : State) : Out := gSet d [a, b] (fun c => if (c.get a).ult (c.get b) then 1 else 0) s

/-- MIN: lesser, signed (R112). -/
def execGMin (d a b : BitVec 6) (s : State) : Out := gSet d [a, b] (fun c => if (c.get b).slt (c.get a) then c.get b else c.get a) s

/-- MAX: greater, signed (R112). -/
def execGMax (d a b : BitVec 6) (s : State) : Out := gSet d [a, b] (fun c => if (c.get a).slt (c.get b) then c.get b else c.get a) s

/-- MINU: lesser, unsigned (R112). -/
def execGMinu (d a b : BitVec 6) (s : State) : Out := gSet d [a, b] (fun c => if (c.get b).ult (c.get a) then c.get b else c.get a) s

/-- MAXU: greater, unsigned (R112). -/
def execGMaxu (d a b : BitVec 6) (s : State) : Out := gSet d [a, b] (fun c => if (c.get a).ult (c.get b) then c.get b else c.get a) s

/-- SEXT (R112). -/
def execGSext (d a w : BitVec 6) (s : State) : Out := gSet d [a] (fun c => sext64 (c.get a) (extWidth w)) s

/-- ZEXT (R112). -/
def execGZext (d a w : BitVec 6) (s : State) : Out := gSet d [a] (fun c => zext64 (c.get a) (extWidth w)) s

/-- MOVC: a if c[n] is 1, and otherwise s[d] stays; it stalls on d's token either way (R112). -/
def execGMovc (d a : BitVec 6) (n : BitVec 3) (s : State) : Out :=
  gSet d [a] (fun c => if c.cond n then c.get a else c.get d) s

/-- MUL (R113). -/
def execGMul (d a b : BitVec 6) (s : State) : Out := gSet d [a, b] (fun c => c.get a * c.get b) s

/-- MULH (R113). -/
def execGMulh (d a b : BitVec 6) (s : State) : Out := gSet d [a, b] (fun c => BitVec.ofInt 64 ((c.get a).toInt * (c.get b).toInt / 2 ^ 64)) s

/-- MULHU (R113). -/
def execGMulhu (d a b : BitVec 6) (s : State) : Out := gSet d [a, b] (fun c => w64 ((c.get a).toNat * (c.get b).toNat / 2 ^ 64)) s

/-- DIV (R103, R113). -/
def execGDiv (d a b : BitVec 6) (s : State) : Out := gSet d [a, b] (fun c => divS (c.get a) (c.get b)) s

/-- DIVU (R103, R113). -/
def execGDivu (d a b : BitVec 6) (s : State) : Out := gSet d [a, b] (fun c => divU (c.get a) (c.get b)) s

/-- REM (R103, R113). -/
def execGRem (d a b : BitVec 6) (s : State) : Out := gSet d [a, b] (fun c => remS (c.get a) (c.get b)) s

/-- REMU (R103, R113). -/
def execGRemu (d a b : BitVec 6) (s : State) : Out := gSet d [a, b] (fun c => remU (c.get a) (c.get b)) s

/-- CLZ (R113). -/
def execGClz (d a : BitVec 6) (s : State) : Out := gSet d [a] (fun c => w64 (clzN 64 (c.get a).toNat)) s

/-- CTZ (R113). -/
def execGCtz (d a : BitVec 6) (s : State) : Out := gSet d [a] (fun c => w64 (ctzN 64 (c.get a).toNat)) s

/-- POPC (R113). -/
def execGPopc (d a : BitVec 6) (s : State) : Out := gSet d [a] (fun c => w64 (popN 64 (c.get a).toNat)) s

/-- BREV (R113). -/
def execGBrev (d a : BitVec 6) (s : State) : Out := gSet d [a] (fun c => w64 (revN 64 (c.get a).toNat)) s

/-- BFX (R114). -/
def execGBfx (d a b : BitVec 6) (s : State) : Out := gSet d [a, b] (fun c => bfx (c.get a) (c.get b)) s

/-- BFI, which reads its destination (R114). -/
def execGBfi (d a b : BitVec 6) (s : State) : Out := gSet d [a, b] (fun c => bfi (c.get d) (c.get a) (c.get b)) s

/-- CWSET: one field of the C-word in s[d] is replaced; a value wider than the field raises G_CWSET (R115). -/
def execGCwset (d a : BitVec 6) (sel : BitVec 4) (s : State) : Out :=
  gWord [d, a] s (fun id w c =>
    let (lo, n) := cwField sel.toNat
    if 2 ^ n ≤ (c.get a).toNat then s.raiseG id { code := 0x5, t4 := c.get a, t5 := sel.zeroExtend 64 } w
    else s.setCtx id ((c.put d (cwPut (c.get d) (c.get a) lo n)).done))

/-- ADDI (R116). -/
def execGAddi (d a : BitVec 6) (i : BitVec 14) (s : State) : Out := gSet d [a] (fun c => c.get a + immS i) s

/-- ANDI (R116). -/
def execGAndi (d a : BitVec 6) (i : BitVec 14) (s : State) : Out := gSet d [a] (fun c => c.get a &&& immZ i) s

/-- ORI (R116). -/
def execGOri (d a : BitVec 6) (i : BitVec 14) (s : State) : Out := gSet d [a] (fun c => c.get a ||| immZ i) s

/-- XORI (R116). -/
def execGXori (d a : BitVec 6) (i : BitVec 14) (s : State) : Out := gSet d [a] (fun c => c.get a ^^^ immZ i) s

/-- SLTI (R116). -/
def execGSlti (d a : BitVec 6) (i : BitVec 14) (s : State) : Out := gSet d [a] (fun c => if (c.get a).slt (immS i) then 1 else 0) s

/-- SLTIU (R116). -/
def execGSltiu (d a : BitVec 6) (i : BitVec 14) (s : State) : Out := gSet d [a] (fun c => if (c.get a).ult (immS i) then 1 else 0) s

/-- MULI (R116). -/
def execGMuli (d a : BitVec 6) (i : BitVec 14) (s : State) : Out := gSet d [a] (fun c => c.get a * immS i) s

/-- SHI (R116). -/
def execGShi (d a : BitVec 6) (o : BitVec 2) (n : BitVec 6) (s : State) : Out :=
  gSet d [a] (fun c => shiftOp o (c.get a) n.toNat) s

/-- LUI (R117). -/
def execGLui (d : BitVec 6) (i : BitVec 20) (s : State) : Out := gSet d [] (fun _ => immU i) s

/-- AUIPC (R117). -/
def execGAuipc (d : BitVec 6) (i : BitVec 20) (s : State) : Out := gSet d [] (fun c => c.va + immU i) s

/-- CMP (R118). -/
def execGCmp (n : BitVec 3) (a b : BitVec 6) (cc : BitVec 8) (s : State) : Out :=
  gSetC n [a, b] (fun c => condHolds cc.toNat (c.get a) (c.get b)) s

/-- CMPI (R118). -/
def execGCmpi (cc n : BitVec 3) (a : BitVec 6) (i : BitVec 14) (s : State) : Out :=
  gSetC n [a] (fun c => condHolds cc.toNat (c.get a) (immS i)) s

/-- CBOP (R119). -/
def execGCbop (d a b : BitVec 3) (o : BitVec 8) (s : State) : Out :=
  gSetC d [] (fun c => condOp o.toNat (c.cond a) (c.cond b)) s

end Sys2Proof.Machine
end

