-- ==== Sys2Proof/Machine/GenBranch.lean ====
section
/-! DEFINITION. Machine/GenBranch.lean: the generator's branches, majors 0x0F to 0x12 (R31, R120, R121). -/

namespace Sys2Proof.Machine

/-- Target of a pc-relative branch: pc + 4 × offset (R120). -/
def relTarget {n : Nat} (c : Ctx) (o : BitVec n) : W64 := c.va + (o.signExtend 64) <<< 2

/-- A branch that writes the link s63 := pc + 4, unless its target raises G_PC (R120, R121). -/
def gLink (s : State) (id : Nat) (w : W32) (c : Ctx) (t : W64) : State :=
  if pcOk t then s.setCtx id ((c.put 63 (c.va + 4)).jump (t.extractLsb' 0 48))
  else s.raiseG id { code := 0x3, t3 := t } w

/-- BC (R120). -/
def execGBc (n : BitVec 3) (sense : BitVec 1) (o : BitVec 22) (s : State) : Out :=
  gWord [] s (fun id w c =>
    if c.cond n == (sense == 1) then gGoto s id w c (relTarget c o) else s.setCtx id (c.done))

/-- BA (R120). -/
def execGBa (o : BitVec 26) (s : State) : Out := gWord [] s (fun id w c => gGoto s id w c (relTarget c o))

/-- BL (R120). -/
def execGBl (o : BitVec 26) (s : State) : Out := gWord [63] s (fun id w c => gLink s id w c (relTarget c o))

/-- BRR (R121). -/
def execGBrr (a : BitVec 6) (s : State) : Out := gWord [a] s (fun id w c => gGoto s id w c (c.get a))

/-- BRLR: the target is read before the link is written (R121). -/
def execGBrlr (a : BitVec 6) (s : State) : Out := gWord [63, a] s (fun id w c => gLink s id w c (c.get a))

end Sys2Proof.Machine
end

