-- ==== Sys2Proof/Machine/GenSys.lean ====
section
/-! DEFINITION. Machine/GenSys.lean: TRAP, RTE, EXIT, ECALL and GTIME, and the words that are no G instruction (R71, R126
to R130). -/

namespace Sys2Proof.Machine

/-- TRAP raises G_TRAP with two values (R126). -/
def execGTrap (a b : BitVec 6) (s : State) : Out :=
  gWord [a, b] s (fun id w c => s.raiseG id { code := 0x6, t4 := c.get a, t5 := c.get b } w)

/-- RTE (R127). -/
def execGRte (s : State) : Out :=
  gWord [] s (fun id w c =>
    if c.level = 0 then s.raiseG id { code := 0x1 } w
    else if !pcOk c.tepc then s.raiseG id { code := 0x3, t3 := c.tepc } w
    else s.returnG id)

/-- EXIT retires the team, or waits (R129); outside a team it is illegal (R354, R455). -/
def execGExit (s : State) : Out :=
  gWord [] s (fun id w _ =>
    if !isTeamCtx id then s.raiseG id { code := 0x1 } w
    else if s.mayExit id then s.retire id
    else gStall s id .exit)

/-- ECALL: once hold-back holds no store of the team, a record goes to level two, the regions are sealed and the context
waits for the reply (R128, R186). -/
def execGEcall (d a b : BitVec 6) (s : State) : Out :=
  gWord [d, a, b] s (fun id _ c =>
    let body : TrapRec := { t0 := c.get a, t1 := c.get b, t2 := c.pc.zeroExtend 64 }
    let c1 := { c with wait := .reply, replyTo := d, issues := c.issues + 1 }
    if isTeamCtx id then
      if (s.core (teamCore id)).hold.any (fun h => h.team == id) then gStall s id (.irrevocable 0)
      else
        ((s.setCtx id c1).seal id).send
          (s.teamRec id 3 0 body (.agent id .gen))
    else
      let die := ctxDie id
      (s.setCtx id c1).send
        { kind := 3, head := recHead 3 0 die 0 0, body := body, die := die, permit := .dist die
          src := if isSup id then .sup id else .prologue die })

/-- GTIME (R130). -/
def execGGtime (d : BitVec 6) (s : State) : Out := gSet d [] (fun _ => s.time) s

/-- A word that is no G instruction: G_PRIV for majors 0x1D and 0x1E outside their contexts, and G_ILLEGAL (R71). -/
def execEIllegalGWord (v : W32) (s : State) : Out :=
  gWord [] s (fun id _ _ =>
    let m := fieldOf v 26 6
    let priv := (m == 0x1D && !isSup id) || (m == 0x1E && !isPro id)
    s.raiseG id { code := if priv then 0x2 else 0x1 } v)

end Sys2Proof.Machine
end

