-- ==== Sys2Proof/Machine/GroupInt.lean ====
section
/-! DEFINITION. Machine/GroupInt.lean: the integer C-words, majors 3 to 7 and 9 (R102, R137, R141 to R143). -/

namespace Sys2Proof.Machine

/-- An element-wise integer word: op takes the type, saturation and the sources' elements. -/
def cInt (d : BitVec 7) (fs : List (BitVec 7)) (op : IFmt → Bool → (Nat → Nat) → Nat) (s : State) : Out :=
  cAlu fs isInt s (fun gid e g =>
    let t := modeType g.mode
    let f := (typeInt t).getD { w := 32, sg := true }
    cPlain s gid e d (kCount fs) (fun l =>
      (mapElems t (fun i => (op f (modeSat g.mode) (fun j => elemOf f.w (g.src fs j l) i), {}))).1))

/-- A type-free word on whole lanes. -/
def cLane (d : BitVec 7) (fs : List (BitVec 7)) (op : Group → (Nat → W32) → Nat → W32) (s : State) : Out :=
  cAlu fs anyType s (fun gid e g => cPlain s gid e d (kCount fs) (fun l => op g (fun j => g.src fs j l) l))

/-- An integer word with an exact result of its elements' values, narrowed (R102). -/
def cExact (d : BitVec 7) (fs : List (BitVec 7)) (op : (Nat → Int) → Int) (s : State) : Out :=
  cInt d fs (fun f sat x => f.narrow sat (op (fun j => f.val (x j)))) s

/-- IMAD (R137). -/
def execCImad (d a b c : BitVec 7) (s : State) : Out := cExact d [a, b, c] (fun x => x 0 * x 1 + x 2) s
/-- IMADH: the high half of the exact sum (R137). -/
def execCImadh (d a b c : BitVec 7) (s : State) : Out :=
  cInt d [a, b, c] (fun f _ x => f.wrap ((f.val (x 0) * f.val (x 1) + f.val (x 2)).fdiv (2 ^ f.w))) s
/-- SELV (R137). -/
def execCSelv (d a b : BitVec 7) (p : BitVec 3) (s : State) : Out :=
  cLane d [a, b] (fun g x l => if (g.pget p).getLsbD l then x 0 else x 1) s

/-- DP4A: four byte products and c, in 32 bits (R137). -/
def execCDp4a (d a b c : BitVec 7) (s : State) : Out :=
  cAlu [a, b, c] (fun t => t == 7 || t == 8) s (fun gid e g =>
    let sg := modeType g.mode == 7
    let f8 : IFmt := { w := 8, sg := sg }
    let f32 : IFmt := { w := 32, sg := sg }
    let x (j l : Nat) : W32 := g.src [a, b, c] j l
    cPlain s gid e d (kCount [a, b, c]) (fun l =>
      let sum := (List.range 4).foldl (fun (z : Int) i =>
        z + f8.val (elemOf 8 (x 0 l) i) * f8.val (elemOf 8 (x 1 l) i)) (f32.val (x 2 l).toNat)
      BitVec.ofNat 32 (f32.narrow (modeSat g.mode) sum)))

/-- SHF, the funnel shift (R137). -/
def execCShf (d a b c : BitVec 7) (s : State) : Out :=
  cLane d [a, b, c] (fun _ x _ => ((x 1 ++ x 0 : BitVec 64) >>> fieldOf (x 2) 0 5).extractLsb' 0 32) s

/-- IADD (R141). -/
def execCIadd (d a b : BitVec 7) (s : State) : Out := cExact d [a, b] (fun x => x 0 + x 1) s
/-- ISUB (R141). -/
def execCIsub (d a b : BitVec 7) (s : State) : Out := cExact d [a, b] (fun x => x 0 - x 1) s
/-- IMUL (R141). -/
def execCImul (d a b : BitVec 7) (s : State) : Out := cExact d [a, b] (fun x => x 0 * x 1) s
/-- IMIN (R141). -/
def execCImin (d a b : BitVec 7) (s : State) : Out := cExact d [a, b] (fun x => min (x 0) (x 1)) s
/-- IMAX (R141). -/
def execCImax (d a b : BitVec 7) (s : State) : Out := cExact d [a, b] (fun x => max (x 0) (x 1)) s
/-- IAND (R141). -/
def execCIand (d a b : BitVec 7) (s : State) : Out := cLane d [a, b] (fun _ x _ => x 0 &&& x 1) s
/-- IOR (R141). -/
def execCIor (d a b : BitVec 7) (s : State) : Out := cLane d [a, b] (fun _ x _ => x 0 ||| x 1) s
/-- IXOR (R141). -/
def execCIxor (d a b : BitVec 7) (s : State) : Out := cLane d [a, b] (fun _ x _ => x 0 ^^^ x 1) s
/-- IANDN (R141). -/
def execCIandn (d a b : BitVec 7) (s : State) : Out := cLane d [a, b] (fun _ x _ => x 0 &&& ~~~(x 1)) s
/-- ISHL: the amount is taken mod w, and nothing saturates (R141). -/
def execCIshl (d a b : BitVec 7) (s : State) : Out :=
  cInt d [a, b] (fun f _ x => x 0 * 2 ^ (x 1 % f.w) % 2 ^ f.w) s
/-- ISHR (R141). -/
def execCIshr (d a b : BitVec 7) (s : State) : Out := cInt d [a, b] (fun f _ x => x 0 / 2 ^ (x 1 % f.w)) s
/-- ISRA: the top bit fills, whatever the type (R141). -/
def execCIsra (d a b : BitVec 7) (s : State) : Out :=
  cInt d [a, b] (fun f _ x =>
    let t : IFmt := { f with sg := true }
    t.wrap ((t.val (x 0)).fdiv (2 ^ (x 1 % f.w)))) s
/-- IABS (R102). -/
def execCIabs (d a : BitVec 7) (s : State) : Out := cExact d [a] (fun x => (x 0).natAbs) s
/-- INEG (R141). -/
def execCIneg (d a : BitVec 7) (s : State) : Out := cExact d [a] (fun x => -(x 0)) s
/-- IPOPC (R141). -/
def execCIpopc (d a : BitVec 7) (s : State) : Out := cInt d [a] (fun f _ x => popN f.w (x 0)) s
/-- ICLZ (R141). -/
def execCIclz (d a : BitVec 7) (s : State) : Out := cInt d [a] (fun f _ x => clzN f.w (x 0)) s
/-- IBREV (R141). -/
def execCIbrev (d a : BitVec 7) (s : State) : Out := cInt d [a] (fun f _ x => revN f.w (x 0)) s

/-- ICMP: the condition holds for every element of the lane (R142). -/
def cIcmp (op : Int → Int → Bool) (p : BitVec 3) (a b : BitVec 7) (s : State) : Out :=
  cAlu [a, b] isInt s (fun gid e g =>
    let f := (typeInt (modeType g.mode)).getD { w := 32, sg := true }
    cPred s gid e p (kCount [a, b]) (fun l => (List.range (32 / f.w)).all (fun i =>
      op (f.val (elemOf f.w (g.src [a, b] 0 l) i)) (f.val (elemOf f.w (g.src [a, b] 1 l) i)))))

/-- ICMP.EQ (R142). -/
def execCIcmpEq (p : BitVec 3) (a b : BitVec 7) (s : State) : Out := cIcmp (fun x y => x == y) p a b s
/-- ICMP.NE (R142). -/
def execCIcmpNe (p : BitVec 3) (a b : BitVec 7) (s : State) : Out := cIcmp (fun x y => x != y) p a b s
/-- ICMP.LT (R142). -/
def execCIcmpLt (p : BitVec 3) (a b : BitVec 7) (s : State) : Out := cIcmp (fun x y => decide (x < y)) p a b s
/-- ICMP.LE (R142). -/
def execCIcmpLe (p : BitVec 3) (a b : BitVec 7) (s : State) : Out := cIcmp (fun x y => decide (x ≤ y)) p a b s
/-- ICMP.GT (R142). -/
def execCIcmpGt (p : BitVec 3) (a b : BitVec 7) (s : State) : Out := cIcmp (fun x y => decide (y < x)) p a b s
/-- ICMP.GE (R142). -/
def execCIcmpGe (p : BitVec 3) (a b : BitVec 7) (s : State) : Out := cIcmp (fun x y => decide (y ≤ x)) p a b s

/-- IBFX, of I32 and N32 (R143). -/
def execCIbfx (d a b : BitVec 7) (s : State) : Out :=
  cAlu [a, b] (fun t => t == 3 || t == 4) s (fun gid e g =>
    cPlain s gid e d (kCount [a, b]) (fun l =>
      let x := g.src [a, b] 0 l
      let y := g.src [a, b] 1 l
      let w := fieldOf y 8 5 + 1
      let f := (x >>> fieldOf y 0 5).toNat % 2 ^ w
      let t : IFmt := { w := w, sg := modeType g.mode == 3 }
      BitVec.ofInt 32 (t.val f)))

end Sys2Proof.Machine
end

