-- ==== Sys2Proof/Machine/GroupData.lean ====
section
/-! DEFINITION. Machine/GroupData.lean: moves, conversions, lane words and reductions, major 10 (R101, R144 to R148). -/

namespace Sys2Proof.Machine

/-- MOV (R144). -/
def execCMov (d a : BitVec 7) (s : State) : Out := cLane d [a] (fun _ x _ => x 0) s

/-- CVT of one element from a source type to a destination type (R101). -/
def cvtElem (src dst mode : Nat) (sat : Bool) (x : Nat) : Nat × FFlags :=
  match typeFmt src, typeInt src, typeFmt dst, typeInt dst with
  | some f, _, some g, _ => roundTo g mode sat (f.val x)
  | some f, _, _, some i => cvtToInt i mode (f.val x)
  | _, some i, some g, _ => cvtFromInt g mode sat (i.val x)
  | _, some i, _, some j => (j.narrow sat (i.val x), {})
  | _, _, _, _ => (0, {})

/-- CVT (R145): elements past the source's are written 0. -/
def execCCvt (d a t : BitVec 7) (s : State) : Out :=
  cAlu [a] anyType s (fun gid e g =>
    let ty := modeType g.mode
    let n := min (32 / typeW t.toNat) (32 / typeW ty)
    cResult s gid e d (kCount [a]) (fun l => packElems (typeW ty) n (fun i =>
      cvtElem t.toNat ty (modeRound g.mode) (modeSat g.mode) (elemOf (typeW t.toNat) (g.src [a] 0 l) i))))

/-- The packed types. -/
def isPacked (t : Nat) : Bool := typeW t != 32

/-- PACK: low halves of b and a, bits unmoved (R144). -/
def execCPack (d a b : BitVec 7) (s : State) : Out :=
  cAlu [a, b] isPacked s (fun gid e g =>
    cPlain s gid e d (kCount [a, b]) (fun l =>
      (g.src [a, b] 1 l).extractLsb' 0 16 ++ (g.src [a, b] 0 l).extractLsb' 0 16))

/-- Widen of one element into the type twice as wide (R144). -/
def widen (t x : Nat) : Nat :=
  match t with
  | 5 => ({ w := 32, sg := true } : IFmt).wrap (({ w := 16, sg := true } : IFmt).val x)
  | 7 => ({ w := 16, sg := true } : IFmt).wrap (({ w := 8, sg := true } : IFmt).val x)
  | 1 => (roundTo fp32 0 false (bf16.val x)).1
  | 2 => (roundTo fp32 0 false (fp16.val x)).1
  | 9 => (roundTo fp16 0 false (f8e4.val x)).1
  | 10 => (roundTo fp16 0 false (f8e5.val x)).1
  | _ => x

/-- UNPKL and UNPKH: the low or high half of the elements, widened (R144). -/
def cUnpack (high : Bool) (d a : BitVec 7) (s : State) : Out :=
  cAlu [a] isPacked s (fun gid e g =>
    let t := modeType g.mode
    let w := typeW t
    let n := 16 / w
    cPlain s gid e d (kCount [a]) (fun l =>
      (packElems (2 * w) n (fun i => (widen t (elemOf w (g.src [a] 0 l) (if high then n + i else i)), {}))).1))

/-- UNPKL (R144). -/
def execCUnpkl (d a : BitVec 7) (s : State) : Out := cUnpack false d a s
/-- UNPKH (R144). -/
def execCUnpkh (d a : BitVec 7) (s : State) : Out := cUnpack true d a s

/-- LANEID (R146). -/
def execCLaneid (d : BitVec 7) (s : State) : Out := cLane d [] (fun _ _ l => BitVec.ofNat 32 l) s

/-- A shuffle: the source lane from the lane and the amount (R146). -/
def cShuffle (d a b : BitVec 7) (pick : Nat → Nat → Nat) (s : State) : Out :=
  cLane d [a, b] (fun g x l => g.src [a, b] 0 (pick l (fieldOf (x 1) 0 5))) s

/-- SHFL (R146). -/
def execCShfl (d a b : BitVec 7) (s : State) : Out := cShuffle d a b (fun _ n => n) s
/-- SHFLUP (R146). -/
def execCShflup (d a b : BitVec 7) (s : State) : Out := cShuffle d a b (fun l n => if n ≤ l then l - n else l) s
/-- SHFLDN (R146). -/
def execCShfldn (d a b : BitVec 7) (s : State) : Out := cShuffle d a b (fun l n => if l + n ≤ 31 then l + n else l) s
/-- SHFLX (R146). -/
def execCShflx (d a b : BitVec 7) (s : State) : Out := cShuffle d a b (fun l n => l ^^^ n) s

/-- BCAST: the lowest active lane's value (R146). -/
def execCBcast (d a : BitVec 7) (s : State) : Out :=
  cLane d [a] (fun g _ _ => g.src [a] 0 ((lanesOf g.lanes).headD 0)) s

/-- BALLOT (R147). -/
def execCBallot (p : BitVec 3) (a : BitVec 7) (s : State) : Out :=
  cAlu [a] anyType s (fun gid e g => cPred s gid e p (kCount [a]) (fun l => g.src [a] 0 l != 0))

/-- A node of a reduction with an absent side (R148). -/
def redNode (node : Nat → Nat → Nat × FFlags) (x y : Option Nat × FFlags) : Option Nat × FFlags :=
  match x.1, y.1 with
  | some a, some b => let r := node a b; (some r.1, (x.2.or y.2).or r.2)
  | some a, none => (some a, x.2)
  | none, _ => y

/-- The fixed tree over the active lanes of one element (R148). -/
def reduce (node : Nat → Nat → Nat × FFlags) (l : List (Option Nat)) : Option Nat × FFlags :=
  treeSum (redNode node) 5 (l.map (fun x => (x, ({} : FFlags)))) (none, {})

/-- A reduction of every element, the result in every active lane (R148). -/
def cReduce (d a : BitVec 7) (fl : Fmt → Nat → Bool → Nat → Nat → Nat × FFlags) (it : Int → Int → Int) (s : State) :
    Out :=
  cAlu [a] anyType s (fun gid e g =>
    let t := modeType g.mode
    let node : Nat → Nat → Nat × FFlags :=
      match typeFmt t, typeInt t with
      | some f, _ => fl f (modeRound g.mode) (modeSat g.mode)
      | _, some i => fun x y => (i.narrow (modeSat g.mode) (it (i.val x) (i.val y)), {})
      | _, _ => fun x _ => (x, {})
    let r := mapElems t (fun i =>
      let z := reduce node ((List.range 32).map (fun l =>
        if g.lanes.getLsbD l then some (elemOf (typeW t) (g.src [a] 0 l) i) else none))
      (z.1.getD 0, z.2))
    cResult s gid e d (kCount [a]) (fun _ => r))

/-- REDADD (R148). -/
def execCRedadd (d a : BitVec 7) (s : State) : Out := cReduce d a fadd (fun x y => x + y) s
/-- REDMAX (R148). -/
def execCRedmax (d a : BitVec 7) (s : State) : Out :=
  cReduce d a (fun f _ _ x y => (fminmax f true x y, {})) max s
/-- REDMIN (R148). -/
def execCRedmin (d a : BitVec 7) (s : State) : Out :=
  cReduce d a (fun f _ _ x y => (fminmax f false x y, {})) min s

end Sys2Proof.Machine
end

