-- ==== Sys2Proof/Machine/GroupFloat.lean ====
section
/-! DEFINITION. Machine/GroupFloat.lean: the float C-words, majors 0 to 2 and 8 (R98 to R100, R137 to R140). -/

namespace Sys2Proof.Machine

/-- An element-wise float word of the sources fs: op takes the format, rounding, saturation and the sources' elements. -/
def cFloat (d : BitVec 7) (fs : List (BitVec 7)) (ok : Nat → Bool)
    (op : Fmt → Nat → Bool → (Nat → Nat) → Nat × FFlags) (s : State) : Out :=
  cAlu fs ok s (fun gid e g =>
    let t := modeType g.mode
    let f := (typeFmt t).getD fp32
    cResult s gid e d (kCount fs) (fun l =>
      mapElems t (fun i => op f (modeRound g.mode) (modeSat g.mode) (fun j => elemOf (typeW t) (g.src fs j l) i))))

/-- A float word that raises no flag. -/
def noFlags (x : Nat) : Nat × FFlags := (x, {})

/-- FMA (R137). -/
def execCFma (d a b c : BitVec 7) (s : State) : Out :=
  cFloat d [a, b, c] isFloat (fun f m t x => ffma f m t false false (x 0) (x 1) (x 2)) s
/-- FMS (R137). -/
def execCFms (d a b c : BitVec 7) (s : State) : Out :=
  cFloat d [a, b, c] isFloat (fun f m t x => ffma f m t false true (x 0) (x 1) (x 2)) s
/-- FNMA (R137). -/
def execCFnma (d a b c : BitVec 7) (s : State) : Out :=
  cFloat d [a, b, c] isFloat (fun f m t x => ffma f m t true false (x 0) (x 1) (x 2)) s
/-- FADD (R138). -/
def execCFadd (d a b : BitVec 7) (s : State) : Out :=
  cFloat d [a, b] isFloat (fun f m t x => fadd f m t (x 0) (x 1)) s
/-- FSUB (R138). -/
def execCFsub (d a b : BitVec 7) (s : State) : Out :=
  cFloat d [a, b] isFloat (fun f m t x => fsub f m t (x 0) (x 1)) s
/-- FMUL (R138). -/
def execCFmul (d a b : BitVec 7) (s : State) : Out :=
  cFloat d [a, b] isFloat (fun f m t x => fmul f m t (x 0) (x 1)) s
/-- FMIN (R138). -/
def execCFmin (d a b : BitVec 7) (s : State) : Out :=
  cFloat d [a, b] isFloat (fun f _ _ x => noFlags (fminmax f false (x 0) (x 1))) s
/-- FMAX (R138). -/
def execCFmax (d a b : BitVec 7) (s : State) : Out :=
  cFloat d [a, b] isFloat (fun f _ _ x => noFlags (fminmax f true (x 0) (x 1))) s
/-- FABS (R138). -/
def execCFabs (d a : BitVec 7) (s : State) : Out :=
  cFloat d [a] isFloat (fun f _ _ x => noFlags (fabsneg f false (x 0))) s
/-- FNEG (R138). -/
def execCFneg (d a : BitVec 7) (s : State) : Out :=
  cFloat d [a] isFloat (fun f _ _ x => noFlags (fabsneg f true (x 0))) s
/-- FRCP (R99). -/
def execCFrcp (d a : BitVec 7) (s : State) : Out := cFloat d [a] isWideFloat (fun f _ t x => frcp f t (x 0)) s
/-- FRSQ (R99). -/
def execCFrsq (d a : BitVec 7) (s : State) : Out := cFloat d [a] isWideFloat (fun f _ t x => frsq f t (x 0)) s
/-- FSQRT (R98). -/
def execCFsqrt (d a : BitVec 7) (s : State) : Out := cFloat d [a] isWideFloat (fun f m t x => fsqrt f m t (x 0)) s
/-- FEX2 (R99). -/
def execCFex2 (d a : BitVec 7) (s : State) : Out := cFloat d [a] isWideFloat (fun f _ t x => fex2 f t (x 0)) s
/-- FLG2 (R99). -/
def execCFlg2 (d a : BitVec 7) (s : State) : Out := cFloat d [a] isWideFloat (fun f _ t x => flg2 f t (x 0)) s

/-- FCMP: the condition holds for every element of the lane (R139). -/
def cFcmp (op : Nat) (p : BitVec 3) (a b : BitVec 7) (s : State) : Out :=
  cAlu [a, b] isFloat s (fun gid e g =>
    let t := modeType g.mode
    let f := (typeFmt t).getD fp32
    cPred s gid e p (kCount [a, b]) (fun l => (List.range (32 / typeW t)).all (fun i =>
      fcmp f op (elemOf (typeW t) (g.src [a, b] 0 l) i) (elemOf (typeW t) (g.src [a, b] 1 l) i))))

/-- FCMP.EQ (R139). -/
def execCFcmpEq (p : BitVec 3) (a b : BitVec 7) (s : State) : Out := cFcmp 0 p a b s
/-- FCMP.NE (R139). -/
def execCFcmpNe (p : BitVec 3) (a b : BitVec 7) (s : State) : Out := cFcmp 1 p a b s
/-- FCMP.LT (R139). -/
def execCFcmpLt (p : BitVec 3) (a b : BitVec 7) (s : State) : Out := cFcmp 2 p a b s
/-- FCMP.LE (R139). -/
def execCFcmpLe (p : BitVec 3) (a b : BitVec 7) (s : State) : Out := cFcmp 3 p a b s
/-- FCMP.GT (R139). -/
def execCFcmpGt (p : BitVec 3) (a b : BitVec 7) (s : State) : Out := cFcmp 4 p a b s
/-- FCMP.GE (R139). -/
def execCFcmpGe (p : BitVec 3) (a b : BitVec 7) (s : State) : Out := cFcmp 5 p a b s
/-- FCMP.UN (R139). -/
def execCFcmpUn (p : BitVec 3) (a b : BitVec 7) (s : State) : Out := cFcmp 6 p a b s

/-- Class code of an element (R140). -/
def fclass (f : Fmt) (x : Nat) : Nat :=
  match f.val x with
  | .nan => 8
  | .inf neg => if neg then 0 else 7
  | .fin neg m _ =>
    if m = 0 then (if neg then 3 else 4)
    else if m < 2 ^ f.fb then (if neg then 2 else 5)
    else if neg then 1 else 6

/-- FCLASS (R140). -/
def execCFclass (d a : BitVec 7) (s : State) : Out :=
  cFloat d [a] isFloat (fun f _ _ x => noFlags (fclass f (x 0))) s

end Sys2Proof.Machine
end

