-- ==== Sys2Proof/Machine/Image.lean ====
section
/-! DEFINITION. Machine/Image.lean: the team image and the tag block of a slot, written and read (R179, R192 to R196, R199,
R337, R456). Places within a field that R192 and R193 leave open are the model's (assumption 20). -/

namespace Sys2Proof.Machine

/-! ## Writing -/

/-- A field of n bytes: what it holds and zeros. -/
def field (n : Nat) (l : List Byte) : List Byte := l.take n ++ List.replicate (n - l.length) 0

/-- Kind of an entry as R194 codes it; a retained GARM, for which it names no kind, is a marker whose word is 0
(assumption 88). -/
def EntryKind.code (k : EntryKind) : Nat × Nat :=
  match k with
  | .word => (1, 0)
  | .marker => (2, 0)
  | .gsetb n => (3, n % 8)
  | .descriptor n hi => (4, n % 16 * 8 + bitN hi)
  | .rearm => (2, 0)

/-- A queue entry (R194). -/
def QEntry.bytes (e : QEntry) : List Byte :=
  let k := e.kind.code
  natLe 8 e.val.toNat ++ natLe 6 e.pc.toNat ++ [BitVec.ofNat 8 k.1, BitVec.ofNat 8 (k.2 + 128 * bitN e.consumed)]

/-- Registers of sparse storage as bytes, n of them of k bytes each. -/
def regBytes {w : Nat} (l : Sparse w) (n k : Nat) : List Byte := (List.range n).flatMap (fun i => natLe k (spGet l i).toNat)

/-- Next try of an agent's record on its way, in ns, or 0 (R196). -/
def State.nextTry (s : State) (tid : Nat) (a : Agent) : Nat :=
  match s.records.find? (fun r => r.src == .agent tid a) with
  | some r => r.nextTry * 5 / 8
  | none => 0

/-- A record of the agent is on its way to level two or waits for its reply. -/
def State.atLevelTwo (s : State) (tid : Nat) (a : Agent) : Bool :=
  s.records.any (fun r => r.src == .agent tid a) || s.dies.any (fun d => d.2.fq.any (fun r => r.2.src == .agent tid a))

/-- Wake condition of a team's generator: kind, operand, byte 7 (R196, R298). -/
def State.genWake (s : State) (tid : Nat) : Nat × Nat × Nat :=
  let c := s.ctx tid
  match c.mwaits with
  | m :: _ => (8, m.1, 0)
  | [] =>
    match c.wait with
    | .barrier b ph gang => (1, b + 256 * bitN ph + 512 * bitN gang, 0)
    | .tag off full => (4, off + bitN full * 2 ^ 63, 0)
    | .monitor => (5, (c.monitor.map (fun m => m.line * 128)).getD 0, 0)
    | .queue t => (6, t, 0)
    | .kqueue g => (6, g, 0)
    | .returnQueue g => (7, g, 0)
    | .batch b => (8, b, 0)
    | .parked => (9, c.parkVa.toNat, bitN c.parkPi)
    | .region => (10, 0, 0)
    | .reply | .watchdog => (11, s.nextTry tid .gen, 0)
    | .held => if s.atLevelTwo tid .gen then (11, s.nextTry tid .gen, 0) else (12, (c.pended.getD c.trec).code, 0)
    | .exit => (13, 0, 0)
    | .irrevocable _ => (14, 0, 0)
    | _ => (0, 0, 0)

/-- The group waits for words: its queue is empty, or the clause at its head has not arrived whole. -/
def Group.starved (g : Group) : Bool :=
  g.clause.isNone &&
    (match g.head with
     | none => true
     | some e => e.isHeader && decide (g.live.length < headerLen e.word + 1))

/-- Wake condition of a group. -/
def State.grpWake (s : State) (tid g : Nat) : Nat × Nat × Nat :=
  let k := s.grp (groupId tid g)
  match k.wait with
  | .barrier b ph => (1, b + 256 * bitN ph, 0)
  | .kqueue => (3, 0, 0)
  | .returnQueue => (6, 18, 0)
  | .tag off full => (4, off + bitN full * 2 ^ 63, 0)
  | .monitor => (5, (k.monitor.map (fun m => m.line * 128)).getD 0, 0)
  | .batch b => (8, b, 0)
  | .parked => (9, k.parkVa.toNat, bitN (k.park.getLsbD 1))
  | .held => if s.atLevelTwo tid (.grp g) then (11, s.nextTry tid (.grp g), 0) else (12, if k.heldCode = 0 then 0x110 else k.heldCode, 0)
  | .irrevocable _ => (14, 0, 0)
  | .ready | .clause => if k.atMarker then (10, 0, 0) else if k.starved then (2, 0, 0) else (0, 0, 0)
  | _ => (0, 0, 0)

/-- Wake condition of a matrix unit. -/
def State.matWake (s : State) (tid : Nat) : Nat × Nat × Nat :=
  let t := s.team tid
  if t.mHeld.isSome then (if s.atLevelTwo tid .mat then (11, s.nextTry tid .mat, 0) else (12, t.mCode, 0))
  else if t.mAtMarker then (10, 0, 0)
  else if t.mLive.isEmpty then (2, 0, 0)
  else (0, 0, 0)

/-- A wake condition of 16 bytes. -/
def wakeBytes (a : Nat) (w : Nat × Nat × Nat) : List Byte :=
  natLe 1 w.1 ++ natLe 1 a ++ natLe 5 0 ++ natLe 1 w.2.2 ++ natLe 8 w.2.1

/-- The wake conditions of a team's 18 agents. -/
def State.wakeTable (s : State) (tid : Nat) : List Byte :=
  (List.range 16).flatMap (fun g => if g < (s.team tid).groups then wakeBytes g (s.grpWake tid g) else natLe 16 0) ++
    wakeBytes 16 (s.genWake tid) ++ wakeBytes 17 (s.matWake tid)

/-- The pc that a team's generator returns to: that of its oldest pending MWAIT, if one is pending (R298). -/
def Ctx.swapPc (c : Ctx) : BitVec 48 := match c.mwaits with | m :: _ => m.2.2 | [] => c.pc

/-- PSTAT with one swap more (R39, R179). -/
def Ctx.swapped (c : Ctx) : W32 :=
  let n : BitVec 16 := satInc (c.pstat.extractLsb' 8 16)
  (c.pstat &&& 0xFF0000FF#32) ||| ((n.zeroExtend 32) <<< 8)

/-- A mask of groups that pass a test. -/
def State.groupMask (s : State) (tid : Nat) (p : Group → Bool) : Nat :=
  (List.range (s.team tid).groups).foldl (fun a g => a + bitN (p (s.grp (groupId tid g))) * 2 ^ g) 0

/-- A slot's entry in the image: E, overflow, allocated in the region, E set, renormalisations, tile scale. -/
def Slot.entryBytes (x : Slot) : List Byte :=
  natLe 4 (x.e % 2 ^ 32).toNat ++ natLe 1 (bitN x.ovf) ++ natLe 1 (bitN x.inregion + 2 * bitN x.eset) ++ natLe 2 0
    ++ natLe 4 x.renorms.toNat ++ natLe 4 x.t.toNat

/-- Handle h of an M-word is among those that the word uses. -/
def usesHandle (w : W32) (h : Nat) : Bool :=
  match decodeM w with
  | some (.mMma x _ _ _ _ _ _) | some (.mMzero x) | some (.mMloada x _ _) | some (.mMout x _ _ _ _ _) | some (.mMscale x _)
  | some (.mMrelease x) => x.toNat == h
  | some (.mMmag x _ _ g _ _ _ _) => decide (x.toNat ≤ h) && decide (h ≤ x.toNat + g.toNat)
  | _ => false

/-- Register ah h of a team (R49): it is busy while the matrix unit has a word under way that uses it. -/
def State.handleReg (s : State) (tid h : Nat) : BitVec 16 :=
  let busy := s.matBusy tid && ((s.core (teamCore tid)).matWord.any (fun w => usesHandle w h))
  spGet (s.team tid).ah h ||| (if busy then 0x4000#16 else 0)

/-- The fixed part of a team's image. -/
def State.fixedPart (s : State) (tid : Nat) : List Byte :=
  let t := s.team tid
  let c := s.ctx tid
  let parked := (s.parkedAgents tid (fun _ _ => true)) != []
  let flags := bitN (c.level == 1) + 2 * bitN t.sealed + 4 * bitN (t.regIssued != t.regCommitted) + 8 * bitN parked
  let left := match c.watch with | some x => x - s.now | none => 0
  let b8 (x : W64) : List Byte := natLe 8 x.toNat
  field 0x40 (natLe 4 0x4D495A43 ++ natLe 2 1 ++ natLe 1 t.groups ++ natLe 1 t.accs ++ natLe 4 t.share ++ natLe 4 flags
    ++ b8 t.tag ++ natLe 4 t.x.toNat ++ natLe 4 t.y.toNat ++ natLe 4 t.z.toNat ++ natLe 4 (s.cid (teamCore tid)).toNat
    ++ natLe 8 s.now ++ natLe 4 t.msn.toNat ++ natLe 1 t.rolls)
  ++ regBytes c.s 64 8
  ++ field 0x18 (natLe 8 c.swapPc.toNat ++ natLe 1 c.c.toNat)
  ++ natLe 4 c.gmode.toNat ++ natLe 4 c.tstatus.toNat ++ b8 c.tvec ++ b8 c.tepc ++ natLe 8 c.regpc.toNat
  ++ natLe 8 c.pendEntry.toNat ++ natLe 4 c.swapped.toNat ++ natLe 1 c.tq.length ++ natLe 3 left
  ++ (List.range 16).flatMap (fun g => natLe 1 (spGet t.emit g).toNat)
  ++ field 0x28 (natLe 2 (s.groupMask tid Group.armed) ++ natLe 2 (s.groupMask tid (fun g => g.armed && !g.armedThen)))
  ++ c.trec.regs.flatMap b8
  ++ field 256 (c.tq.flatMap (fun r => r.regs.flatMap b8))
  ++ field 512 (s.wakeTable tid)
  ++ (List.range 32).flatMap (fun b => b8 (t.bar b) ++ b8 (spGet t.roll.bars b))
  ++ regBytes t.md 16 16
  ++ field 0x100 ((List.range 16).flatMap (fun h => natLe 8 (s.handleReg tid h).toNat))
  ++ field 0x200 (t.slots.flatMap (fun x => (kvGet {} t.slotState x).entryBytes))
  ++ field 4096 (t.mq.flatMap QEntry.bytes)

/-- A group block (R193). -/
def groupBlock (t : Team) (gi : Nat) (g : Group) : List Byte :=
  let b4 (x : W32) : List Byte := natLe 4 x.toNat
  regBytes g.v 4064 4
  ++ regBytes g.p 8 4
  ++ b4 g.mode ++ b4 g.active ++ natLe 4 g.fpx.toNat ++ b4 g.sig ++ b4 g.esn ++ b4 g.resn ++ b4 g.rmode
  ++ regBytes g.cf 12 1
  ++ field 16 (natLe 2 (bitN g.loopOn) ++ natLe 2 g.loopLeft.toNat ++ natLe 4 g.loopStart.toNat ++ b4 g.loopMask
      ++ natLe 4 g.loopDepth.toNat)
  ++ natLe 8 g.park.toNat
  ++ field 0x20 (natLe 8 (bitN g.armed + 2 * bitN (g.wait == .held) + 4 * bitN g.atMarker + g.stack.length * 256))
  ++ regBytes g.ab 8 8
  ++ field 0x1C0 (g.stack.reverse.flatMap (fun r => b4 r.mask ++ b4 r.mode ++ b4 r.els ++ natLe 4 0))
  ++ field 128 (g.kq.flatMap (fun k => b4 k.val))
  ++ field 32 (g.kq.map (fun k => BitVec.ofNat 8 (bitN k.popped + 2 * bitN (decide (t.regCommitted ≤ k.epoch)))))
  ++ field 16 (natLe 4 g.kq.length)
  ++ field 128 (g.rq.flatMap (fun k => natLe 8 k.val.toNat))
  ++ field 16 (g.rq.map (fun k => BitVec.ofNat 8 (bitN k.popped + 2 * bitN (decide (t.regCommitted ≤ k.pushed)))))
  ++ field 16 (natLe 4 g.rq.length)
  ++ field 0xB0 (natLe 4 (kvGet sigInit t.expSig gi).toNat)
  ++ field 0x1C00 (g.queue.flatMap QEntry.bytes)

/-- An accumulator element's 50 bits (R104). -/
def Elem.code (x : Elem) : Nat :=
  match x with
  | .fin m => (m % 2 ^ 48).toNat * 4
  | .inf false => 1
  | .inf true => 2
  | .nan => 3

/-- Elements packed in 50 bits each, four to 25 bytes. -/
def packAcc (l : List Nat) : List Byte :=
  match l with
  | a :: b :: c :: d :: t => natLe 25 (a + b * 2 ^ 50 + c * 2 ^ 100 + d * 2 ^ 150) ++ packAcc t
  | _ => []

/-- The elements of a slot, row-major; an unlisted one is finite zero. -/
def Slot.codes (x : Slot) : List Nat := (List.range 4096).map (fun i => (kvGet (.fin 0) x.elems i).code)

/-- What a team's slot holds: the image, and the tag block (R192, R199). -/
def State.slotBytes (s : State) (tid : Nat) : List Byte :=
  let t := s.team tid
  let tag (i : Nat) : Byte := BitVec.ofNat 8 ((List.range 8).foldl (fun a k => a + bitN (t.spFull ((i * 8 + k) * 4)) * 2 ^ k) 0)
  field t.imageSize (s.fixedPart tid
    ++ (List.range t.groups).flatMap (fun g => groupBlock t g (s.grp (groupId tid g)))
    ++ t.slots.flatMap (fun x => packAcc (kvGet {} t.slotState x).codes)
    ++ (List.range t.share).map (fun o => spGet t.sp (t.place o)))
  ++ field (t.slotSize - t.imageSize) ((List.range (t.share / 32)).map tag)

/-- Offset of the share in the image. -/
def Team.shareAt (t : Team) : Nat := 0x1C00 + t.groups * 0x6000 + t.accs * 0x6400

/-! ## Reading -/

/-- A reader of the image: offset and number of bytes. -/
abbrev Rd := Nat → Nat → Nat

/-- A register of w bits from the image. -/
def Rd.bv (rd : Rd) (w off n : Nat) : BitVec w := BitVec.ofNat w (rd off n)

/-- Sparse storage of n registers from a function. -/
def sparseOf {w : Nat} (n : Nat) (f : Nat → BitVec w) : Sparse w :=
  (List.range n).filterMap (fun k => if f k = 0 then none else some (k, f k))

/-- A queue entry from the image; its arrival and its marks are those of the entry that stood there, or of a new one. -/
def Rd.entry (rd : Rd) (off : Nat) (old : QEntry) : Option QEntry :=
  let k := rd (off + 14) 1
  let b := rd (off + 15) 1
  let mk (x : EntryKind) : Option QEntry :=
    some { old with kind := x, val := rd.bv 64 off 8, pc := rd.bv 48 (off + 8) 6, consumed := decide (128 ≤ b) }
  match k with
  | 1 => mk .word
  | 2 => mk (if rd off 8 = 0 then .rearm else .marker)
  | 3 => mk (.gsetb (b % 8))
  | 4 => mk (.descriptor (b / 8 % 16) (b % 2 == 1))
  | _ => none

/-- A queue of at most 256 entries, up to the first empty one. -/
def Rd.queue (rd : Rd) (off : Nat) (old : List QEntry) (d : QEntry) (n i : Nat) : List QEntry :=
  match n with
  | 0 => []
  | m + 1 =>
    match rd.entry (off + 16 * i) (old.getD i d) with
    | some e => e :: rd.queue off old d m (i + 1)
    | none => []

/-- A record of eight doublewords; the reserved bits of TREC0 to TREC2 read zero (R8, R38). -/
def Rd.trec (rd : Rd) (off : Nat) : TrapRec :=
  let r := TrapRec.ofRegs ((List.range 8).map (fun i => rd.bv 64 (off + 8 * i) 8))
  { r with t0 := r.t0 &&& 0xFFFFFFFFFF00FFFF#64, t1 := r.t1 &&& 0xFFFFFFFFFFFF#64, t2 := r.t2 &&& 0xFFFFFFFF#64 }

/-- A generator context as its image has it; reserved bits read zero (R8). -/
def Rd.ctx (rd : Rd) (c : Ctx) (now : Nat) : Ctx :=
  { c with
    s := (sparseOf 64 (fun i => rd.bv 64 (0x40 + 8 * i) 8)).filter (fun e => e.1 != 0)
    pc := rd.bv 48 0x240 8, c := rd.bv 8 0x248 1, gmode := rd.bv 32 0x258 4 &&& 0xFFF#32
    tstatus := rd.bv 32 0x25C 4 &&& 0xF#32
    tvec := rd.bv 64 0x260 8, tepc := rd.bv 64 0x268 8, regpc := rd.bv 48 0x270 8, pendEntry := rd.bv 48 0x278 8
    pstat := (rd.bv 32 0x280 4 &&& 0xFFFF03#32) ||| 2#32
    trec := rd.trec 0x2C0, tq := (List.range (min 4 (rd 0x284 1))).map (fun i => rd.trec (0x300 + 64 * i))
    watch := if rd 0x25C 4 / 2 % 4 = 1 then some (now + rd 0x285 3) else none
    tok := 0, mwaits := [] }

/-- An element from its 50 bits. -/
def accElem (x : Nat) : Elem :=
  match x % 4 with
  | 0 => .fin (if x / 4 % 2 ^ 48 < 2 ^ 47 then (x / 4 % 2 ^ 48 : Nat) else (x / 4 % 2 ^ 48 : Int) - 2 ^ 48)
  | 1 => .inf false
  | 2 => .inf true
  | _ => .nan

/-- A slot from the image: its entry, of whose E eleven bits count (R104), and its elements from an offset on. -/
def Rd.slot (rd : Rd) (k at_ : Nat) : Slot :=
  let o := 0xA00 + 16 * k
  let e := rd o 4 % 2048
  { elems := (List.range 4096).filterMap (fun i =>
      let x := accElem (rd (at_ + i / 4 * 25) 25 / 2 ^ (50 * (i % 4)) % 2 ^ 50)
      if x = .fin 0 then none else some (i, x))
    e := if e < 1024 then (e : Int) else (e : Int) - 2048, ovf := rd (o + 4) 1 % 2 == 1
    inregion := rd (o + 5) 1 % 2 == 1, eset := rd (o + 5) 1 / 2 % 2 == 1
    renorms := rd.bv 32 (o + 8) 4, t := rd.bv 32 (o + 12) 4 }

/-- A handle with its slot renumbered: the k-th old slot of the team is its k-th new one (R205). -/
def renumber (old new : List Nat) (h : BitVec 16) : BitVec 16 :=
  match old.idxOf? (fieldOf h 0 4) with
  | some k => (h &&& 0xFFF0#16) ||| BitVec.ofNat 16 (new.getD k 0)
  | none => h

/-- The team's registers as its image has them, reserved bits as zero (R8, R389); it is given new slots. -/
def Rd.team (rd : Rd) (t : Team) (slots units : List Nat) (serial : Nat) : Team :=
  let i := t.imageSize
  let num (x : Nat) : Nat := match t.slots.idxOf? x with | some k => slots.getD k 0 | none => x
  let sp0 := t.shareAt
  let words := List.range (t.share / 4)
  let bar (o : Nat) : W64 := rd.bv 64 o 8 &&& 0x7FFFFFFFFFFFFF#64
  { t with
    regIssued := t.regCommitted + rd 0x0C 4 / 4 % 2
    sealed := rd 0x0C 4 / 2 % 2 == 1, tag := rd.bv 64 0x10 8
    x := rd.bv 32 0x18 4, y := rd.bv 32 0x1C 4, z := rd.bv 32 0x20 4, msn := rd.bv 32 0x30 4, rolls := rd 0x34 1
    emit := sparseOf 16 (fun g => rd.bv 8 (0x288 + g) 1)
    bn := sparseOf 32 (fun b => bar (0x600 + 16 * b))
    md := sparseOf 16 (fun b => rd.bv 128 (0x800 + 16 * b) 16)
    ah := sparseOf 16 (fun b => renumber t.slots slots (rd.bv 16 (0x900 + 8 * b) 8 &&& 0x800F#16))
    mq := rd.queue 0xC00 t.mq { mark := serial, mws := t.mPushed } 256 0
    roll := { t.roll with bars := sparseOf 32 (fun b => bar (0x608 + 16 * b)), ah := t.roll.ah.map (fun h =>
      (h.1, renumber t.slots slots h.2)) }
    expSig := (List.range t.groups).map (fun g => (g, rd.bv 32 (0x1C00 + g * 0x6000 + 0x4350) 4))
    slots := slots, units := units, free := (t.free.map num).foldl natAdd []
    released := t.released.map (fun r => (r.1, num r.2))
    slotState := (List.range t.accs).map (fun k => (slots.getD k 0, rd.slot k (0x1C00 + t.groups * 0x6000 + k * 0x6400)))
    sp := sparseOf t.share (fun o => rd.bv 8 (sp0 + o) 1)
    spTag := words.filter (fun w => rd (i + w / 8) 1 / 2 ^ (w % 8) % 2 == 1)
    spPoison := []
    life := .running, blockedSince := none, flipped := false }

/-- A group as its image has it, reserved bits read as zero (R8), n regions of the team having committed. Where its armed bit
and the armed mask differ, the one that was altered counts (R195; assumption 64). -/
def Rd.group (rd : Rd) (o n : Nat) (g : Group) (t : Team) (serial : Nat) (gi : Nat) : Group :=
  let low (late : Bool) (e : Nat) : Nat := if late then max e n else min e (n - 1)
  let flags := rd (o + 0x3FE0) 8
  let mask := (rd 0x298 2).testBit gi
  let armed := if flags % 2 == bitN mask then mask else !g.armed
  { g with
    v := sparseOf 4064 (fun i => rd.bv 32 (o + 4 * i) 4), p := sparseOf 8 (fun i => rd.bv 32 (o + 0x3F80 + 4 * i) 4)
    mode := rd.bv 32 (o + 0x3FA0) 4, active := rd.bv 32 (o + 0x3FA4) 4, fpx := rd.bv 5 (o + 0x3FA8) 4
    sig := rd.bv 32 (o + 0x3FAC) 4, esn := rd.bv 32 (o + 0x3FB0) 4, resn := rd.bv 32 (o + 0x3FB4) 4
    rmode := rd.bv 32 (o + 0x3FB8) 4, cf := sparseOf 12 (fun i => rd.bv 6 (o + 0x3FBC + i) 1)
    loopOn := rd (o + 0x3FC8) 2 % 2 == 1, loopLeft := rd.bv 16 (o + 0x3FCA) 2, loopStart := rd.bv 4 (o + 0x3FCC) 4
    loopMask := rd.bv 32 (o + 0x3FD0) 4, loopDepth := rd.bv 5 (o + 0x3FD4) 4, park := rd.bv 64 (o + 0x3FD8) 8 &&& 0xFFFFFFFF00000003#64
    armed := armed, armedThen := (armed || g.armedThen) && !(rd 0x29A 2).testBit gi
    ab := sparseOf 8 (fun i => rd.bv 64 (o + 0x4000 + 8 * i) 8)
    stack := ((List.range (min 16 (flags / 256 % 32))).map (fun i =>
      { mask := rd.bv 32 (o + 0x4040 + 16 * i) 4, mode := rd.bv 32 (o + 0x4044 + 16 * i) 4
        els := rd.bv 32 (o + 0x4048 + 16 * i) 4 : Recon })).reverse
    kq := (List.range (min 32 (rd (o + 0x42A0) 4 % 64))).map (fun i =>
      let f := rd (o + 0x4280 + i) 1
      { val := rd.bv 32 (o + 0x4200 + 4 * i) 4, popped := f % 2 == 1
        epoch := low (f / 2 % 2 == 1) (g.kq.getD i { epoch := n }).epoch })
    rq := (List.range (min 16 (rd (o + 0x4340) 4 % 32))).map (fun i =>
      let f := rd (o + 0x4330 + i) 1
      let e := g.rq.getD i { pushed := n, poppedAt := n }
      { val := rd.bv 64 (o + 0x42B0 + 8 * i) 8, popped := f % 2 == 1, pushed := low (f / 2 % 2 == 1) e.pushed
        poppedAt := e.poppedAt })
    queue := rd.queue (o + 0x4400) g.queue { mark := serial, mws := t.mPushed } 256 0 }

end Sys2Proof.Machine
end

