-- ==== Sys2Proof/Machine/Swap.lean ====
section
/-! DEFINITION. Machine/Swap.lean: when a team is swapped out, swap-out, and swap-in (R28, R177 to R182, R196, R298, R337,
R378, R386). -/

namespace Sys2Proof.Machine

/-! ## Blocking points (R178, R181, R196) -/

/-- The generator of a team is at a blocking point. -/
def State.genBlocked (s : State) (tid : Nat) : Bool :=
  match (s.ctx tid).wait with
  | .barrier _ _ _ | .tag _ _ | .monitor | .queue _ | .returnQueue _ | .batch _ | .parked | .region | .gangRegion _ _
  | .reply | .held | .exit | .irrevocable _ | .token | .kqueue _ | .watchdog => true
  | .yield => (s.team tid).life != .running
  | _ => false

/-- A group is at a blocking point: its issued words have completed, and it waits, or has nothing to issue. -/
def Group.blocked (g : Group) : Bool :=
  g.pend.isEmpty && (!g.armed ||
    (match g.wait with
     | .barrier _ _ | .monitor | .tag _ _ | .kqueue | .returnQueue | .batch _ | .irrevocable _ | .parked | .held => true
     | .ready | .clause => g.atMarker || g.starved
     | _ => false))

/-- The matrix unit is at a blocking point for a team: its word is finished, and its queue is empty, its head a marker, or
it is held. -/
def State.matBlocked (s : State) (tid : Nat) : Bool :=
  let t := s.team tid
  !s.matBusy tid && (t.mLive.isEmpty || t.mAtMarker || t.mHeld.isSome)

/-- Every agent of a team is at a blocking point. -/
def State.allBlocked (s : State) (tid : Nat) : Bool :=
  s.genBlocked tid && s.matBlocked tid &&
    (List.range (s.team tid).groups).all (fun g => (s.grp (groupId tid g)).blocked)

/-- Every agent that is not parked is at a blocking point, and some agent is parked (R178). -/
def State.parkBlocked (s : State) (tid : Nat) : Bool :=
  s.allBlocked tid && (s.parkedAgents tid (fun _ _ => true)) != []

/-- A team that may be swapped at all (R178, R337). -/
def Team.swappable (t : Team) : Bool := t.gang.isNone && t.swapArea != 0

/-- A team is chosen for swap-out. -/
def State.askSwap (s : State) (tid : Nat) : State :=
  if (s.team tid).swappable && (s.team tid).life == .running then
    s.updTeam tid (fun t => { t with life := .swapAsked false })
  else s

/-- TSWAP_EXPIRY of team a: TSWAP µs without a break (R178). -/
def execETswapExpiry (s : State) : Out :=
  match s.cur with
  | .event x =>
    let n := (s.core (teamCore x.a)).tswap.toNat
    .next (match (s.team x.a).blockedSince with
    | some c => if s.hasTeam x.a ∧ n ≠ 0 ∧ c + n * 1600 ≤ s.clk ∧ s.parkBlocked x.a then s.askSwap x.a else s
    | none => s)
  | _ => .next s

/-- Since when an agent has been parked, in ns. -/
def State.parkedSince (s : State) (tid : Nat) (a : Agent) : Nat :=
  match a with
  | .gen => (s.ctx tid).parkSince
  | .grp g => (s.grp (groupId tid g)).parkSince
  | .mat => s.now

/-- TMAX_EXPIRY of team a: an agent parked for longer than TMAX µs (R178). -/
def execETmaxExpiry (s : State) : Out :=
  match s.cur with
  | .event x =>
    let n := (s.core (teamCore x.a)).tmax.toNat
    .next (if s.hasTeam x.a ∧ n ≠ 0 ∧
        (s.parkedAgents x.a (fun _ _ => true)).any (fun a => decide (s.parkedSince x.a a + n * 1000 < s.now)) then s.askSwap x.a
      else s)
  | _ => .next s

/-! ## Swap-out (R179, R337) -/

/-- A pre-emption may take effect (R179, R181, R182): the agents stand at blocking points, no handler masks traps, and
what has issued has completed, but for pending MWAITs. -/
def State.mayPreempt (s : State) (tid : Nat) : Bool :=
  s.hasTeam tid && (s.team tid).life != .running && (s.team tid).swappable && !(s.ctx tid).mask && s.allBlocked tid &&
    !s.copiesOf tid && (s.core (teamCore tid)).hold.all (fun h => h.team != tid)

/-- Addresses of the pages of a team's slot. -/
def Team.slotPages (t : Team) : List W64 := (List.range (t.slotSize / 65536)).map (fun k => t.slotVa + w64 (k * 65536))

/-- A page of a slot as a need finds it: its places, and what its entry says of its lines. -/
def State.slotPage (s : State) (core asid : Nat) (n : Need) (va : W64) : Option (List Nat × PageKind) :=
  match s.translateWalk (coreDie core) asid false va n with
  | .ok e z => some (placesOf (s.die 0).devnum.toNat e z va, pteKind e)
  | _ => none

/-- The pages of a slot are walked. -/
def State.walkedAll (s : State) (die asid : Nat) (l : List W64) : State := l.foldl (fun a va => a.walked die asid va) s

/-- Lines of 128 bytes. -/
def linesOf (fuel : Nat) (l : List Byte) : List (List Byte) :=
  match fuel with
  | 0 => []
  | n + 1 => if l.isEmpty then [] else l.take 128 :: linesOf n (l.drop 128)

/-- A page of a slot is written by the save path. -/
def State.savePage (s : State) (core : Nat) (p : List Nat × PageKind) (bs : List Byte) : State :=
  (linesOf 512 bs).zipIdx.foldl (fun a l =>
    a.performAll (coreDie core) [] (p.1.map (fun x => x / 128 + l.2)) (kvBytes [] 0 l.1) p.2.os core 8191 false) s

/-- Poisoned words of the share leave their sectors of the image poisoned (R456). -/
def State.savePoison (s : State) (t : Team) (ps : List (List Nat × PageKind)) : State :=
  t.spPoison.foldl (fun a w =>
    let o := t.shareAt + 4 * w
    (ps.getD (o / 65536) ([], {})).1.foldl (fun b p => b.poisonSector (p + o % 65536)) a) s

/-- Records of a team's agents know it by another name. -/
def Rec2.rename (tid name : Nat) (r : Rec2) : Rec2 :=
  match r.src with
  | .agent x a => if x = tid then { r with src := .out name a, tid := none } else r
  | _ => if r.tid = some tid then { r with tid := none } else r

/-- Records of a team that has returned know it again. -/
def Rec2.renameBack (tid name : Nat) (r : Rec2) : Rec2 :=
  match r.src with
  | .out x a => if x = name then { r with src := .agent tid a, tid := some tid } else r
  | _ => r

/-- Every record, on its way or in a queue, is changed. -/
def State.mapRecords (s : State) (f : Rec2 → Rec2) : State :=
  { s with records := s.records.map f, dies := kvMap (fun _ d => { d with fq := kvMap (fun _ r => f r) d.fq }) s.dies }

/-- Swap-out of a team whose slot's pages are there (R179). -/
def State.swapOut (s : State) (tid : Nat) (ps : List (List Nat × PageKind)) : State :=
  let t := s.team tid
  let c := s.ctx tid
  let core := teamCore tid
  let name := s.opSerial
  let waits := !c.mwaits.isEmpty
  let x : Swapped :=
    { core := core, name := name, team := t
      ctx := { c with pc := c.swapPc, tok := 0, mwaits := [], pended := if waits then none else c.pended, pstat := c.swapped
                      wait := if waits then .ready else c.wait }
      groups := (List.range t.groups).map (fun g => (g, s.grp (groupId tid g))), wakes := s.wakeTable tid }
  let w : Waiting :=
    { lid := t.lid, num := t.num, run := (s.launch t.lid).run, cluster := coreCluster core, prio := t.prio, order := t.order
      swapped := some x, ahead := (s.parkedAgents tid (fun _ _ => true)) != [] }
  let bs := s.slotBytes tid
  let s1 := ps.zipIdx.foldl (fun a p => a.savePage core p.1 ((bs.drop (p.2 * 65536)).take 65536)) s
  let s2 := ((s1.savePoison t ps).swapNote tid 2 t.slotVa).mapRecords (Rec2.rename tid name)
  let s3 := ((s2.freeTeam tid false).updCore core (fun k => { k with swaps := satInc k.swaps })).tally 156
  { s3.updDie (coreDie core) (fun d => { d with pending := d.pending ++ [w] }) with opSerial := name + 1 }

/-- SWAP_OUT of team a. A slot with a page that is not resident or not writable ends the attempt (R337). -/
def execESwapOut (s : State) : Out :=
  match s.cur with
  | .event x =>
    let t := s.team x.a
    let core := teamCore x.a
    .next (if !s.mayPreempt x.a then s
      else
        let s1 := s.walkedAll (coreDie core) t.asid.toNat t.slotPages
        match t.slotPages.find? (fun va => (s.slotPage core t.asid.toNat .store va).isNone) with
        | some va => (s1.swapNote x.a 3 va).updTeam x.a (fun t => { t with life := .running, blockedSince := none })
        | none => s1.swapOut x.a (t.slotPages.filterMap (s.slotPage core t.asid.toNat .store)))
  | _ => .next s

/-! ## Swap-in (R177, R180, R195, R205) -/

/-- A page of a slot as the restore path reads it, each byte with its poison; the value of poison is free
(assumption 8). -/
def State.loadPage (s : State) (die : Nat) (p : List Nat × PageKind) : State × List (Byte × Bool) :=
  let pl := readPlace die p.1
  let s0 := if isFar pl then s else (List.range 512).foldl (fun a k => a.homeRead die (pl / 128 + k) p.2.hint) s
  let lost (i : Nat) : Bool :=
    if isFar pl then (s.farRoute die pl).isNone || s.poison.contains ((pl + i) / 64) else s0.readsBad (pl + i)
  let value (i : Nat) : Byte :=
    if lost i then (Config.freeWord (s.freeCtr + i)).extractLsb' 0 8
    else if isFar pl then Config.outsideByte (s.freeCtr + i) else s0.byte (pl + i)
  ({ s0 with freeCtr := s.freeCtr + 65536 }, (List.range 65536).map (fun i => (value i, lost i)))

/-- The slot's bytes. -/
def State.loadSlot (s : State) (die : Nat) (ps : List (List Nat × PageKind)) : State × List (Byte × Bool) :=
  ps.foldl (fun a p => let r := a.1.loadPage die p; (r.1, a.2 ++ r.2)) (s, [])

/-- The image's wake condition of an agent is the one that it was written with. -/
def sameWake (rd : Rd) (wakes : List Byte) (a : Nat) : Bool :=
  (List.range 16).all (fun i => rd (0x400 + 16 * a + i) 1 == (wakes.getD (16 * a + i) 0).toNat)

/-- The generator's wait when it returns: an altered wake condition has it wait as the condition says. The kinds that are not
named here are those in which its word is tried again in any case (R195, R196; assumption 64). -/
def wakeCtx (rd : Rd) (same : Bool) (c : Ctx) : Ctx :=
  let c1 := { c with monitor := c.monitor.map (fun m => { m with woken := true }) }
  if same then c1
  else
    match rd 0x500 1 with
    | 1 => { c1.setPark false with wait := .barrier (rd 0x508 1 % 32) (rd 0x509 1 % 2 == 1) (rd 0x509 1 / 2 % 2 == 1) }
    | 9 => { c1.setPark true with wait := .parked, parkVa := rd.bv 64 0x508 8, parkPi := rd 0x507 1 % 2 == 1 }
    | 11 => { c1.setPark false with wait := .reply }
    | 12 => { c1.setPark false with
        wait := .held, trec := { c1.trec with t0 := (c1.trec.t0 &&& ~~~0xFFFF#64) ||| rd.bv 64 0x508 2 } }
    | _ => { c1.setPark false with wait := .ready }

/-- The word that holds a group is the one at the head of its queue as the image has it, if it was so before. -/
def heldNow (old new : Group) : Option QEntry := if old.heldWord == old.head then new.head else old.heldWord

/-- A group's wait when it returns, from its wake condition and its held bit (R193, R195, R196; assumption 64). A monitored
wait reads its word again (R271). -/
def wakeGrp (rd : Rd) (same : Bool) (gi : Nat) (old g : Group) : Group :=
  let o := 0x400 + 16 * gi
  let held := rd (0x1C00 + gi * 0x6000 + 0x3FE0) 1 / 2 % 2 == 1
  let g1 := { g with
    monitor := none, wait := if g.wait = .monitor then .ready else g.wait
    heldCode := if same || rd o 1 != 12 then g.heldCode else rd (o + 8) 2 }
  let free : Group := { g1 with wait := .ready, heldWord := none, heldCode := 0 }
  if held then { g1 with wait := .held, heldWord := if g.wait = .held then heldNow old g else g.head }
  else if g.wait = .held then free
  else if same then (if g.wait = .parked then { g1 with heldWord := heldNow old g } else g1)
  else
    match rd o 1 with
    | 1 => { free with wait := .barrier (rd (o + 8) 1 % 32) (rd (o + 9) 1 % 2 == 1), park := 0 }
    | 9 => { g1 with wait := .parked, parkVa := rd.bv 64 (o + 8) 8, heldWord := g.head }
    | _ => { free with park := 0 }

/-- The matrix unit's hold when the team returns, from its wake condition (R195, R196; assumption 64): held, it is held at the
word at the head of its queue as the image has it. -/
def wakeMat (rd : Rd) (same : Bool) (old : Option QEntry) (t : Team) : Team :=
  let held := t.mLive.find? (fun e => e.kind == .word)
  if same then { t with mHeld := if old.isSome then held else none }
  else
    match rd 0x510 1 with
    | 11 => { t with mHeld := held }
    | 12 => { t with mHeld := held, mCode := rd 0x518 2 }
    | _ => { t with mHeld := none }

/-- A record on its way takes the next try that an altered wake condition of kind 11 gives its agent (R195, R196). -/
def Rec2.retry (rd : Rd) (wakes : List Byte) (tid : Nat) (r : Rec2) : Rec2 :=
  match r.src with
  | .agent x a =>
    let o := 0x400 + 16 * agentBit a
    if x = tid ∧ rd o 1 = 11 ∧ sameWake rd wakes (agentBit a) = false then { r with nextTry := rd (o + 8) 8 * 8 / 5 } else r
  | _ => r

/-- The team stands on its core again as its image has it. -/
def State.restore (s : State) (x : Swapped) (img : List (Byte × Bool)) : State × Nat :=
  let a := img.toArray
  let rd : Rd := fun off n => leNat ((List.range n).map (fun i => (a.getD (off + i) (0, false)).1))
  let t := x.team
  let tid := x.core * 4 + (([0, 1, 2, 3].filter (fun k => !s.hasTeam (x.core * 4 + k))).headD 0)
  let (k, us, as_) := (s.core x.core).take ((t.share + 65535) / 65536) t.accs t.bars
  let bad := (List.range (t.share / 4)).filter (fun w => (a.getD (t.shareAt + 4 * w) (0, false)).2)
  let t1 := wakeMat rd (sameWake rd x.wakes 17) t.mHeld { rd.team t as_ us s.opSerial with spPoison := bad }
  let c1 := wakeCtx rd (sameWake rd x.wakes 16) (rd.ctx x.ctx s.now)
  let grp (e : Nat × Group) : Group := wakeGrp rd (sameWake rd x.wakes e.1) e.1 e.2
    (rd.group (0x1C00 + e.1 * 0x6000) t.regCommitted e.2 t s.opSerial e.1)
  let room := decide (s.waiters x.core < 16)
  let c2 := { c1 with monitor := if room then c1.monitor else none }
  let s1 := (((s.setCore x.core k).reclaim x.core).setTeam tid t1).setCtx tid c2
  let s2 := match c2.monitor with | some m => s1.arm m.line (coreDie x.core) | none => s1
  let s3 := (x.groups.foldl (fun b e => b.setGrp (groupId tid e.1) (grp e)) s2).mapRecords (fun r =>
    (r.renameBack tid x.name).retry rd x.wakes tid)
  (s3.takeEdge tid, tid)

/-- What came while the team was out acts now: the replies, and then the walks of the parked agents (R128, R177, R180). -/
def State.resume (s : State) (tid : Nat) (x : Swapped) : State :=
  let s1 := x.replies.foldl (fun a r => a.answer (r.1.renameBack tid x.name) r.2) s
  (s1.parkedAgents tid (fun _ _ => true)).foldl (fun a g => if a.hasTeam tid then (a.rewalkAgent tid g).1 else a) s1

/-- SWAP_IN of the team whose turn it is in cluster b of die a (R180). -/
def execESwapIn (s : State) : Out :=
  match s.cur with
  | .event x =>
    .next (match s.nextWaiting x.a x.b with
    | none => s
    | some w =>
      match w.swapped with
      | none => s
      | some y =>
        let t := y.team
        let needs := [1, t.groups, (t.share + 65535) / 65536, t.accs, t.bars]
        let ps := t.slotPages.map (fun (va : W64) => s.slotPage y.core t.asid.toNat .load va)
        if s.fits y.core s.nextGang w.order w.prio needs && ps.all (fun p => p.isSome) then
          let far := (ps.filterMap id).flatMap (fun p => (List.range 16).map (fun k => readPlace x.a p.1 + k * 4096))
          if s.hostWaits far then s.askHost far else
          let s1 := (s.walkedAll x.a t.asid.toNat t.slotPages).updDie x.a (fun d => { d with pending := d.pending.erase w })
          let r := s1.loadSlot x.a (ps.filterMap id)
          let q := r.1.restore y r.2
          q.1.resume q.2 y
        else s)
  | _ => .next s

end Sys2Proof.Machine
end

