-- ==== Sys2Proof/Machine/Dispatch.lean ====
section
/-! DEFINITION. Machine/Dispatch.lean: the meaning of every step, one arm for each row of the opcode table. -/

namespace Sys2Proof.Machine

/-- What a step does to the machine. -/
def exec (i : Instr) (s : State) : Host.Outcome State Fault Refusal :=
  match i with
  | .gAdd d a b => Sys2Proof.Machine.execGAdd d a b s
  | .gSub d a b => Sys2Proof.Machine.execGSub d a b s
  | .gAnd d a b => Sys2Proof.Machine.execGAnd d a b s
  | .gOr d a b => Sys2Proof.Machine.execGOr d a b s
  | .gXor d a b => Sys2Proof.Machine.execGXor d a b s
  | .gAndn d a b => Sys2Proof.Machine.execGAndn d a b s
  | .gSll d a b => Sys2Proof.Machine.execGSll d a b s
  | .gSrl d a b => Sys2Proof.Machine.execGSrl d a b s
  | .gSra d a b => Sys2Proof.Machine.execGSra d a b s
  | .gRol d a b => Sys2Proof.Machine.execGRol d a b s
  | .gSlt d a b => Sys2Proof.Machine.execGSlt d a b s
  | .gSltu d a b => Sys2Proof.Machine.execGSltu d a b s
  | .gMin d a b => Sys2Proof.Machine.execGMin d a b s
  | .gMax d a b => Sys2Proof.Machine.execGMax d a b s
  | .gMinu d a b => Sys2Proof.Machine.execGMinu d a b s
  | .gMaxu d a b => Sys2Proof.Machine.execGMaxu d a b s
  | .gSext d a w => Sys2Proof.Machine.execGSext d a w s
  | .gZext d a w => Sys2Proof.Machine.execGZext d a w s
  | .gMovc d a n => Sys2Proof.Machine.execGMovc d a n s
  | .gMul d a b => Sys2Proof.Machine.execGMul d a b s
  | .gMulh d a b => Sys2Proof.Machine.execGMulh d a b s
  | .gMulhu d a b => Sys2Proof.Machine.execGMulhu d a b s
  | .gDiv d a b => Sys2Proof.Machine.execGDiv d a b s
  | .gDivu d a b => Sys2Proof.Machine.execGDivu d a b s
  | .gRem d a b => Sys2Proof.Machine.execGRem d a b s
  | .gRemu d a b => Sys2Proof.Machine.execGRemu d a b s
  | .gClz d a => Sys2Proof.Machine.execGClz d a s
  | .gCtz d a => Sys2Proof.Machine.execGCtz d a s
  | .gPopc d a => Sys2Proof.Machine.execGPopc d a s
  | .gBrev d a => Sys2Proof.Machine.execGBrev d a s
  | .gBfx d a b => Sys2Proof.Machine.execGBfx d a b s
  | .gBfi d a b => Sys2Proof.Machine.execGBfi d a b s
  | .gCwset d a k => Sys2Proof.Machine.execGCwset d a k s
  | .gAddi d a n => Sys2Proof.Machine.execGAddi d a n s
  | .gAndi d a n => Sys2Proof.Machine.execGAndi d a n s
  | .gOri d a n => Sys2Proof.Machine.execGOri d a n s
  | .gXori d a n => Sys2Proof.Machine.execGXori d a n s
  | .gShi d a o k => Sys2Proof.Machine.execGShi d a o k s
  | .gSlti d a n => Sys2Proof.Machine.execGSlti d a n s
  | .gSltiu d a n => Sys2Proof.Machine.execGSltiu d a n s
  | .gMuli d a n => Sys2Proof.Machine.execGMuli d a n s
  | .gLui d n => Sys2Proof.Machine.execGLui d n s
  | .gAuipc d n => Sys2Proof.Machine.execGAuipc d n s
  | .gCmp n a b c => Sys2Proof.Machine.execGCmp n a b c s
  | .gCmpi c n a j => Sys2Proof.Machine.execGCmpi c n a j s
  | .gCbop d a b o => Sys2Proof.Machine.execGCbop d a b o s
  | .gBc c k o => Sys2Proof.Machine.execGBc c k o s
  | .gBa o => Sys2Proof.Machine.execGBa o s
  | .gBl o => Sys2Proof.Machine.execGBl o s
  | .gBrr a => Sys2Proof.Machine.execGBrr a s
  | .gBrlr a => Sys2Proof.Machine.execGBrlr a s
  | .gLd d a r z o => Sys2Proof.Machine.execGLd d a r z o s
  | .gLds d a r z o => Sys2Proof.Machine.execGLds d a r z o s
  | .gSt d a r z o => Sys2Proof.Machine.execGSt d a r z o s
  | .gAmo d a b p o k => Sys2Proof.Machine.execGAmo d a b p o k s
  | .gLdp d a n r => Sys2Proof.Machine.execGLdp d a n r s
  | .gLdsum d a t r => Sys2Proof.Machine.execGLdsum d a t r s
  | .gLdf d a m => Sys2Proof.Machine.execGLdf d a m s
  | .gSte d a m => Sys2Proof.Machine.execGSte d a m s
  | .gFence e a r => Sys2Proof.Machine.execGFence e a r s
  | .gMonitor a => Sys2Proof.Machine.execGMonitor a s
  | .gMwaita d a => Sys2Proof.Machine.execGMwaita d a s
  | .gCopy d a b => Sys2Proof.Machine.execGCopy d a b s
  | .gCopys d a b => Sys2Proof.Machine.execGCopys d a b s
  | .gCopyz d a b => Sys2Proof.Machine.execGCopyz d a b s
  | .gEmit g a n z r => Sys2Proof.Machine.execGEmit g a n z r s
  | .gEmitk g a k n z r => Sys2Proof.Machine.execGEmitk g a k n z r s
  | .gEmitm a n z r => Sys2Proof.Machine.execGEmitm a n z r s
  | .gEmitb n a b z r => Sys2Proof.Machine.execGEmitb n a b z r s
  | .gPop d g n z => Sys2Proof.Machine.execGPop d g n z s
  | .gQstat d g => Sys2Proof.Machine.execGQstat d g s
  | .gGarm g => Sys2Proof.Machine.execGGarm g s
  | .gYield => Sys2Proof.Machine.execGYield s
  | .gRegion => Sys2Proof.Machine.execGRegion s
  | .gEmitl g n c o => Sys2Proof.Machine.execGEmitl g n c o s
  | .gMdset n a b => Sys2Proof.Machine.execGMdset n a b s
  | .gMwait d a => Sys2Proof.Machine.execGMwait d a s
  | .gGsetb g a n => Sys2Proof.Machine.execGGsetb g a n s
  | .gBarinit b a => Sys2Proof.Machine.execGBarinit b a s
  | .gBararv b => Sys2Proof.Machine.execGBararv b s
  | .gBardrop b => Sys2Proof.Machine.execGBardrop b s
  | .gBarwait b a => Sys2Proof.Machine.execGBarwait b a s
  | .gBaraw b => Sys2Proof.Machine.execGBaraw b s
  | .gGbarinit g => Sys2Proof.Machine.execGGbarinit g s
  | .gGbararv g => Sys2Proof.Machine.execGGbararv g s
  | .gGbardrop g => Sys2Proof.Machine.execGGbardrop g s
  | .gGbarwait g a => Sys2Proof.Machine.execGGbarwait g a s
  | .gCsrr d n => Sys2Proof.Machine.execGCsrr d n s
  | .gCsrw d n => Sys2Proof.Machine.execGCsrw d n s
  | .gCsrs d n => Sys2Proof.Machine.execGCsrs d n s
  | .gCsrc d n => Sys2Proof.Machine.execGCsrc d n s
  | .gTrap a b => Sys2Proof.Machine.execGTrap a b s
  | .gRte => Sys2Proof.Machine.execGRte s
  | .gExit => Sys2Proof.Machine.execGExit s
  | .gEcall d a b => Sys2Proof.Machine.execGEcall d a b s
  | .gGtime d => Sys2Proof.Machine.execGGtime d s
  | .gTlbi d a b => Sys2Proof.Machine.execGTlbi d a b s
  | .gSendm a z n => Sys2Proof.Machine.execGSendm a z n s
  | .gRecvm d a z n => Sys2Proof.Machine.execGRecvm d a z n s
  | .gWfi d a => Sys2Proof.Machine.execGWfi d a s
  | .gSwapt d a => Sys2Proof.Machine.execGSwapt d a s
  | .gLset a f => Sys2Proof.Machine.execGLset a f s
  | .gLget d f => Sys2Proof.Machine.execGLget d f s
  | .gLcancel => Sys2Proof.Machine.execGLcancel s
  | .gLrepeat a => Sys2Proof.Machine.execGLrepeat a s
  | .gLgo => Sys2Proof.Machine.execGLgo s
  | .cClauseHeader w a b l => Sys2Proof.Machine.execCClauseHeader w a b l s
  | .cFma d a b c => Sys2Proof.Machine.execCFma d a b c s
  | .cFms d a b c => Sys2Proof.Machine.execCFms d a b c s
  | .cFnma d a b c => Sys2Proof.Machine.execCFnma d a b c s
  | .cImad d a b c => Sys2Proof.Machine.execCImad d a b c s
  | .cImadh d a b c => Sys2Proof.Machine.execCImadh d a b c s
  | .cSelv d a b p => Sys2Proof.Machine.execCSelv d a b p s
  | .cDp4a d a b c => Sys2Proof.Machine.execCDp4a d a b c s
  | .cShf d a b c => Sys2Proof.Machine.execCShf d a b c s
  | .cFadd d a b => Sys2Proof.Machine.execCFadd d a b s
  | .cFsub d a b => Sys2Proof.Machine.execCFsub d a b s
  | .cFmul d a b => Sys2Proof.Machine.execCFmul d a b s
  | .cFmin d a b => Sys2Proof.Machine.execCFmin d a b s
  | .cFmax d a b => Sys2Proof.Machine.execCFmax d a b s
  | .cFabs d a => Sys2Proof.Machine.execCFabs d a s
  | .cFneg d a => Sys2Proof.Machine.execCFneg d a s
  | .cFrcp d a => Sys2Proof.Machine.execCFrcp d a s
  | .cFrsq d a => Sys2Proof.Machine.execCFrsq d a s
  | .cFsqrt d a => Sys2Proof.Machine.execCFsqrt d a s
  | .cFex2 d a => Sys2Proof.Machine.execCFex2 d a s
  | .cFlg2 d a => Sys2Proof.Machine.execCFlg2 d a s
  | .cFcmpEq p a b => Sys2Proof.Machine.execCFcmpEq p a b s
  | .cFcmpNe p a b => Sys2Proof.Machine.execCFcmpNe p a b s
  | .cFcmpLt p a b => Sys2Proof.Machine.execCFcmpLt p a b s
  | .cFcmpLe p a b => Sys2Proof.Machine.execCFcmpLe p a b s
  | .cFcmpGt p a b => Sys2Proof.Machine.execCFcmpGt p a b s
  | .cFcmpGe p a b => Sys2Proof.Machine.execCFcmpGe p a b s
  | .cFcmpUn p a b => Sys2Proof.Machine.execCFcmpUn p a b s
  | .cFclass d a => Sys2Proof.Machine.execCFclass d a s
  | .cIadd d a b => Sys2Proof.Machine.execCIadd d a b s
  | .cIsub d a b => Sys2Proof.Machine.execCIsub d a b s
  | .cImul d a b => Sys2Proof.Machine.execCImul d a b s
  | .cImin d a b => Sys2Proof.Machine.execCImin d a b s
  | .cImax d a b => Sys2Proof.Machine.execCImax d a b s
  | .cIand d a b => Sys2Proof.Machine.execCIand d a b s
  | .cIor d a b => Sys2Proof.Machine.execCIor d a b s
  | .cIxor d a b => Sys2Proof.Machine.execCIxor d a b s
  | .cIandn d a b => Sys2Proof.Machine.execCIandn d a b s
  | .cIshl d a b => Sys2Proof.Machine.execCIshl d a b s
  | .cIshr d a b => Sys2Proof.Machine.execCIshr d a b s
  | .cIsra d a b => Sys2Proof.Machine.execCIsra d a b s
  | .cIabs d a => Sys2Proof.Machine.execCIabs d a s
  | .cIneg d a => Sys2Proof.Machine.execCIneg d a s
  | .cIpopc d a => Sys2Proof.Machine.execCIpopc d a s
  | .cIclz d a => Sys2Proof.Machine.execCIclz d a s
  | .cIbrev d a => Sys2Proof.Machine.execCIbrev d a s
  | .cIcmpEq p a b => Sys2Proof.Machine.execCIcmpEq p a b s
  | .cIcmpNe p a b => Sys2Proof.Machine.execCIcmpNe p a b s
  | .cIcmpLt p a b => Sys2Proof.Machine.execCIcmpLt p a b s
  | .cIcmpLe p a b => Sys2Proof.Machine.execCIcmpLe p a b s
  | .cIcmpGt p a b => Sys2Proof.Machine.execCIcmpGt p a b s
  | .cIcmpGe p a b => Sys2Proof.Machine.execCIcmpGe p a b s
  | .cIbfx d a b => Sys2Proof.Machine.execCIbfx d a b s
  | .cMov d a => Sys2Proof.Machine.execCMov d a s
  | .cCvt d a t => Sys2Proof.Machine.execCCvt d a t s
  | .cPack d a b => Sys2Proof.Machine.execCPack d a b s
  | .cUnpkl d a => Sys2Proof.Machine.execCUnpkl d a s
  | .cUnpkh d a => Sys2Proof.Machine.execCUnpkh d a s
  | .cLaneid d => Sys2Proof.Machine.execCLaneid d s
  | .cShfl d a b => Sys2Proof.Machine.execCShfl d a b s
  | .cShflup d a b => Sys2Proof.Machine.execCShflup d a b s
  | .cShfldn d a b => Sys2Proof.Machine.execCShfldn d a b s
  | .cShflx d a b => Sys2Proof.Machine.execCShflx d a b s
  | .cBcast d a => Sys2Proof.Machine.execCBcast d a s
  | .cBallot p a => Sys2Proof.Machine.execCBallot p a s
  | .cRedadd d a => Sys2Proof.Machine.execCRedadd d a s
  | .cRedmax d a => Sys2Proof.Machine.execCRedmax d a s
  | .cRedmin d a => Sys2Proof.Machine.execCRedmin d a s
  | .cPand d a b => Sys2Proof.Machine.execCPand d a b s
  | .cPor d a b => Sys2Proof.Machine.execCPor d a b s
  | .cPxor d a b => Sys2Proof.Machine.execCPxor d a b s
  | .cPnot d a => Sys2Proof.Machine.execCPnot d a s
  | .cPset d a => Sys2Proof.Machine.execCPset d a s
  | .cPget d p => Sys2Proof.Machine.execCPget d p s
  | .cIf p => Sys2Proof.Machine.execCIf p s
  | .cElse => Sys2Proof.Machine.execCElse s
  | .cEndif => Sys2Proof.Machine.execCEndif s
  | .cRepeat a => Sys2Proof.Machine.execCRepeat a s
  | .cBrkif p => Sys2Proof.Machine.execCBrkif p s
  | .cSetmode a => Sys2Proof.Machine.execCSetmode a s
  | .cSigchk => Sys2Proof.Machine.execCSigchk s
  | .cExitg => Sys2Proof.Machine.execCExitg s
  | .cNop => Sys2Proof.Machine.execCNop s
  | .cTrapg a => Sys2Proof.Machine.execCTrapg a s
  | .cLd d k n b o => Sys2Proof.Machine.execCLd d k n b o s
  | .cLd64 d n b o => Sys2Proof.Machine.execCLd64 d n b o s
  | .cSt d l k n b o => Sys2Proof.Machine.execCSt d l k n b o s
  | .cSt64 d l n b o => Sys2Proof.Machine.execCSt64 d l n b o s
  | .cAmo d p n b o => Sys2Proof.Machine.execCAmo d p n b o s
  | .cLdp d p n b o => Sys2Proof.Machine.execCLdp d p n b o s
  | .cGather d t n b o => Sys2Proof.Machine.execCGather d t n b o s
  | .cLds d a b => Sys2Proof.Machine.execCLds d a b s
  | .cLds64 d a b => Sys2Proof.Machine.execCLds64 d a b s
  | .cSts d a b => Sys2Proof.Machine.execCSts d a b s
  | .cSts64 d a b => Sys2Proof.Machine.execCSts64 d a b s
  | .cLdsf d a b => Sys2Proof.Machine.execCLdsf d a b s
  | .cLdsfk d a b => Sys2Proof.Machine.execCLdsfk d a b s
  | .cStse d a b => Sys2Proof.Machine.execCStse d a b s
  | .cStsf d a b => Sys2Proof.Machine.execCStsf d a b s
  | .cSptag d a b => Sys2Proof.Machine.execCSptag d a b s
  | .cXst d a b => Sys2Proof.Machine.execCXst d a b s
  | .cAmos d p a b => Sys2Proof.Machine.execCAmos d p a b s
  | .cPushg a b => Sys2Proof.Machine.execCPushg a b s
  | .cPushgNb p a b => Sys2Proof.Machine.execCPushgNb p a b s
  | .cVote d a o => Sys2Proof.Machine.execCVote d a o s
  | .cBararv b => Sys2Proof.Machine.execCBararv b s
  | .cBardrop b => Sys2Proof.Machine.execCBardrop b s
  | .cBarwait n b => Sys2Proof.Machine.execCBarwait n b s
  | .cBaraw b => Sys2Proof.Machine.execCBaraw b s
  | .cFence o => Sys2Proof.Machine.execCFence o s
  | .cMonw d n b => Sys2Proof.Machine.execCMonw d n b s
  | .cMwaitb a => Sys2Proof.Machine.execCMwaitb a s
  | .mMnop => Sys2Proof.Machine.execMMnop s
  | .mMma h a b k n r c => Sys2Proof.Machine.execMMma h a b k n r c s
  | .mMmag h a b g k n r c => Sys2Proof.Machine.execMMmag h a b g k n r c s
  | .mMzero h => Sys2Proof.Machine.execMMzero h s
  | .mMloada h a f => Sys2Proof.Machine.execMMloada h a f s
  | .mMout h a f r k t => Sys2Proof.Machine.execMMout h a f r k t s
  | .mMscale h o => Sys2Proof.Machine.execMMscale h o s
  | .mMrelease h => Sys2Proof.Machine.execMMrelease h s
  | .mMbatch b n => Sys2Proof.Machine.execMMbatch b n s
  | .eIllegalGWord w => Sys2Proof.Machine.execEIllegalGWord w s
  | .eIllegalCWord w => Sys2Proof.Machine.execEIllegalCWord w s
  | .eIllegalMWord w => Sys2Proof.Machine.execEIllegalMWord w s
  | .pNopPacket => Sys2Proof.Machine.execPNopPacket s
  | .pLaunch => Sys2Proof.Machine.execPLaunch s
  | .pLaunchi => Sys2Proof.Machine.execPLaunchi s
  | .pCopyPacket => Sys2Proof.Machine.execPCopyPacket s
  | .pCallib => Sys2Proof.Machine.execPCallib s
  | .pPred => Sys2Proof.Machine.execPPred s
  | .pLoop => Sys2Proof.Machine.execPLoop s
  | .pEndloop => Sys2Proof.Machine.execPEndloop s
  | .pSignalWrite => Sys2Proof.Machine.execPSignalWrite s
  | .pSignalAdd => Sys2Proof.Machine.execPSignalAdd s
  | .pWaitmem => Sys2Proof.Machine.execPWaitmem s
  | .pFetchfence => Sys2Proof.Machine.execPFetchfence s
  | .pDrain => Sys2Proof.Machine.execPDrain s
  | .pSetprio => Sys2Proof.Machine.execPSetprio s
  | .pTimestamp => Sys2Proof.Machine.execPTimestamp s
  | .eColdReset => Sys2Proof.Machine.execEColdReset s
  | .eBootStageVerify => Sys2Proof.Machine.execEBootStageVerify s
  | .eModuleRelease => Sys2Proof.Machine.execEModuleRelease s
  | .eStrike => Sys2Proof.Machine.execEStrike s
  | .eSliceStrike => Sys2Proof.Machine.execESliceStrike s
  | .eDieFailure => Sys2Proof.Machine.execEDieFailure s
  | .eKick => Sys2Proof.Machine.execEKick s
  | .eQstopq => Sys2Proof.Machine.execEQstopq s
  | .eFqrel => Sys2Proof.Machine.execEFqrel s
  | .eSnaptrig => Sys2Proof.Machine.execESnaptrig s
  | .eSnapshotLatch => Sys2Proof.Machine.execESnapshotLatch s
  | .eAttestationReport => Sys2Proof.Machine.execEAttestationReport s
  | .eReadLifetimeCounters => Sys2Proof.Machine.execEReadLifetimeCounters s
  | .eSnapshotTriggerCommand => Sys2Proof.Machine.execESnapshotTriggerCommand s
  | .eRegisterWrite => Sys2Proof.Machine.execERegisterWrite s
  | .eLifetimeCounterUpdate => Sys2Proof.Machine.execELifetimeCounterUpdate s
  | .eDramScrub => Sys2Proof.Machine.execEDramScrub s
  | .eHoldBackLeave => Sys2Proof.Machine.execEHoldBackLeave s
  | .eEgressQuarantineLeave => Sys2Proof.Machine.execEEgressQuarantineLeave s
  | .eInboundPostedWrite => Sys2Proof.Machine.execEInboundPostedWrite s
  | .eInboundRead => Sys2Proof.Machine.execEInboundRead s
  | .eInboundWriteAck => Sys2Proof.Machine.execEInboundWriteAck s
  | .eInboundHoldTimeout => Sys2Proof.Machine.execEInboundHoldTimeout s
  | .eHostAtsInvalidation => Sys2Proof.Machine.execEHostAtsInvalidation s
  | .ePriResponse => Sys2Proof.Machine.execEPriResponse s
  | .eHoluskDataFlit => Sys2Proof.Machine.execEHoluskDataFlit s
  | .eHoluskAck => Sys2Proof.Machine.execEHoluskAck s
  | .eHoluskReplayTimeout => Sys2Proof.Machine.execEHoluskReplayTimeout s
  | .eAudit => Sys2Proof.Machine.execEAudit s
  | .eResync => Sys2Proof.Machine.execEResync s
  | .eLinkPowerDown => Sys2Proof.Machine.execELinkPowerDown s
  | .eLinkWake => Sys2Proof.Machine.execELinkWake s
  | .eWatchdogExpiry => Sys2Proof.Machine.execEWatchdogExpiry s
  | .eTswapExpiry => Sys2Proof.Machine.execETswapExpiry s
  | .eTmaxExpiry => Sys2Proof.Machine.execETmaxExpiry s
  | .eSwapOut => Sys2Proof.Machine.execESwapOut s
  | .eSwapIn => Sys2Proof.Machine.execESwapIn s
  | .eTeamAdmission => Sys2Proof.Machine.execETeamAdmission s
  | .eGangAdmission => Sys2Proof.Machine.execEGangAdmission s
  | .eGangWaitExpiry => Sys2Proof.Machine.execEGangWaitExpiry s
  | .eTeamRetirement => Sys2Proof.Machine.execETeamRetirement s
  | .eLaneBind => Sys2Proof.Machine.execELaneBind s
  | .eLaneWaitTimeout => Sys2Proof.Machine.execELaneWaitTimeout s
  | .eLanePacketQuota => Sys2Proof.Machine.execELanePacketQuota s
  | .eLanePassedOver => Sys2Proof.Machine.execELanePassedOver s
  | .ePacketFetch => Sys2Proof.Machine.execEPacketFetch s
  | .eLaneWaitEnd => Sys2Proof.Machine.execELaneWaitEnd s
  | .eWaitmemReread => Sys2Proof.Machine.execEWaitmemReread s
  | .eLaunchDispatch => Sys2Proof.Machine.execELaunchDispatch s
  | .ePrologueStart => Sys2Proof.Machine.execEPrologueStart s
  | .eTeamDistribution => Sys2Proof.Machine.execETeamDistribution s
  | .ePrologueRepeat => Sys2Proof.Machine.execEPrologueRepeat s
  | .eCompletionSignal => Sys2Proof.Machine.execECompletionSignal s
  | .eTombacSequence => Sys2Proof.Machine.execETombacSequence s
  | .eFaultRecordWrite => Sys2Proof.Machine.execEFaultRecordWrite s
  | .ePermitBackoffRetry => Sys2Proof.Machine.execEPermitBackoffRetry s
  | .eTrapDelivery => Sys2Proof.Machine.execETrapDelivery s
  | .eRegionCommit => Sys2Proof.Machine.execERegionCommit s
  | .eGsetbApply => Sys2Proof.Machine.execEGsetbApply s
  | .eCMemoryComplete => Sys2Proof.Machine.execECMemoryComplete s
  | .eCopyOperationEnd => Sys2Proof.Machine.execECopyOperationEnd s
  | .eMonitorWake => Sys2Proof.Machine.execEMonitorWake s
  | .eMonwRetry => Sys2Proof.Machine.execEMonwRetry s
  | .eLeaseVoid => Sys2Proof.Machine.execELeaseVoid s
  | .eClockResume => Sys2Proof.Machine.execEClockResume s
  | .eGroupOverdue => Sys2Proof.Machine.execEGroupOverdue s
  | .eGangExitNotice => Sys2Proof.Machine.execEGangExitNotice s
  | .eGangBarrierArrival => Sys2Proof.Machine.execEGangBarrierArrival s
  | .eMdsetApply => Sys2Proof.Machine.execEMdsetApply s
  | .eMwaitaDeadline => Sys2Proof.Machine.execEMwaitaDeadline s
  | .eWfiDeadline => Sys2Proof.Machine.execEWfiDeadline s
  | .eIssueGating => Sys2Proof.Machine.execEIssueGating s
  | .eClockStop => Sys2Proof.Machine.execEClockStop s
  | .eLeaseExpiry => Sys2Proof.Machine.execELeaseExpiry s
  | .eYieldTimeout => Sys2Proof.Machine.execEYieldTimeout s

end Sys2Proof.Machine
end

