-- ==== Sys2Proof/Machine/Turns.lean ====
section
/-! DEFINITION. Machine/Turns.lean: what an agent does with its turn: the generator's fetch and issue, the choice of a
group by an issue slot, the matrix unit, the lanes of a Pewter, and the passing of a fabric clock (R17, R22, R31, R32, R64,
R65, R135, R177, R281, R312, R320, R321, R350, R401, R414). -/

namespace Sys2Proof.Machine

/-- Goes on from a next state. -/
def onNext (o : Out) (f : State → State) : Out :=
  match o with
  | .next t => .next (f t)
  | .fault r => .fault r
  | .refused r => .refused r

/-- A core takes turns: the module is released, the core is there, and its clock runs (R50, R402). -/
def State.coreRuns (s : State) (c : Nat) : Bool := s.released && !s.absent c && !(s.core c).clockStopped

/-- A core clock of a run of eight that gating by g eighths leaves open (R414). -/
def openClock (g k : Nat) : Bool := (k % 8 + 1) * g / 8 == k % 8 * g / 8

/-- The present core clock of a core is not withheld by gating. -/
def State.ungatedNow (s : State) (c : Nat) : Bool := openClock (s.die (coreDie c)).throt.toNat (s.clk / 2)

/-- An agent of a team that has been released from a park reissues before those released after it (R177). -/
def Team.inTurn (t : Team) (a : Agent) : Bool := !t.replay.contains a || t.replay.head? == some a

/-! ## Generator contexts (R17, R22, R31, R32, R111, R321, R350) -/

/-- The fetch of the word at a context's pc: the word, or the state in which the fetch has faulted or parked (R31, R248). -/
def State.fetchG (s : State) (id : Nat) : State × Option W32 :=
  let va := (s.ctx id).va
  match s.translateCtx id va .fetch with
  | (s1, .ok e z) =>
    let pl := readPlace (ctxDie id) (placesOf (s1.die 0).devnum.toNat e z va)
    if s1.engineOwns [pl] then (s1, none) else
    if s1.hostWaits [pl] then (s1.askHost [pl], none) else
    let s2 := if isTeamCtx id then s1.touch (teamCore id) (s.team id).lid pl va else s1
    match s2.ctxRead id pl 4 (pteKind e) with
    | (s3, some b) => (s3, some (BitVec.ofNat 32 (leNat b)))
    | (s3, none) => (s3.raiseG id { code := 0xD, t3 := va, t4 := fetchCode } 0, none)
  | (s1, .perm e) | (s1, .gone e) => (s1.raiseG id { code := 0xB, t3 := va, t4 := fetchCode, t5 := e } 0, none)
  | (s1, .poison) => (s1.raiseG id { code := 0xD, t3 := va, t4 := fetchCode } 0, none)
  | (s1, .park pi b z) => (s1.parkG id 0 va fetchCode pi b z, none)

/-- The instruction of a G-word. -/
def gInstr (w : W32) : Instr := (decodeG w).getD (.eIllegalGWord w)
/-- The instruction of a C-word. -/
def cInstr (w : W32) : Instr := (decodeC w).getD (.eIllegalCWord w)
/-- The instruction of an M-word. -/
def mInstr (w : W32) : Instr := (decodeM w).getD (.eIllegalMWord w)

/-- A YIELD has been outwaited (R350): every other context of the core that is ready has issued, or 8 fabric clocks have
passed. A context of no core has no other beside it. -/
def State.yieldOver (s : State) (id : Nat) : Bool :=
  !isTeamCtx id || (s.yieldFree id && (decide ((s.ctx id).yieldEnd ≤ s.clk) ||
    [0, 1, 2, 3].all (fun k =>
      let o := teamCore id * 4 + k
      o == id || !s.hasTeam o || (s.ctx o).wait != .ready || (s.ctx id).yieldSeen.contains o)))

/-- A context may try its word: level two, the watchdog, a park, a YIELD or an unfinished rollback do not hold it (R32). -/
def State.mayRun (s : State) (id : Nat) : Bool :=
  match (s.ctx id).wait with
  | .held | .reply | .watchdog | .parked | .barrier _ _ _ | .gangRegion _ _ => false
  | .rolling => (s.ctx id).tok == 0
  | .drain scope upTo => s.relDoneG id scope upTo
  | .yield => s.yieldOver id
  | _ => !isTeamCtx id || (s.team id).inTurn .gen

/-- A context of a core has issued a G-word: it is counted, the port is taken for this fabric clock, the round-robin goes
on from it, and the YIELDs of the core have seen it. -/
def State.issuedG (s : State) (id : Nat) : State :=
  let c := teamCore id
  let seen (a : State) (k : Nat) : State :=
    let o := c * 4 + k
    if (s.ctx o).wait = .yield ∧ o ≠ id then a.updCtx o (fun x => { x with yieldSeen := natAdd x.yieldSeen id }) else a
  let s1 := ([0, 1, 2, 3].foldl seen s).updCore c (fun k => { k with genFree := s.clk + 1, lastGen := id % 4 })
  (s1.count c 14).replayed id .gen

/-- What follows a turn of a context: an issue, or a stall on a full queue, is counted (R401); a word that has parked or
faulted has made its access (R177). -/
def State.afterG (c0 : Ctx) (id : Nat) (t : State) : State :=
  if !isTeamCtx id then t
  else if !t.hasTeam id || (t.ctx id).issues != c0.issues then t.issuedG id
  else
    match c0.wait, (t.ctx id).wait with
    | _, .parked | _, .held => t.replayed id .gen
    | .queue _, _ => t
    | _, .queue _ => t.count (teamCore id) 15
    | _, _ => t

/-- A context fetches and executes the word at its pc. -/
def State.runG (s : State) (id : Nat) : Out :=
  match s.fetchG id with
  | (t, none) => .next (t.afterG (s.ctx id) id)
  | (t, some w) => onNext (exec (gInstr w) { t with cur := .gen id w }) (State.afterG (s.ctx id) id)

/-- The contexts of a core, round-robin after the last to issue (R321). -/
def State.genOrder (s : State) (c : Nat) : List Nat :=
  (List.range 4).map (fun i => c * 4 + ((s.core c).lastGen + 1 + i) % 4)

/-- A context of a core has issued, or its team is gone. -/
def State.genWent (s : State) (id n : Nat) : Bool := !s.hasTeam id || (s.ctx id).issues != n

/-- The first of some contexts whose word issues takes the port; one that stalls, parks or faults gives it to the next. -/
def State.genFrom (s : State) (l : List Nat) : Out :=
  match l with
  | [] => .next s
  | id :: r =>
    if s.hasTeam id && s.mayRun id then
      match s.runG id with
      | .next t => if t.genWent id (s.ctx id).issues then .next t else t.genFrom r
      | o => o
    else s.genFrom r

/-- The turn of a core's generator issue port (R321). -/
def State.genTurn (s : State) (c : Nat) : Out :=
  if s.coreRuns c && decide ((s.core c).genFree ≤ s.clk) then s.genFrom (s.genOrder c) else .next s

/-- The turn of a supervisor context, or of a prologue's. -/
def State.soloTurn (s : State) (id : Nat) : Out :=
  let there := (isSup id && !(s.die (ctxDie id)).hole) || (isPro id && (s.die (ctxDie id)).prologue.isSome)
  if s.released && there && s.mayRun id then s.runG id else .next s

/-! ## Groups (R64, R65, R135, R320, R321) -/

/-- Core clocks that a word holds its slot (R135). -/
def slotClocks (i : Instr) : Nat :=
  match i with
  | .cFrcp _ _ | .cFrsq _ _ | .cFsqrt _ _ | .cFex2 _ _ | .cFlg2 _ _ => 4
  | .cRedadd _ _ | .cRedmax _ _ | .cRedmin _ _ => 2
  | _ => 1

/-- FMA element operations of a word (R401): one for each active lane and element of FMA, FMS and FNMA. -/
def fmaOps (i : Instr) (g : Group) : Nat :=
  match i with
  | .cFma _ _ _ _ | .cFms _ _ _ _ | .cFnma _ _ _ _ => (lanesOf g.lanes).length * (32 / typeW (modeType g.mode))
  | _ => 0

/-- Every GSETB entry that stands at a group's head at a boundary is applied (R64, R65). -/
def Group.applyGsetbs (n : Nat) (g : Group) (clk : Nat) : Group :=
  match n with
  | 0 => g
  | k + 1 => (g.applyGsetb clk).applyGsetbs k clk

/-- The entry that a group would issue next, once it has arrived. -/
def Group.turnEntry (g : Group) (clk : Nat) : Option QEntry :=
  match g.clause with
  | some c => c.words[c.pos]?
  | none =>
    match g.head with
    | some e => if e.arrived clk then some e else none
    | none => none

/-- A group may try its word: nothing but what its word itself waits for keeps it (R320). -/
def State.groupMay (s : State) (gid : Nat) : Bool :=
  let g := s.grp gid
  s.hasTeam (groupTeam gid) && g.armed && decide (g.slotEnd ≤ s.clk) &&
    (s.team (groupTeam gid)).inTurn (.grp (gid % 16)) &&
    (match g.wait with
     | .ready | .kqueue | .returnQueue | .batch _ | .irrevocable _ | .tag _ _ | .flag | .holdBack | .room | .owned
     | .lease _ _ | .clause | .page => true
     | _ => false)

/-- A group's word has gone on: it has issued, or holds or parks the group. -/
def State.wentOn (s : State) (gid n : Nat) : Bool :=
  let g := s.grp gid
  !s.hasTeam (groupTeam gid) || g.issues != n || g.wait == .held || g.wait == .parked

/-- A group's word has issued in a slot of its core: the slot and the group are taken for its clocks (R135, R401). -/
def State.issuedC (s : State) (gid slot : Nat) (i : Instr) (g0 : Group) : State :=
  let c := gid / 64
  let till := (s.clk / 2 + slotClocks i) * 2
  let s1 := s.updCore c (fun k => if slot = 0 then { k with slot0 := till } else { k with slot1 := till })
  let s2 := if s.hasTeam (groupTeam gid) then s1.updGrp gid (fun g => { g with slotEnd := till }) else s1
  let s3 := (s2.count c 1).countN c 4 (fmaOps i g0)
  (if g0.overdue then s3.count c 3 else s3).replayed (groupTeam gid) (.grp (gid % 16))

/-- What follows a C-word's execution. DESIGN CHOICE (assumption 99): a word that raises a fault takes no clock of its issue
slot (R135). -/
def State.afterC (g0 : Group) (gid slot : Nat) (i : Instr) (t : State) : State :=
  if !t.hasTeam (groupTeam gid) || (t.grp gid).issues != g0.issues then t.issuedC gid slot i g0
  else if (t.grp gid).wait == .held || (t.grp gid).wait == .parked then t.replayed (groupTeam gid) (.grp (gid % 16))
  else if g0.wait != .holdBack && (t.grp gid).wait == .holdBack then t.count (gid / 64) 7
  else t

/-- A group executes an entry of its queue. -/
def State.runC (s : State) (gid slot : Nat) (e : QEntry) : Out :=
  onNext (exec (cInstr e.word) { s with cur := .grp gid e slot }) (State.afterC (s.grp gid) gid slot (cInstr e.word))

/-- Whether a word went on, by the outcome of its turn. -/
def outWentOn (o : Out) (gid n : Nat) : Bool :=
  match o with
  | .next t => t.wentOn gid n
  | _ => true

/-- The clause at a group's head: its header is consumed if its first body word goes on, which then takes the next turn;
else the header stands, and the group keeps what that word waits for (R65, R320). -/
def State.runHeader (s : State) (gid slot : Nat) (e : QEntry) : Out × Bool :=
  let g := s.grp gid
  match exec (cInstr e.word) { s with cur := .grp gid e slot } with
  | .next t =>
    match ((t.grp gid).clause.bind (fun c => c.words[0]?)) with
    | none => (.next t, t.wentOn gid g.issues)
    | some b =>
      let o := t.runC gid slot b
      if outWentOn o gid g.issues then (.next { t with turns := .body gid slot :: t.turns }, true)
      else (onNext o (fun u =>
        u.updGrp gid (fun k => { g with wait := k.wait, monitor := k.monitor, pend := k.pend })), false)
  | o => (o, true)

/-- A group tries its next word; the flag says whether it went on. DESIGN CHOICE (assumption 99): a word that a skip consumes
takes no clock of the slot (R135). A marker above depth 0 raises C_REGION_NEST (R47). -/
def State.tryGroup (s0 : State) (gid slot : Nat) : Out × Bool :=
  let s := s0.updGrp gid (fun g => g.applyGsetbs 64 s0.clk)
  let g := s.grp gid
  if g.skip then
    let t := s.skipWord gid
    (.next t, t.wentOn gid g.issues)
  else
    match g.turnEntry s.clk with
    | none => (.next s, false)
    | some e =>
      match e.kind with
      | .word =>
        if g.clause.isNone && e.isHeader && (decodeC e.word).isSome then s.runHeader gid slot e
        else
          let o := s.runC gid slot e
          (o, outWentOn o gid g.issues)
      | .marker =>
        if g.stack.isEmpty then (.next s, false)
        else (.next (s.raiseC gid { code := 0x109, lanes := g.active, t4 := w64 g.stack.length
                                    t5 := g.wordEsn.zeroExtend 64 } e), true)
      | _ => (.next s, false)

/-- The place of a group in the choice of R321: overdue ones first, longest ready, then by age, which at a boundary
is the arrival of the clause's header behind the GSETBs that are applied first (R65, R320); then team slot and index. -/
def State.issueKey (s : State) (gid : Nat) : List Nat :=
  let g := s.grp gid
  let age := match g.clause with
    | some c => c.headerClk / 2
    | none => match (g.applyGsetbs 64 s.clk).head with | some e => e.at_ / 2 | none => 0
  [bitN (!g.overdue), if g.overdue then 2 ^ 64 - g.readyFor else age, gid]

/-- The first group in the order of R321 whose word goes on takes the slot. -/
def State.issueFrom (s : State) (slot : Nat) (l : List Nat) (n : Nat) : Out :=
  match n with
  | 0 => .next s
  | k + 1 =>
    match leastBy s.issueKey l with
    | none => .next s
    | some gid =>
      match s.tryGroup gid slot with
      | (.next t, false) => t.issueFrom slot (l.erase gid) k
      | (o, _) => o

/-- The groups of a core that may try their words. -/
def State.tryers (s : State) (c : Nat) : List Nat :=
  (([0, 1, 2, 3].map (fun k => c * 4 + k)).flatMap (fun tid =>
    (List.range (s.team tid).groups).map (groupId tid))).filter s.groupMay

/-- FENCEs of a core's groups that have completed (R269). -/
def State.endFences (s : State) (c : Nat) : State :=
  (s.groups.filter (fun e => e.1 / 64 == c)).foldl (fun a e => a.endFence e.1) s

/-- The turn of an issue slot of a core (R135, R321, R414). -/
def State.issueTurn (s0 : State) (c slot : Nat) : Out :=
  let s := s0.endFences c
  let till := if slot = 0 then (s.core c).slot0 else (s.core c).slot1
  if s.coreRuns c && s.ungatedNow c && decide (till ≤ s.clk) && decide (slot < 2) then
    let l := s.tryers c
    s.issueFrom slot l l.length
  else .next s

/-- The turn of the first body word of the clause whose header has just issued (R65). -/
def State.bodyTurn (s : State) (gid slot : Nat) : Out :=
  match (s.grp gid).clause.bind (fun c => c.words[c.pos]?) with
  | some e => if s.hasTeam (groupTeam gid) then s.runC gid slot e else .next s
  | none => .next s

/-! ## Retirement before EMIT (R341) -/

/-- A slot's turn as far as its first body word. -/
def State.slotAhead (s : State) (c slot : Nat) : State :=
  match s.issueTurn c slot with
  | .next t =>
    match t.turns with
    | .body g k :: r =>
      (match (if r.length = s.turns.length then ({ t with turns := r } : State).bodyTurn g k else .next t) with
       | .next u => u
       | _ => t)
    | _ => t
  | _ => s

/-- The group of a core that is armed before and not after. -/
def State.gone (s t : State) (c : Nat) : Option Nat :=
  ((List.range 64).map (fun k => c * 64 + k)).find? (fun g =>
    (s.grp g).armed && s.hasTeam (groupTeam g) && t.hasTeam (groupTeam g) && !(t.grp g).armed)

/-- The groups of a core that retire in the core clock that begins, as their slots stand, retire before the G-words of the
clock are executed (R341; assumption 90). -/
def State.exitsTurn (s0 : State) (c : Nat) : Out :=
  let s := s0.endFences c
  let t := s.slotAhead c 0
  let u := t.slotAhead c 1
  let go (a : State) (g : Option Nat) (slot : Nat) : State :=
    match g with
    | some gid => (match a.tryGroup gid slot with | (.next b, _) => b | _ => a)
    | none => a
  .next (go (go s (s.gone t c) 0) (t.gone u c) 1)

/-! ## The matrix unit (R280 to R282, R301) -/

/-- Descriptor entries at the head of a matrix queue are consumed. -/
def Team.applyDescs (n : Nat) (t : Team) : Team :=
  match n with
  | 0 => t
  | k + 1 => if t.mHeld.isNone then t.applyDesc.applyDescs k else t

/-- Descriptor entries at the heads of a core's matrix queues are consumed (R282). DESIGN CHOICE (assumption 116): at each turn of
the matrix unit, for every team of the core, also while a word occupies the unit. -/
def State.applyDescs (s : State) (c : Nat) : State :=
  [0, 1, 2, 3].foldl (fun a k =>
    if a.hasTeam (c * 4 + k) then a.updTeam (c * 4 + k) (fun t => t.applyDescs 64) else a) s

/-- The turn of a core's matrix unit: a clock of the word under way, or the start of the next; where no other team is ready
at a switch point, the unit stays with its own (R281, R301, R414). -/
def State.matrixTurn (s0 : State) (c : Nat) : Out :=
  let s := s0.applyDescs c
  if !(s.coreRuns c && s.ungatedNow c) then .next s
  else if !(s.core c).matJob.isEmpty then .next (s.matClock c)
  else
    match s.mChoose c with
    | none => .next (s.updCore c (fun k => { k with matSwitch := false }))
    | some tid =>
      match (s.team tid).mLive.head? with
      | none => .next s
      | some e =>
        let s1 := s.updCore c (fun k => { k with served := tid % 4, matSwitch := false, matWord := some e.word })
        exec (mInstr e.word) { s1 with cur := .mat tid e }

/-! ## Pewter (R312, R325) -/

/-- A lane of the step under way executes its head packet. -/
def State.runLane (s : State) (i l : Nat) : Out :=
  let f := s.window i l
  let done (t : State) : State := (t.updPewter i (fun p => { p with mask := natDel p.mask l })).stopWaiting i l
  match f.head? with
  | none => .next (done s)
  | some h =>
    if h.2 ≠ 0 then .next (done (s.packetError i l h.2))
    else
      match packetInstr h.1 with
      | none => .next (done (s.packetError i l 0x10))
      | some ins => onNext (exec ins { s.countPewter i 1 1 with cur := .lane i l (packetOf f) }) done

/-- The turn of a Pewter: a step begins, or the next of its lanes executes. -/
def State.pewterTurn (s : State) (i : Nat) : Out :=
  if s.released && !(s.die (8 + i)).hole && decide (i < 2) then
    match (s.pewter i).mask with
    | [] => .next (s.beginStep i)
    | l :: _ => s.runLane i l
  else .next s

/-! ## Time (R6, R22, R125, R178, R266, R267, R311, R321, R391, R401, R405, R407, R413) -/

/-- Time at which a condition has held without a break. -/
def since (b : Bool) (old : Option Nat) (now : Nat) : Option Nat := if b then old.or (some now) else none

/-- A group is ready (R320). -/
def State.groupReady (s : State) (gid : Nat) : Bool := s.groupMay gid && (s.tryGroup gid 0).2

/-- Lines whose slices hold a store back: it is old enough to leave its core's hold-back and may not (R217, R401; assumption
36). -/
def State.blockedSlices (s : State) : List Nat :=
  if s.dies.all (fun e => e.2.spms.isEmpty) then []
  else
    s.cores.filterMap (fun e => match e.2.hold with
      | h :: _ =>
        let l := h.lines.headD 0
        if h.xst.isEmpty && decide (h.issued + 192 ≤ s.clk) && isHbm l && !s.mayLeave e.1 then some l else none
      | [] => none)

/-- The counts that pass with time: core clocks and idle slots, fabric clocks and back-pressure of slices, fabric clocks of
Pewters (R401). -/
def State.countClocks (s : State) : State :=
  let core (a : State) (e : Nat × Core) : State :=
    if e.2.pms.isEmpty ∨ e.2.clockStopped then a
    else (a.count e.1 0).countN e.1 2 (bitN (decide (e.2.slot0 + 2 ≤ s.clk)) + bitN (decide (e.2.slot1 + 2 ≤ s.clk)))
  let slice (a : State) (e : Nat × Die) : State :=
    ((e.2.spms.map (fun x => x.1 / 8)).eraseDups).foldl (fun b n => b.countSlice e.1 n 0 1) a
  let s1 := if s.clk % 2 = 0 then s.cores.foldl core s else s
  let s2 := s.dies.foldl slice (s1.blockedSlices.foldl (fun a l => a.countSlice (homeDie (l * 128)) (sliceOf l) 7 1) s1)
  [0, 1].foldl (fun a i => a.countPewter i 0 1) s2

/-- The readiness of a group at a core-clock edge (R321): a gated clock does not count. -/
def Group.countReady (g : Group) (ready gated : Bool) : Group :=
  { g with readyFor := if ready then g.readyFor + bitN (!gated) else 0, overdue := g.overdue && ready }

/-- A core-clock edge: barriers flip, the groups' readiness is counted, and what the next words see is sampled (R125, R321,
R391). -/
def State.coreEdge (s0 : State) : State :=
  let s := s0.teams.foldl (fun a e => a.settleBars e.1) s0
  let s1 : State := { s with
    groups := kvMap (fun gid g => g.countReady (s.groupReady gid) (!s.ungatedNow (gid / 64))) s.groups }
  s1.teams.foldl (fun a e => a.takeEdge e.1) s1

/-- Notices of retired peers that have been 64 fabric clocks on their way (R267). -/
def State.dueNotices (s : State) : List Turn :=
  s.gangs.flatMap (fun e =>
    (e.2.retired.filter (fun r => decide (r.2 + 64 ≤ s.clk))).flatMap (fun r =>
      ((List.range e.2.tids.length).filter (fun i => !e.2.known.contains (i, r.1))).map (fun i =>
        .event .eGangExitNotice { a := e.1, b := i, c := r.1 })))

/-- Inbound requests that have been held for 10 µs (R407). -/
def State.dueTimeouts (s : State) : List Turn :=
  [0, 1].flatMap (fun i => ((s.iod i).inbound.filter (fun r => match r.held with
    | some t => decide (t + 16000 ≤ s.clk)
    | none => false)).map (fun r => .event .eInboundHoldTimeout { a := i, b := r.serial }))

/-- Links whose wake is over and that hold flits (R413). -/
def State.dueWakes (s : State) : List Turn :=
  (s.links.filter (fun e => !e.2.held.isEmpty && e.2.up s.clk)).map (fun e => .event .eLinkWake { a := e.1 })

/-- Ports that replay, audit or resynchronise, and links that power down (R411 to R413). -/
def State.dueLinks (s : State) : List Turn :=
  let port (e : Nat × Port) : List Turn :=
    (if e.2.stuck s.clk then [Turn.event .eHoluskReplayTimeout { a := e.1 }] else []) ++
      (if e.2.auditDue then [Turn.event .eAudit { a := e.1 }] else []) ++
      (if e.2.resyncDue then [Turn.event .eResync { a := e.1 }] else [])
  s.ports.flatMap port ++ ((List.range 34).filter (fun n => (s.link n).idle s.clk)).map (fun n =>
    .event .eLinkPowerDown { a := n })

/-- Gangs whose wait of 64 µs is over, lanes that are to be unbound, a scrubber's next sector, and the second's update of the
lifetime counters, whose bands are free (R207, R311, R319, R404). -/
def State.dueUnits (s : State) : List Turn :=
  let gangs := (s.gangs.filter (fun e => e.2.waiting && !e.2.expired && decide (e.2.since + 102400 ≤ s.clk))).map (fun e =>
    Turn.event .eGangWaitExpiry { a := e.1 })
  let lane (i : Nat) (e : Nat × Lane) : List Turn :=
    if s.waitsLong i e.1 then [.event .eLaneWaitTimeout { a := i, b := e.1 }]
    else if s.parsedMany i e.1 then [.event .eLanePacketQuota { a := i, b := e.1 }] else []
  let life := if s.lifeDue then
    [Turn.event .eLifetimeCounterUpdate { a := fieldOf s.free 0 3, b := fieldOf s.free 3 3, c := fieldOf s.free 6 3 }] else []
  gangs ++ [0, 1].flatMap (fun i => (s.pewter i).lanes.flatMap (lane i)) ++ life ++
    ((List.range 10).filter s.scrubDue).map (fun d => .event .eDramScrub { a := d })

/-- Regions that commit in the clock in which their conditions hold (R184). -/
def State.dueCommits (s : State) : List Turn :=
  (s.teams.filter (fun e => s.mayCommit e.1)).map (fun e => .event .eRegionCommit { a := e.1 })

/-- Contexts of no core: the supervisors of the dies that stand, and the prologues (R22, R354). -/
def State.soloIds (s : State) : List Nat :=
  ((List.range 10).filter (fun d => !(s.die d).hole)).flatMap (fun d => [0, 1, 2, 3].map (fun k => 4096 + d * 4 + k)) ++
    (s.ctxs.filter (fun e => isPro e.1)).map (fun e => e.1)

/-- The turns of a core in the fabric clock that begins: the generator in each, then in the second of a core clock the issue
slots and the matrix unit (R22, R266, R321). -/
def coreTurns (second : Bool) (c : Nat) : List Turn :=
  if second then [.gen c, .issue c 0, .issue c 1, .matrix c] else [.exits c, .gen c]

/-- The turns that fall due in the fabric clock that begins, in their order (R22, R52, R266, R321, R341): a snapshot's latch
stands before every write of its tick. -/
def State.dueTurns (s : State) : List Turn :=
  let second := s.clk % 2 == 1
  let latch : List Turn := match s.snapTick with
    | some (t, _) => if t ≤ s.now then [.event .eSnapshotLatch {}] else []
    | none => []
  let solos := if s.clk % 4 = 0 then s.soloIds.map Turn.solo else []
  let late := if second then [] else
    (s.groups.filter (fun e => decide (224 < e.2.readyFor) && !e.2.overdue)).map (fun e =>
      Turn.event .eGroupOverdue { a := e.1 })
  latch ++ s.dueNotices ++ s.dueTimeouts ++ s.dueWakes ++ s.dueLinks ++ s.dueUnits ++ s.dueCommits ++ solos ++ late ++
    ((s.teams.map (fun e => teamCore e.1)).eraseDups).flatMap (coreTurns second)

/-- One fabric clock passes, and what is due in the next stands at the front. -/
def State.tick (s0 : State) : State :=
  if !s0.released then s0
  else
    let s : State := { s0 with clk := s0.clk + 1 }
    let s1 : State := { s with
      teams := kvMap (fun tid t => { t with blockedSince := since (s.parkBlocked tid) t.blockedSince s.clk }) s.teams
      pewters := kvMap (fun i p => { p with
        lanes := kvMap (fun l k => if s.laneReady i l then { k with waitSince := s.clk } else k) p.lanes }) s.pewters }
    let s2 := (if s.clk % 2 = 0 then s1.coreEdge else s1).countClocks
    let s3 := s2.sendAll
    { s3 with turns := s3.dueTurns ++ s0.turns }

/-! ## Events -/

/-- The rows of the opcode table that are steps of the device or of the outside, with their arguments. -/
def isEvent (i : Instr) : Bool :=
  match i with
  | .eColdReset | .eBootStageVerify | .eModuleRelease | .eStrike | .eSliceStrike | .eDieFailure | .eKick | .eQstopq
  | .eFqrel | .eSnaptrig | .eSnapshotLatch | .eAttestationReport | .eReadLifetimeCounters | .eSnapshotTriggerCommand
  | .eRegisterWrite | .eLifetimeCounterUpdate | .eDramScrub | .eHoldBackLeave | .eEgressQuarantineLeave
  | .eInboundPostedWrite | .eInboundRead | .eInboundWriteAck | .eInboundHoldTimeout | .eHostAtsInvalidation
  | .ePriResponse | .eHoluskDataFlit | .eHoluskAck | .eHoluskReplayTimeout | .eAudit | .eResync | .eLinkPowerDown
  | .eLinkWake | .eWatchdogExpiry | .eTswapExpiry | .eTmaxExpiry | .eSwapOut | .eSwapIn | .eTeamAdmission
  | .eGangAdmission | .eGangWaitExpiry | .eTeamRetirement | .eLaneBind | .eLaneWaitTimeout | .eLanePacketQuota
  | .eLanePassedOver | .ePacketFetch | .eLaneWaitEnd | .eWaitmemReread | .eLaunchDispatch | .ePrologueStart
  | .eTeamDistribution | .ePrologueRepeat | .eCompletionSignal | .eTombacSequence | .eFaultRecordWrite
  | .ePermitBackoffRetry | .eTrapDelivery | .eRegionCommit | .eGsetbApply | .eCMemoryComplete | .eCopyOperationEnd
  | .eMonitorWake | .eMonwRetry | .eLeaseVoid | .eClockResume | .eGroupOverdue | .eGangExitNotice
  | .eGangBarrierArrival | .eMdsetApply | .eMwaitaDeadline | .eWfiDeadline | .eIssueGating | .eClockStop
  | .eLeaseExpiry | .eYieldTimeout => true
  | _ => false

/-- An event comes about; its meaning decides whether its condition holds. -/
def State.eventTurn (s : State) (e : Instr) (x : EvArg) : Out :=
  if isEvent e then exec e { s with cur := .event x } else .next s

/-- A turn is taken. -/
def State.take (s : State) (t : Turn) : Out :=
  match t with
  | .tick => .next s.tick
  | .gen c => s.genTurn c
  | .exits c => s.exitsTurn c
  | .solo id => s.soloTurn id
  | .issue c slot => s.issueTurn c slot
  | .body gid slot => s.bodyTurn gid slot
  | .matrix c => s.matrixTurn c
  | .pewter i => s.pewterTurn i
  | .event e x => s.eventTurn e x

/-- What a turn of the free schedule is: the turns of a core are due in every fabric clock (R22), and come in no other. -/
def freeTurn (t : Turn) : Turn :=
  match t with
  | .tick | .solo _ | .pewter _ | .event _ _ => t
  | .gen _ | .exits _ | .issue _ _ | .body _ _ | .matrix _ => .tick

/-- Whose turn it is, and the machine without that turn: the turns that stand at the front, else the free schedule
(assumption 2). -/
def State.popTurn (s : State) : Turn × State :=
  match s.turns with
  | t :: r => (t, { s with turns := r })
  | [] => (freeTurn (Config.schedule s.turnCtr), { s with turnCtr := s.turnCtr + 1 })

end Sys2Proof.Machine
end

