-- ==== Sys2Proof/Machine/Place.lean ====
section
/-! DEFINITION. Machine/Place.lean: how a word is put where the next turn takes it (assumption 5): a G-word at the pc of a
context, a C-word in a group's clause or at the head of its queue, an M-word at the head of a matrix queue. -/

namespace Sys2Proof.Machine

/-- Core 0 as its next turn needs it: there, running, each port free, and its page 0 of address space 0 mapped to the first
frame of memory. -/
def Core.forWord (k : Core) (pc : W64) (asid : Nat) : Core :=
  { k with
    spare := false, absent := false, clockStopped := false, genFree := 0, lastGen := 3, slot0 := 0, slot1 := 0, served := 0
    matJob := [], matSwitch := false, hold := k.hold.filter (fun h => h.lines.all (fun l => decide (512 ≤ l)))
    tlb := [{ asid := asid, base := pc.toNat / 65536 * 65536, size := 65536, pte := 0x39#64 }] }

/-- Die 0 as a turn on it needs it. -/
def Die.forWord (k : Die) : Die :=
  { k with rows := 0xFF#8, hole := false, throt := 0, dmemcap := if k.dmemcap.toNat < 65536 then 65536#42 else k.dmemcap }

/-- A word in the first frame of memory, at the place of a pc in its page. -/
def State.wordAt (s : State) (pc : BitVec 48) (w : W32) : State :=
  let pl := pc.toNat % 65536
  let s1 := s.putN pl 4 w.toNat
  { s1 with
    poison := s1.poison.filter (fun p => p != pl / 64)
    copies := s1.copies.filter (fun k => k.line != pl / 128) }

/-- Team 0 stands on core 0, and a turn is at the front. -/
def State.forWord (s : State) (t : Turn) : State :=
  let s1 := (s.updDie 0 Die.forWord).updCore 0 (fun k => k.forWord (s.ctx 0).va (s.team 0).asid.toNat)
  { s1.updTeam 0 (fun t => { t with groups := max t.groups 1, replay := [] }) with released := true, turns := t :: s.turns }

/-- The G-word stands at the pc of context 0 of core 0. -/
def State.placeTeamG (s : State) (w : W32) : State :=
  ((s.forWord (.gen 0)).updCtx 0 (fun c => { c with wait := .ready })).wordAt (s.ctx 0).pc w

/-- A page table whose only page, of 1 GiB, is the one that a pc lies on: it maps the first frame of memory. -/
def State.tableFor (s : State) (asid : Nat) (va : W64) : State :=
  let root := fieldOf (s.die 0).atroot 0 42
  let s1 := s.putN (root + 8 * asid) 8 0x10001
  let s2 := s1.putN (0x10000 + 8 * fieldOf va 55 2) 8 0x20001
  let s3 := s2.putN (0x20000 + 8 * fieldOf va 42 13) 8 0x30001
  let i := fieldOf va 29 13 / 2 * 2
  (s3.putN (0x30000 + 8 * i) 8 0x2039).putN (0x30000 + 8 * i + 8) 8 0x2039

/-- The G-word stands at the pc of a context of die 0 that belongs to no core, in an address space that maps it. -/
def State.placeSoloG (s0 : State) (id : Nat) (w : W32) : State :=
  let s1 := s0.updDie 0 (fun k => { k.forWord with
    dmemcap := if k.dmemcap.toNat < 2 ^ 30 then 0x40000000#42 else k.dmemcap, atroot := 0x80000#64
    prologue := if isPro id then some 0 else k.prologue })
  let s2 : State := { s1 with released := true, turns := .solo id :: s1.turns, poison := [] }
  let s3 := if isPro id && (kvFind s2.launches 0).isNone then s2.setLaunch 0 { stage := .prologue } else s2
  let s4 := s3.updCtx id (fun c => { c with wait := .ready, supper := false })
  let va := (s4.ctx id).va
  (s4.tableFor (s4.asidOf id) va).putN (va.toNat % 2 ^ 30) 4 w.toNat

/-- The C-word is the one body word of the clause that group 0 of team 0 is in. -/
def State.placeC (s : State) (w : W32) : State :=
  let e : QEntry := { val := w.zeroExtend 64 }
  (s.forWord (.issue 0 0)).updGrp 0 (fun g => { g with
    armed := true, wait := .ready, skip := false, slotEnd := 0, overdue := true, readyFor := 225
    queue := e :: g.queue, clause := some { words := [e] } })

/-- A header of l + 1 words stands at the head of the queue of group 0 of team 0, its body NOPs, all arrived. -/
def State.placeHeader (s : State) (w : W32) : State :=
  let body : List QEntry := (List.range (headerLen w)).map (fun _ => ({ val := 0xB000000F#64 } : QEntry))
  let q : List QEntry := { val := w.zeroExtend 64 } :: body
  let s1 := (s.forWord (.issue 0 0)).updGrp 0 (fun g => { g with
    armed := true, wait := .ready, skip := false, slotEnd := 0, overdue := true, readyFor := 225, cf := [], edge := {}
    queue := q ++ g.queue, clause := none })
  { s1 with clk := max s1.clk 2 }

/-- The M-word stands at the head of team 0's matrix queue, and no FENCE and no barrier holds it. -/
def State.placeM (s : State) (w : W32) : State :=
  let e : QEntry := { val := w.zeroExtend 64 }
  let s1 := (s.forWord (.matrix 0)).updTeam 0 (fun t => { t with mq := e :: t.mq, mHeld := none, bn := [] })
  { s1 with groups := kvMap (fun g x => if g / 16 = 0 then { x with wait := .ready, queue := [] } else x) s1.groups }

/-- A word stands where the next turn takes it, as the kind that the decoder of table words gives it (assumption 6). -/
def State.placeWord (s : State) (w : W32) : State :=
  match decodeG w, decodeM w with
  | some _, _ =>
    if fieldOf w 26 6 = 0x1D then s.placeSoloG 4096 w
    else if fieldOf w 26 6 = 0x1E then s.placeSoloG (proCtx 0) w
    else s.placeTeamG w
  | none, some _ => s.placeM w
  | none, none => if fieldOf w 28 4 = 15 then s.placeHeader w else s.placeC w

end Sys2Proof.Machine
end

