-- ==== Sys2Proof/Machine/Step.lean ====
section
/-! DEFINITION. Machine/Step.lean: the one step of the machine. -/

namespace Sys2Proof.Machine

/-- One turn of one agent: the turn that stands at the front, else that of the free schedule (assumption 2). -/
def step (s : State) : Host.Outcome State Fault Refusal := s.popTurn.2.take s.popTurn.1

/-- The state with a word where the next turn takes it (assumption 5); words are of 32 bits. -/
def State.withFetchWord (s : State) (nbits w : Nat) : State :=
  if nbits ≤ 32 then s.placeWord (BitVec.ofNat 32 w) else s

end Sys2Proof.Machine
end

