-- ==== Sys2Proof/Safety.lean ====
section
/-! DEFINITION. Safety.lean: the terms in which the statements speak: canonical memory, frames (what a step leaves
unchanged), what each family of words is to give, written from the rules a second time, and the invariants. -/

namespace Sys2Proof.Machine

/-! ## Memory and frames -/

/-- The canonical form of memory: addresses rise strictly, and no cell holds what an unlisted address reads as. -/
def Memory.wf (m : List Host.Cell) : Bool := spWf m

/-- Every byte of memory reads as before. -/
def SameBytes (s t : State) : Prop := ∀ a, t.byte a = s.byte a

/-- Every byte outside some addresses reads as before. -/
def SameBytesBut (s t : State) (at_ : Nat → Prop) : Prop := ∀ a, ¬ at_ a → t.byte a = s.byte a

/-- Nothing has changed but registers of one generator context. -/
def OnlyCtx (s t : State) (id : Nat) : Prop :=
  t = { s with ctxs := t.ctxs } ∧ (∀ j, j ≠ id → t.ctx j = s.ctx j) ∧ SameBytes s t

/-- Nothing has changed but registers of one generator context and of one team. -/
def OnlyCtxTeam (s t : State) (id : Nat) : Prop :=
  t = { s with ctxs := t.ctxs, teams := t.teams } ∧ (∀ j, j ≠ id → t.ctx j = s.ctx j) ∧
    (∀ j, j ≠ id → t.team j = s.team j) ∧ SameBytes s t

/-! ## The generator's words (R29, R111) -/

/-- A G-word stands at a context's turn, and no token is pending on a register that it uses (R32, R111). -/
def GTurn (s : State) (id : Nat) (w : W32) (use : List (BitVec 6)) : Prop :=
  s.cur = .gen id w ∧ ∀ r ∈ use, (s.ctx id).token r = false

/-- A G-word has executed in a context: pc has advanced by 4, and of its registers only scalar ones have changed. -/
def Advanced (c k : Ctx) : Prop :=
  k = { c with s := k.s, c := k.c, pc := c.pc + 4, wait := .ready, arrived := none, issues := c.issues + 1 }

/-- The word's one effect is that s[d] takes a value; a write of s0 is discarded (R29, R111). -/
def SetsReg (s t : State) (id : Nat) (d : BitVec 6) (x : W64) : Prop :=
  OnlyCtx s t id ∧ Advanced (s.ctx id) (t.ctx id) ∧ (t.ctx id).c = (s.ctx id).c ∧
    ∀ r, (t.ctx id).get r = if r = d ∧ r ≠ 0 then x else (s.ctx id).get r

/-- The word's one effect is that c[n] takes a value. -/
def SetsCond (s t : State) (id : Nat) (n : BitVec 3) (b : Bool) : Prop :=
  OnlyCtx s t id ∧ Advanced (s.ctx id) (t.ctx id) ∧ (t.ctx id).s = (s.ctx id).s ∧
    ∀ k, (t.ctx id).cond k = if k = n then b else (s.ctx id).cond k

/-- The word has executed and has changed no register but pc. -/
def SetsNothing (s t : State) (id : Nat) : Prop :=
  OnlyCtx s t id ∧ Advanced (s.ctx id) (t.ctx id) ∧ (t.ctx id).s = (s.ctx id).s ∧ (t.ctx id).c = (s.ctx id).c

/-- The word stalls unissued: nothing has changed but what the context waits for (R32, R196). -/
def Stalls (s t : State) (id : Nat) (x : Wait) : Prop :=
  OnlyCtx s t id ∧ t.ctx id = { s.ctx id with wait := x }

/-- A truth value as a number of 64 bits. -/
def truth (p : Bool) : W64 := if p then 1 else 0

/-- The low n bits of a pattern, extended with its bit n − 1. -/
def signLow (a : W64) (n : Nat) : W64 := (a.extractLsb' 0 n).signExtend 64

/-- The low n bits of a pattern, extended with zeros. -/
def zeroLow (a : W64) (n : Nat) : W64 := (a.extractLsb' 0 n).zeroExtend 64

/-- Destination, sources and result of every arithmetic word, from the tables of R103 and R112 to R117. BFI and CWSET,
which replace a part of their destination, stand apart. -/
def gResult (i : Instr) (c : Ctx) : Option (BitVec 6 × List (BitVec 6) × W64) :=
  match i with
  | .gAdd d a b => some (d, [a, b], c.get a + c.get b)
  | .gSub d a b => some (d, [a, b], c.get a - c.get b)
  | .gAnd d a b => some (d, [a, b], c.get a &&& c.get b)
  | .gOr d a b => some (d, [a, b], c.get a ||| c.get b)
  | .gXor d a b => some (d, [a, b], c.get a ^^^ c.get b)
  | .gAndn d a b => some (d, [a, b], c.get a &&& ~~~(c.get b))
  | .gSll d a b => some (d, [a, b], c.get a <<< ((c.get b).toNat % 64))
  | .gSrl d a b => some (d, [a, b], c.get a >>> ((c.get b).toNat % 64))
  | .gSra d a b => some (d, [a, b], (c.get a).sshiftRight ((c.get b).toNat % 64))
  | .gRol d a b => some (d, [a, b], (c.get a).rotateLeft ((c.get b).toNat % 64))
  | .gSlt d a b => some (d, [a, b], truth (decide ((c.get a).toInt < (c.get b).toInt)))
  | .gSltu d a b => some (d, [a, b], truth (decide ((c.get a).toNat < (c.get b).toNat)))
  | .gMin d a b => some (d, [a, b], if (c.get a).toInt ≤ (c.get b).toInt then c.get a else c.get b)
  | .gMax d a b => some (d, [a, b], if (c.get a).toInt ≤ (c.get b).toInt then c.get b else c.get a)
  | .gMinu d a b => some (d, [a, b], if (c.get a).toNat ≤ (c.get b).toNat then c.get a else c.get b)
  | .gMaxu d a b => some (d, [a, b], if (c.get a).toNat ≤ (c.get b).toNat then c.get b else c.get a)
  | .gSext d a w => some (d, [a], signLow (c.get a) (8 * 2 ^ w.toNat))
  | .gZext d a w => some (d, [a], zeroLow (c.get a) (8 * 2 ^ w.toNat))
  | .gMovc d a n => some (d, [a], if c.cond n then c.get a else c.get d)
  | .gMul d a b => some (d, [a, b], BitVec.ofInt 64 ((c.get a).toInt * (c.get b).toInt))
  | .gMulh d a b => some (d, [a, b], BitVec.ofInt 64 ((c.get a).toInt * (c.get b).toInt / 2 ^ 64))
  | .gMulhu d a b => some (d, [a, b], BitVec.ofNat 64 ((c.get a).toNat * (c.get b).toNat / 2 ^ 64))
  | .gDiv d a b => some (d, [a, b], if c.get b = 0 then BitVec.allOnes 64 else (c.get a).sdiv (c.get b))
  | .gDivu d a b => some (d, [a, b], if c.get b = 0 then BitVec.allOnes 64 else c.get a / c.get b)
  | .gRem d a b => some (d, [a, b], if c.get b = 0 then c.get a else (c.get a).srem (c.get b))
  | .gRemu d a b => some (d, [a, b], if c.get b = 0 then c.get a else c.get a % c.get b)
  | .gClz d a => some (d, [a], (c.get a).clz)
  | .gCtz d a => some (d, [a], (c.get a).ctz)
  | .gPopc d a => some (d, [a], (c.get a).cpop)
  | .gBrev d a => some (d, [a], (c.get a).reverse)
  | .gBfx d a b =>
    let x := c.get a >>> ((c.get b).toNat % 64)
    let n := (c.get b).toNat / 256 % 64 + 1
    some (d, [a, b], if (c.get b).getLsbD 16 then signLow x n else zeroLow x n)
  | .gAddi d a n => some (d, [a], c.get a + n.signExtend 64)
  | .gAndi d a n => some (d, [a], c.get a &&& n.zeroExtend 64)
  | .gOri d a n => some (d, [a], c.get a ||| n.zeroExtend 64)
  | .gXori d a n => some (d, [a], c.get a ^^^ n.zeroExtend 64)
  | .gShi d a o n => some (d, [a],
      if o = 0 then c.get a <<< n.toNat else if o = 1 then c.get a >>> n.toNat
      else if o = 2 then (c.get a).sshiftRight n.toNat else (c.get a).rotateLeft n.toNat)
  | .gSlti d a n => some (d, [a], truth (decide ((c.get a).toInt < (n.signExtend 64).toInt)))
  | .gSltiu d a n => some (d, [a], truth (decide ((c.get a).toNat < (n.signExtend 64).toNat)))
  | .gMuli d a n => some (d, [a], c.get a * n.signExtend 64)
  | .gLui d n => some (d, [], n.signExtend 64 * 4096)
  | .gAuipc d n => some (d, [], c.pc.signExtend 64 + n.signExtend 64 * 4096)
  | _ => none

/-- Condition bit, sources and result of CMP, CMPI and CBOP (R118, R119). -/
def gTest (i : Instr) (c : Ctx) : Option (BitVec 3 × List (BitVec 6) × Bool) :=
  let holds (k : Nat) (a b : W64) : Bool :=
    if k = 0 then decide (a = b) else if k = 1 then decide (a ≠ b) else if k = 2 then decide (a.toInt < b.toInt)
    else if k = 3 then decide (b.toInt ≤ a.toInt) else if k = 4 then decide (a.toNat < b.toNat)
    else decide (b.toNat ≤ a.toNat)
  match i with
  | .gCmp n a b k => some (n, [a, b], holds k.toNat (c.get a) (c.get b))
  | .gCmpi k n a x => some (n, [a], holds k.toNat (c.get a) (x.signExtend 64))
  | .gCbop d a b o =>
    some (d, [], if o = 0 then c.cond a && c.cond b else if o = 1 then c.cond a || c.cond b
      else if o = 2 then xor (c.cond a) (c.cond b) else if o = 3 then c.cond a && !c.cond b else decide (o = 4))
  | _ => none

/-- Sources, target and link of a branch that is taken (R120, R121). -/
def gBranch (i : Instr) (c : Ctx) : Option (List (BitVec 6) × W64 × Bool) :=
  match i with
  | .gBc n x o => if c.cond n = x.getLsbD 0 then some ([], c.pc.signExtend 64 + 4 * o.signExtend 64, false) else none
  | .gBa o => some ([], c.pc.signExtend 64 + 4 * o.signExtend 64, false)
  | .gBl o => some ([63], c.pc.signExtend 64 + 4 * o.signExtend 64, true)
  | .gBrr a => some ([a], c.get a, false)
  | .gBrlr a => some ([63, a], c.get a, true)
  | _ => none

/-- A target that pc can hold: a multiple of 4 whose bits 63 to 47 are all equal (R31). -/
def targetOk (t : W64) : Prop := t.toNat % 4 = 0 ∧ (t.toNat < 2 ^ 47 ∨ 2 ^ 64 - 2 ^ 47 ≤ t.toNat)

/-- Scalar registers that a G-word reads, or writes as sd: those whose tokens it waits for (R32). -/
def gUses (i : Instr) : Option (List (BitVec 6)) :=
  match i with
  | .gAdd d a b | .gSub d a b | .gAnd d a b | .gOr d a b | .gXor d a b | .gAndn d a b | .gSll d a b | .gSrl d a b
  | .gSra d a b | .gRol d a b | .gSlt d a b | .gSltu d a b | .gMin d a b | .gMax d a b | .gMinu d a b | .gMaxu d a b
  | .gMul d a b | .gMulh d a b | .gMulhu d a b | .gDiv d a b | .gDivu d a b | .gRem d a b | .gRemu d a b | .gBfx d a b
  | .gBfi d a b | .gAmo d a b _ _ _ | .gCopyz d a b | .gEcall d a b | .gTlbi d a b => some [d, a, b]
  | .gCopy d a b | .gCopys d a b => some [d, a, a + 1, b]
  | .gSext d a _ | .gZext d a _ | .gMovc d a _ | .gClz d a | .gCtz d a | .gPopc d a | .gBrev d a | .gCwset d a _
  | .gAddi d a _ | .gAndi d a _ | .gOri d a _ | .gXori d a _ | .gShi d a _ _ | .gSlti d a _ | .gSltiu d a _
  | .gMuli d a _ | .gLd d a _ _ _ | .gLds d a _ _ _ | .gSt d a _ _ _ | .gLdp d a _ _ | .gLdsum d a _ _ | .gLdf d a _
  | .gSte d a _ | .gMwaita d a | .gMwait d a | .gRecvm d a _ _ | .gWfi d a | .gSwapt d a => some [d, a]
  | .gLui d _ | .gAuipc d _ | .gPop d _ _ _ | .gQstat d _ | .gCsrr d _ | .gCsrw d _ | .gCsrs d _ | .gCsrc d _
  | .gGtime d | .gLget d _ => some [d]
  | .gCmp _ a b _ | .gEmitb _ a b _ _ | .gMdset _ a b | .gTrap a b => some [a, b]
  | .gCmpi _ _ a _ | .gBrr a | .gFence _ a _ | .gMonitor a | .gEmit _ a _ _ _ | .gEmitk _ a _ _ _ _ | .gEmitm a _ _ _
  | .gGsetb _ a _ | .gBarinit _ a | .gBarwait _ a | .gGbarwait _ a | .gSendm a _ _ | .gLset a _ | .gLrepeat a => some [a]
  | .gBl _ => some [63]
  | .gBrlr a => some [63, a]
  | _ => none

/-- The words of supervisor contexts (R58). -/
def gSupWords (i : Instr) : Option Unit :=
  match i with
  | .gTlbi _ _ _ | .gSendm _ _ _ | .gRecvm _ _ _ _ | .gWfi _ _ | .gSwapt _ _ => some ()
  | _ => none

/-- The words of prologue contexts (R58, R355). -/
def gProWords (i : Instr) : Option Unit :=
  match i with
  | .gLget _ _ | .gLset _ _ | .gLgo | .gLrepeat _ | .gLcancel => some ()
  | _ => none

/-- The words that act on a team's agents and that fail in a context of no team (R354, R455): the cause, and the group that
the record names, where the word names one. -/
def gTeamWords (i : Instr) : Option (Nat × Option Nat) :=
  match i with
  | .gExit | .gRegion | .gBarinit _ _ | .gBararv _ | .gBardrop _ | .gBarwait _ _ | .gBaraw _ | .gGbarinit _ | .gGbararv _
  | .gGbardrop _ | .gGbarwait _ _ => some (0x1, some 0)
  | .gEmit g _ _ _ _ | .gEmitk g _ _ _ _ _ | .gEmitl g _ _ _ | .gPop _ g _ _ | .gGarm g | .gGsetb g _ _ =>
    some (0x7, some g.toNat)
  | .gQstat _ g => some (0x7, some g.toNat)
  | .gEmitm _ _ _ _ | .gEmitb _ _ _ _ _ | .gMdset _ _ _ => some (0x7, none)
  | _ => none

/-- Place and width in a C-word of the field that a CWSET selector names (R75). -/
def cwPlace (k : Nat) : Nat × Nat :=
  if k = 0 then (21, 7) else if k = 1 then (14, 7) else if k = 2 then (7, 7) else if k = 3 then (0, 7)
  else if k = 4 then (0, 7) else if k = 5 then (16, 12) else if k = 6 then (12, 4) else if k = 7 then (8, 4) else (4, 4)

/-! ## Control registers (R33 to R39, R124) -/

/-- What a control register shows; none for a number that R33 and R415 do not list. CID is that of a context of a team; the
views of groups are as the last core-clock edge saw them (R125). -/
def csrShows (s : State) (id n : Nat) : Option W64 :=
  let c := s.ctx id
  let view (f : Edge → W64) : W64 :=
    if id < 4096 ∧ n % 16 < (s.team id).groups then f (s.grp (id * 16 + n % 16)).edge else 0
  match n with
  | 0x000 => some (c.gmode.zeroExtend 64)
  | 0x001 => some c.tvec
  | 0x002 => some (c.tstatus.zeroExtend 64)
  | 0x003 => some c.tepc
  | 0x004 => some (BitVec.ofNat 64 c.tq.length)
  | 0x005 => some (c.regpc.zeroExtend 64)
  | 0x006 => some (c.pstat.zeroExtend 64)
  | 0x007 => some c.tok
  | 0x010 => some c.trec.t0
  | 0x011 => some c.trec.t1
  | 0x012 => some c.trec.t2
  | 0x013 => some c.trec.t3
  | 0x014 => some c.trec.t4
  | 0x015 => some c.trec.t5
  | 0x016 => some c.trec.t6
  | 0x017 => some c.trec.t7
  | 0x800 => some (s.cid (id / 4))
  | 0xC00 => some (BitVec.ofNat 64 (ctxDie id + (id - 4096) % 4 * 16))
  | 0xC01 => some (c.sasid.zeroExtend 64)
  | 0xC02 => some (if c.supper then 1 else 0)
  | _ =>
    if n / 16 = 0x10 then some (view (fun e => e.fpx.zeroExtend 64))
    else if n / 16 = 0x11 then some (view (fun e => e.sig.zeroExtend 64))
    else if n / 16 = 0x12 then some (view (fun e => e.esn.zeroExtend 64))
    else if n / 16 = 0x13 then some (view (fun e => e.park))
    else none

/-- Bits that a control register has, and bits that CSRW, CSRS and CSRC may write (R36, R37, R39, R124, R415). -/
def csrBits (n : Nat) : W64 × W64 × W64 × W64 :=
  if n = 0x000 then (0xFFF, 0xFFF, 0xFFF, 0xFFF)
  else if n = 0x001 then (BitVec.allOnes 64, BitVec.allOnes 64, BitVec.allOnes 64, BitVec.allOnes 64)
  else if n = 0x002 then (0xF, 1, 1, 1)
  else if n = 0x003 then (BitVec.allOnes 64, BitVec.allOnes 64, 0, 0)
  else if n = 0x006 then (0xFFFF03, 0, 0, 0xFFFF02)
  else if n / 16 = 0x10 then (0x1F, 0, 0, 0x1F)
  else if n = 0xC01 then (0xFFFF, 0xFFFF, 0xFFFF, 0xFFFF)
  else if n = 0xC02 then (1, 1, 1, 1)
  else (BitVec.allOnes 64, 0, 0, 0)

/-- The value that a writing word places, from the old value and its source. -/
def csrNew (o : CsrOp) (n : Nat) (old v : W64) : W64 :=
  let b := csrBits n
  match o with
  | .w => (old &&& ~~~b.2.1) ||| (v &&& b.2.1)
  | .s => old ||| (v &&& b.2.2.1)
  | .c => old &&& ~~~(v &&& b.2.2.2)

/-- The word touches a bit that it may not write, or the register is read only or shuts the word out (R124, order 3). -/
def csrDenied (o : CsrOp) (n : Nat) (old v : W64) : Prop :=
  let b := csrBits n
  (b.2.1 = 0 ∧ b.2.2.1 = 0 ∧ b.2.2.2 = 0) ∨
    match o with
    | .w => (v ^^^ old) &&& b.1 &&& ~~~b.2.1 ≠ 0
    | .s => n = 3 ∨ v &&& b.1 &&& ~~~b.2.2.1 ≠ 0
    | .c => n = 3 ∨ v &&& b.1 &&& ~~~b.2.2.2 ≠ 0

/-- A value that GMODE or TVEC may not hold (R36, R124, order 4). -/
def csrIllegal (n : Nat) (x : W64) : Prop :=
  (n = 0x000 ∧ (x.toNat / 256 % 4 = 3 ∨ 4 < x.toNat % 8)) ∨ (n = 0x001 ∧ ¬ targetOk x)

/-- The registers of a context with one control register at a value. -/
def csrPlaced (c : Ctx) (n : Nat) (x : W64) : Ctx :=
  if n = 0x000 then { c with gmode := x.extractLsb' 0 32 }
  else if n = 0x001 then { c with tvec := x }
  else if n = 0x002 then { c with tstatus := x.extractLsb' 0 32 }
  else if n = 0x003 then { c with tepc := x }
  else if n = 0x006 then { c with pstat := x.extractLsb' 0 32 }
  else if n = 0xC01 then { c with sasid := x.extractLsb' 0 16 }
  else if n = 0xC02 then { c with supper := x.getLsbD 0 }
  else c

/-- A control register has been written: of contexts, one control register of this one; of groups, the flags of the one
that a GFPX names, where the team holds it: those are cleared that the edge saw and the value does not hold (R125). -/
def CsrWritten (s t : State) (id n : Nat) (x : W64) : Prop :=
  t = { s with ctxs := t.ctxs, groups := t.groups } ∧ (∀ j, j ≠ id → t.ctx j = s.ctx j) ∧ SameBytes s t ∧
    t.ctx id = { csrPlaced (s.ctx id) n x with
      pc := (s.ctx id).pc + 4, wait := .ready, arrived := none, issues := (s.ctx id).issues + 1 } ∧
    ∀ g, t.grp g = if n / 16 = 0x10 ∧ id < 4096 ∧ n % 16 < (s.team id).groups ∧ g = id * 16 + n % 16
      then { s.grp g with fpx := (s.grp g).fpx &&& ~~~((s.grp g).edge.fpx &&& ~~~(x.extractLsb' 0 5)) } else s.grp g

/-! ## Traps (R163 to R171) -/

/-- The record of a G-fault in TREC0 to TREC7 (R38, R165): kind 0, the pc, the cause's information, the word. -/
def recordOf (f : GFault) (pc : BitVec 48) (w : W32) : TrapRec :=
  { t0 := BitVec.ofNat 64 (f.code % 65536), t1 := pc.zeroExtend 64, t2 := 0, t3 := f.t3, t4 := f.t4, t5 := f.t5, t6 := 0
    t7 := w.zeroExtend 64 }

/-- A context's registers when a record is delivered to it (R37, R167, R171): the record stands in TREC0 to TREC7, TEPC holds
the address of the word to return to, level and mask are 1, pc is TVEC, and a team's watchdog starts. -/
def Delivered (c k : Ctx) (r : TrapRec) (rest : List TrapRec) (back : BitVec 48) (watch : Option Nat) (now : Nat) : Prop :=
  k = { c with
    trec := r, tq := rest, tepc := back.signExtend 64, tstatus := (c.tstatus &&& 0x8#32) ||| 0x3#32
    pc := c.tvec.extractLsb' 0 48, wait := .ready, arrived := none, pended := none, pstat := c.pstat &&& 0xFFFFFFFE#32
    watch := watch, delivered := now }

/-- Nothing has changed but a context, the tick of a snapshot that the fault has fired, and the order in which agents
released from parks go on, of which the generator takes leave (R177, R405). -/
def OnlyCtxSnap (s t : State) (id : Nat) : Prop :=
  t = { s with ctxs := t.ctxs, teams := t.teams, snapTick := t.snapTick } ∧ (∀ j, j ≠ id → t.ctx j = s.ctx j) ∧
    (∀ j, j ≠ id → t.team j = s.team j) ∧
    t.team id = { s.team id with replay := (s.team id).replay.erase .gen } ∧ SameBytes s t

/-- A context takes the trap of a G-fault in its handler: supervisors always, teams with GMODE.trapen. -/
def TakesTraps (s : State) (id : Nat) : Prop := isPro id = false ∧ (id < 4096 → (s.ctx id).trapen = true)

/-- A handler runs in the context, or a mask stands, at a trap of its own, whatever GMODE.trapen holds (R170; assumption
87). -/
def MaskedTraps (s : State) (id : Nat) : Prop := isPro id = false ∧ (s.ctx id).mask = true

/-- The context takes a trap and nothing keeps its record from delivery: no token word is pending (R164), neither level two
nor the watchdog holds it (R171, R173), the mask is 0 and fewer than five records are queued (R167, R170), a record still in
force holds no agent (R169), and the context is not past an arrival at a barrier (R394, R398). -/
def OpenTraps (s : State) (id : Nat) : Prop :=
  TakesTraps s id ∧ ((s.ctx id).wait = .held → (s.ctx id).pended.isSome = true) ∧ (s.ctx id).wait ≠ .reply ∧
    (s.ctx id).wait ≠ .watchdog ∧ (s.ctx id).tok = 0 ∧ (id < 4096 → s.hasTeam id = true) ∧ (s.ctx id).mask = false ∧
    (s.ctx id).tq.length < 5 ∧ (s.ctx id).trec.kind = 0 ∧ (s.ctx id).trec.code ≠ 0xD ∧ (s.ctx id).pastArrival = false

/-- A record has been handed to level two, and nothing else has changed but one context and a snapshot's tick. -/
def SentFrom (s t : State) (id : Nat) (r : Rec2) : Prop :=
  t = { s with ctxs := t.ctxs, records := s.records ++ [r], snapTick := t.snapTick } ∧
    (∀ j, j ≠ id → t.ctx j = s.ctx j) ∧ SameBytes s t

/-- The word at turn raises a G-fault. -/
def Raises (s : State) (id : Nat) (w : W32) (o : Host.Outcome State Fault Refusal) (code : Nat) (t3 t4 t5 : W64) : Prop :=
  o = .next (s.raiseG id { code := code, t3 := t3, t4 := t4, t5 := t5 } w)

/-- A prologue's record has gone to the level-two queue of its die, and its context is held (R354). -/
def SentByPrologue (s t : State) (id : Nat) (r : TrapRec) : Prop :=
  (∃ q : Rec2, t = { s with ctxs := t.ctxs, records := s.records ++ [q], snapTick := t.snapTick } ∧ q.kind = 1 ∧ q.body = r ∧
    q.die = id - 4136 ∧ q.tag = spGet (s.launch ((s.die (id - 4136)).prologue.getD 0)).field 23) ∧
    (∀ j, j ≠ id → t.ctx j = s.ctx j) ∧ t.ctx id = { s.ctx id with wait := .held } ∧ SameBytes s t

/-- EXIT may retire the team: R129's three conditions, and those of log entry 21, that no word of a retired group and no fault
is still under way and no arrival at a gang barrier is owed. -/
def MayExit (s : State) (id : Nat) : Prop :=
  ((∀ g, g < (s.team id).groups → (s.grp (id * 16 + g)).armed = false) ∧ (∀ e ∈ (s.team id).mq, e.consumed = true) ∧
    ((s.core (id / 4)).served = id % 4 → (s.core (id / 4)).matJob = []) ∧ (s.ctx id).tok = 0) ∧
  (s.team id).faults = [] ∧ (s.team id).gbOwed = none ∧ ∀ g, g < 16 → (s.grp (id * 16 + g)).pend = []

/-- A rollback has taken a team back to the entry of its oldest uncommitted region (R47, R188, R189, R343, R353): the
generator stands at REGPC in no handler, what the regions emitted or held back is gone, the groups and barriers, the handles
and the MSN are as at the entry, and vector, predicate and base registers, flags and memories keep what was written. -/
def RolledBack (s t : State) (tid : Nat) : Prop :=
  let a := s.team tid
  let b := t.team tid
  let c := s.ctx tid
  let k := t.ctx tid
  let n := a.regCommitted
  (k.pc = c.regpc ∧ k.pendEntry = c.regpc ∧ k.tstatus = 0 ∧ k.tepc = 0 ∧ k.trec = {} ∧ k.tq = [] ∧ k.tvec = c.tvec ∧
    k.gmode = c.gmode ∧ k.c = c.c ∧ (c.mwaits = [] → k.s = c.s ∧ k.tok = c.tok)) ∧
  (b.regIssued = n ∧ b.regCommitted = n ∧ b.mq = [] ∧ b.msn = a.roll.msn ∧ b.bn = a.roll.bars ∧ b.ah = a.roll.ah ∧
    b.released = [] ∧ b.faults = [] ∧ (∀ g, b.owed g = 0) ∧ b.md = a.md ∧ b.sp = a.sp ∧ b.spTag = a.spTag ∧
    (∀ x ∈ a.slots, (∀ h ∈ a.roll.ah, h.2.getLsbD 15 = true → h.2.toNat % 16 ≠ x) → x ∈ b.free)) ∧
  (∀ g, g < a.groups → let x := s.grp (tid * 16 + g)
    let y := t.grp (tid * 16 + g)
    y.esn = (if x.marked then x.resn + 1 else 0) ∧ y.mode = x.rmode ∧ y.active = 0xFFFFFFFF#32 ∧ y.stack = [] ∧
      y.sig = 0xFFFFFFFF#32 ∧ y.loopOn = false ∧ y.clause = none ∧ y.queue = [] ∧ y.armed = x.armedThen ∧ y.v = x.v ∧
      y.p = x.p ∧ y.ab = x.ab ∧ y.fpx = x.fpx ∧ y.cf = x.cf ∧ (∀ p ∈ y.pend, p.dead = true) ∧
      y.kq = (x.kq.filter (fun e => decide (e.epoch < n))).map (fun e => { e with popped := false }) ∧
      y.rq = (x.rq.filter (fun e => decide (e.pushed < n))).map (fun e => if n ≤ e.poppedAt then { e with popped := false } else e)) ∧
  (∀ h ∈ (t.core (tid / 4)).hold, h.team ≠ tid ∧ h ∈ (s.core (tid / 4)).hold) ∧ SameBytes s t

/-- Nothing of a team is left on its core (R129, R175). -/
def TeamGone (t : State) (id : Nat) : Prop :=
  t.hasTeam id = false ∧ kvFind t.ctxs id = none ∧ ∀ g, g < 16 → kvFind t.groups (id * 16 + g) = none

/-- A record of kind 1 for G_DOUBLE goes to level two, with the cause it met in TREC4 and the new one in TREC5 (R170). -/
def DoubleFaultSent (t : State) (old new : Nat) (pc : BitVec 48) (w : W32) : Prop :=
  ∃ r ∈ t.records, r.kind = 1 ∧ r.body =
    { t0 := 0x11, t1 := pc.zeroExtend 64, t4 := BitVec.ofNat 64 old, t5 := BitVec.ofNat 64 new, t7 := w.zeroExtend 64 }

/-- A record of kind 1 for G_TRAPQ goes to level two, with the fifth record's cause, kind and group (R170). -/
def QueueFullSent (t : State) (code kind group : Nat) : Prop :=
  ∃ r ∈ t.records, r.kind = 1 ∧ r.body.t0 = 0x13 ∧ r.body.t4 = BitVec.ofNat 64 code ∧
    r.body.t5 = BitVec.ofNat 64 (kind * 2 ^ 28 + group * 2 ^ 24)

/-! ## Memory -/

/-- Nothing that a read of memory may not change has changed: only cached lines and translations, the directory of cached
lines, sectors that the read has corrected or found lost (R207), counters of events, how long links have been idle (R413), and
which free values have been used. -/
def Unseen (s t : State) : Prop :=
  t = { s with cores := t.cores, dies := t.dies, copies := t.copies, dir := t.dir, freeCtr := t.freeCtr
               poison := t.poison, errs := t.errs, smify := { s.smify with due := t.smify.due }
               snapTick := t.snapTick, links := t.links } ∧
    (∀ c, t.core c = { s.core c with tlb := (t.core c).tlb, pmc := (t.core c).pmc, pms := (t.core c).pms }) ∧
    ∀ d, t.die d = { s.die d with
      l2tlb := (t.die d).l2tlb, hot := (t.die d).hot, spmc := (t.die d).spmc, spms := (t.die d).spms
      corrected := (t.die d).corrected }

/-- A G-word that reads memory has executed: beside what software does not see, its context alone has changed. -/
def ReadsInto (s t : State) (id : Nat) (k : Ctx) : Prop := ∃ u, Unseen s u ∧ t = u.setCtx id k

/-- Byte i of a number. -/
def byteOf (x i : Nat) : Byte := BitVec.ofNat 8 (x / 256 ^ i)

/-- Addresses that a store of n bytes at a virtual address writes: in the line of each copy of its page, at the address's
offset in the line (R212). -/
def StoredAt (pls : List Nat) (va : W64) (n a : Nat) : Prop :=
  ∃ p ∈ pls, ∃ i, i < n ∧ a = p / 128 * 128 + va.toNat % 128 + i

/-- A store of a number has been performed at every copy that lies in populated memory, and no other byte has changed. -/
def Stored (s t : State) (pls : List Nat) (va : W64) (n x : Nat) : Prop :=
  (∀ p ∈ pls, ∀ i, i < n → s.populated (p / 128 * 128 + va.toNat % 128 + i) = true →
    t.byte (p / 128 * 128 + va.toNat % 128 + i) = byteOf x i) ∧ SameBytesBut s t (StoredAt pls va n)

/-- No team, no group, no other context and no core's hold-back has changed. -/
def OthersStand (s t : State) (id : Nat) : Prop :=
  t.teams = s.teams ∧ t.groups = s.groups ∧ (∀ j, j ≠ id → t.ctx j = s.ctx j) ∧ ∀ c, (t.core c).hold = (s.core c).hold

/-- Access code of a trap record (R165): size, order, and bits for a store, a fetch and the scratchpad. -/
def accessCode (z ord : Nat) (store sp : Bool) : W64 :=
  BitVec.ofNat 64 (z + 4 * ord + (if store then 16 else 0) + if sp then 64 else 0)

/-- Address of a word with a scaled offset (R55). -/
def wordAddr (c : Ctx) (a : BitVec 6) (z : BitVec 2) (o : BitVec 10) : W64 :=
  c.get a + o.signExtend 64 * BitVec.ofNat 64 (2 ^ z.toNat)

/-- A page has been found for an access of a context: its leaf entry and size, and the state after the walk. What reads finds
no line that a copy engine owns (R204), and the host's translations in the ATS cache (R408). -/
def Found (s : State) (id : Nat) (va : W64) (n : Need) (u : State) (pls : List Nat) (home : Nat) (pk : PageKind) : Prop :=
  ∃ e z, s.translateCtx id va n = (u, .ok e z) ∧ pls = placesOf (u.die 0).devnum.toNat e z va ∧
    home = homePlace (u.die 0).devnum.toNat e z va ∧ pk = pteKind e ∧
    (n.r = true → u.engineOwns pls = false ∧ u.hostWaits pls = false)

/-- Index of the entry that a walk reads at a level, level 0 being the ASID root table (R361). -/
def walkIndex (asid : Nat) (va : W64) (k : Nat) : Nat :=
  if k = 0 then asid else if k = 1 then va.toNat / 2 ^ 55 % 4 else if k = 2 then va.toNat / 2 ^ 42 % 2 ^ 13
  else if k = 3 then va.toNat / 2 ^ 29 % 2 ^ 13 else va.toNat / 2 ^ 16 % 2 ^ 13

/-- A valid pointer entry: V, a frame, and every other bit zero (R363). -/
def PointerEntry (e : W64) : Prop :=
  e.getLsbD 0 = true ∧ ∀ j, j < 64 → e.getLsbD j = true → j = 0 ∨ 16 ≤ j ∧ j ≤ 41

/-- The node of a level of a walk, reached through valid and well-formed pointer entries (R361). -/
def NodeAt (s : State) (die asid : Nat) (va : W64) : Nat → Nat → Prop
  | 0, m => m = (s.die die).atroot.toNat % 2 ^ 42
  | k + 1, m => ∃ x e, NodeAt s die asid va k x ∧ s.entry x (walkIndex asid va k) = some e ∧ PointerEntry e ∧
      m = e.toNat / 2 ^ 16 % 2 ^ 26 * 65536

/-- A leaf entry is well formed (R362, R364, R409), a page of registers having the tier of its die (assumption 7). -/
def LeafOk (dev : Nat) (e : W64) : Prop :=
  let z := e.toNat / 2 ^ 12 % 4
  let tier := e.toNat / 2 ^ 14 % 4
  let frame := e.toNat / 2 ^ 16 % 2 ^ 26 * 65536
  let page := if z = 0 then 65536 else if z = 1 then 2 ^ 21 else 2 ^ 30
  z ≤ 2 ∧ tier ≤ 2 ∧ e.toNat / 2 ^ 10 % 4 ≤ 1 ∧ e.toNat / 2 ^ 6 % 8 = 0 ∧ e.toNat / 4 % 2 = 0 ∧ frame % page = 0 ∧
    (tier ≤ 1 → e.toNat / 2 ^ 42 % 64 = 0) ∧
    (tier = 0 → frame < 2 ^ 40 ∨ mmioFrame e false = true) ∧
    (tier = 1 → 2 ^ 40 ≤ frame ∧ frame < 3 * 2 ^ 40 ∨ mmioFrame e true = true) ∧
    (tier = 2 → e.toNat / 2 ^ 42 = dev → e.toNat / 2 ^ 38 % 16 ≤ 5)

/-- The last rows of R364, for a well-formed leaf: permission, pending-invalid, residence, and the translation. -/
def WalkEnds (n : Need) (e va : W64) (w : Walk) : Prop :=
  let z := e.toNat / 2 ^ 12 % 4
  let page := if z = 0 then 65536 else if z = 1 then 2 ^ 21 else 2 ^ 30
  let base := va.toNat / page * page
  let lacks := n.r = true ∧ e.getLsbD 3 = false ∨ n.w = true ∧ e.getLsbD 4 = false ∨ n.x = true ∧ e.getLsbD 5 = false
  (lacks → w = .perm e) ∧ (¬ lacks → e.getLsbD 1 = true → w = .park true base page) ∧
    (¬ lacks → e.getLsbD 1 = false → e.toNat / 2 ^ 10 % 4 = 1 → w = .park false base page) ∧
    (¬ lacks → e.getLsbD 1 = false → e.toNat / 2 ^ 10 % 4 ≠ 1 → w = .ok e page)

/-- A context has parked on an access (R176): its park state describes it, and for a page that is not resident a PARK record
has gone to level two, unless one of the team for that page stands unanswered. -/
def ParksG (u t : State) (id : Nat) (w : W32) (va code : W64) (pi : Bool) (base size : Nat) : Prop :=
  t.ctx id = { u.ctx id with
    pstat := (u.ctx id).pstat ||| 1#32, wait := .parked, parkVa := va, parkCode := code, parkPi := pi, parkSeq := u.clk / 2
    parkSince := u.now, parkWord := w } ∧
  (∀ j, j ≠ id → t.ctx j = u.ctx j) ∧ t.groups = u.groups ∧ (∀ j, j ≠ id → t.team j = u.team j) ∧ SameBytes u t ∧
  (pi = true ∨ id < 4096 ∧ (base, size) ∈ (u.team id).asked → t.records = u.records) ∧
  (pi = false → (id < 4096 → (base, size) ∉ (u.team id).asked) → ∃ r : Rec2, t.records = u.records ++ [r] ∧ r.kind = 2 ∧
    r.body = { t3 := va } ∧ r.page = base ∧ r.pageSize = size ∧ r.die = ctxDie id ∧
    (id < 4096 → r.src = .agent id .gen ∧ (t.team id).asked = (u.team id).asked ++ [(base, size)]))

/-- An access of a context whose walk finds no permission, or poison, faults with its access code (R248, R364). -/
def FaultsG (s : State) (id : Nat) (w : W32) (va : W64) (n : Need) (code : W64)
    (o : Host.Outcome State Fault Refusal) : Prop :=
  (∀ u e, s.translateCtx id va n = (u, .perm e) ∨ s.translateCtx id va n = (u, .gone e) → Raises u id w o 0xB va code e) ∧
  ∀ u, s.translateCtx id va n = (u, .poison) → Raises u id w o 0xD va code 0

/-- What an access of a context ends in that does not reach its page: a fault, or a park (R176, R248, R251, R364). -/
def StopsG (s : State) (id : Nat) (w : W32) (va : W64) (n : Need) (code : W64)
    (o : Host.Outcome State Fault Refusal) : Prop :=
  FaultsG s id w va n code o ∧ ∀ u pi b z, s.translateCtx id va n = (u, .park pi b z) → ∃ t, o = .next t ∧
    ParksG u t id w va code pi b z

/-- A release of a scope by a team has nothing to wait for (R219, R236, R237): below DIE nothing, at DIE and wider an empty
hold-back, and at SYS no write of the core in egress quarantine either. -/
def ReleaseFree (s : State) (id scope : Nat) : Prop :=
  scope < 2 ∨ ((s.core (id / 4)).hold = [] ∧ (scope < 4 ∨ s.egressPast (id / 4) = true))

/-- What a store of n bytes with an order leaves its context waiting for: a release its completion, of the core's stores up
to its own (R111, R236). -/
def afterStore (c : Ctx) (rel : Bool) (upTo : Nat) : Ctx := if rel then { c.done with wait := .drain c.scope upTo } else c.done

/-- A FENCE of a context may complete (R225, R228, R236, R237, R269): after a release the core's older stores have left, the
context's own where the mask names their colours, and at SYS quarantine too; with CE its copies have ended, and unless relaxed
no store that it may have read is held; with MX its M-words have completed, and with IO its stores to registers. -/
def FenceMay (s : State) (id : Nat) (ord : BitVec 2) (mask eng upTo : Nat) : Prop :=
  let scope := (s.ctx id).gmode.toNat % 8
  let hold := (s.core (id / 4)).hold
  (ord.getLsbD 1 = true → id < 4096 → 2 ≤ scope → (∀ h ∈ hold, h.serial < upTo →
      (h.team = id ∧ h.agent = .gen) ∧ mask ≠ 0 ∧ mask.testBit h.colour.toNat = false) ∧
    (4 ≤ scope → s.egressPast (id / 4) = true)) ∧
  (ord.getLsbD 1 = true → 4096 ≤ id → 4 ≤ scope → s.egressPast (2048 + id) = true) ∧
  (id < 4096 → eng.testBit 0 = true → ord ≠ 0 → ∀ h ∈ hold, upTo ≤ h.serial) ∧
  (id < 4096 → eng.testBit 2 = true → ∀ h ∈ hold, h.serial < upTo → h.team = id → h.agent = .gen →
    ∀ l ∈ h.lines, isMmio (l * 128) = false) ∧
  (eng.testBit 0 = true → ∀ e ∈ s.engines, ∀ o ∈ e.2, ∀ d, o.by_ = .ctx id d → o.gone = true) ∧
  (id < 4096 → eng.testBit 1 = true → ∀ e ∈ (s.team id).mq, e.consumed = false → e.kind ≠ .word)

/-- A copy word has handed one operation to its context's copy engine and set the token of its destination (R273). -/
def CopyGiven (s t : State) (id : Nat) (d : BitVec 6) (k : CopyKind) (x y : W64) (m : Nat) : Prop :=
  ∃ o, t = { s with ctxs := t.ctxs, engines := t.engines, opSerial := s.opSerial + 1 } ∧
    (∀ j, j ≠ id → t.ctx j = s.ctx j) ∧
    t.ctx id = (if d = 0 then s.ctx id else (s.ctx id).setTok d.toNat true).done ∧
    (∀ j, t.engine j = if j = engineOf id then s.engine j ++ [o] else s.engine j) ∧
    o.kind = k ∧ o.by_ = .ctx id d.toNat ∧ o.src = x ∧ o.dst = y ∧ o.len = m ∧ o.asid = s.asidOf id ∧ o.done = 0

/-! ## Queues (R63 to R69, R339 to R353) -/

/-- Entries of some kinds and values stand behind a queue, pushed by a word at an address. -/
def Behind (old new : List QEntry) (pc : BitVec 48) (es : List (EntryKind × W64)) : Prop :=
  ∃ q, new = old ++ q ∧ q.map (fun e => (e.kind, e.val, e.pc, e.consumed)) = es.map (fun x => (x.1, x.2, pc, false))

/-- A group's issue queue alone has grown. -/
def Queued (s t : State) (id g : Nat) (es : List (EntryKind × W64)) : Prop :=
  t.grp (id * 16 + g) = { s.grp (id * 16 + g) with queue := (t.grp (id * 16 + g)).queue } ∧
    Behind (s.grp (id * 16 + g)).queue (t.grp (id * 16 + g)).queue (s.ctx id).pc es

/-- Nothing has changed but a context, its team, and groups that a test names. -/
def FeedFrame (s t : State) (id : Nat) (fed : Nat → Prop) : Prop :=
  t = { s with ctxs := t.ctxs, groups := t.groups, teams := t.teams } ∧ (∀ j, j ≠ id → t.ctx j = s.ctx j) ∧
    (∀ j, j ≠ id → t.team j = s.team j) ∧ (∀ j, ¬ fed j → t.grp j = s.grp j) ∧ SameBytes s t

/-- What an emit word leaves of its context: pc advanced, and c[n] set if the word acts nb (R340). -/
def fedCtx (c : Ctx) (z : BitVec 1) (n : BitVec 3) : Ctx := (if c.actsNb z then c.setCond n true else c).done

/-- A word that finds its queue full: acting nb it clears c[n] and goes on, and else it waits (R340). -/
def FullOrWait (s : State) (id : Nat) (i : Instr) (z : BitVec 1) (n : BitVec 3) (x : Wait) : Prop :=
  ((s.ctx id).actsNb z = true → ∃ t, exec i s = .next t ∧ SetsCond s t id n false) ∧
    ((s.ctx id).actsNb z = false → ∃ t, exec i s = .next t ∧ Stalls s t id x)

/-- A group of the context's team that an emit word may name (R341). -/
def GroupOpen (s : State) (id g : Nat) : Prop :=
  id < 4096 ∧ g < (s.team id).groups ∧ (s.grp (id * 16 + g)).armed = true

/-- Words of a group's queue that are not consumed. -/
def liveOf (s : State) (id g : Nat) : Nat := ((s.grp (id * 16 + g)).queue.filter (fun e => !e.consumed)).length

/-- Emit state and expected signature of a group after a word (R69, R346). -/
def FedTeam (a b : Team) (g : Nat) (w : W32) : Prop :=
  b = { a with emit := b.emit, expSig := b.expSig } ∧
    (b.owed g = (if a.owed g ≠ 0 then a.owed g - 1 else if w.toNat / 2 ^ 28 = 15 then w.toNat / 16 % 16 + 1 else 0) % 256) ∧
    (∀ j, j ≠ g → b.owed j = a.owed j ∧ b.exp j = a.exp j) ∧
    b.exp g = (let y := sigFold (a.exp g) w
      if w &&& 0xFFFE3FFF#32 = 0xB0000006#32 then sigFold y 0xFFFF0001#32
      else if w = 0xB0000008#32 then sigFold y 0xFFFF0002#32 else y)

/-! ## Barriers (R389 to R398) -/

/-- A barrier's member, arrived and drop masks and its phase (R49, R389). -/
def BarIs (x : W64) (m a d : Nat) (p : Bool) : Prop :=
  x.toNat % 2 ^ 18 = m ∧ x.toNat / 2 ^ 18 % 2 ^ 18 = a ∧ x.toNat / 2 ^ 36 % 2 ^ 18 = d ∧ x.getLsbD 54 = p

/-- The member may arrive: it is one, and has not arrived in this phase (R390). -/
def BarOpen (x : W64) (k : Nat) : Prop := x.getLsbD k = true ∧ x.getLsbD (18 + k) = false

/-- An arrival: the member's bit stands in the arrived mask, and with a drop in the drop mask (R390). -/
def BarArrival (x y : W64) (k : Nat) (drop : Bool) : Prop :=
  ∀ m a d p, BarIs x m a d p → BarIs y m (a ||| 2 ^ k) (if drop then d ||| 2 ^ k else d) p

/-- The end of a core clock for a barrier (R391): once every member has arrived its phase flips, the agents that drop are
members no longer and no arrival stands; else nothing changes. -/
def BarFlip (x y : W64) : Prop :=
  ∀ m a d p, BarIs x m a d p →
    if a = m ∧ m ≠ 0 then BarIs y (m &&& (0x3FFFF ^^^ d)) 0 0 (!p) else y = x

/-- A barrier of a team has taken a value: beside the team's barrier only counters, one context and one group named have
changed. -/
def BarFrame (s t : State) (id b : Nat) (own : Nat → Prop) : Prop :=
  t.teams = (s.setTeam id (t.team id)).teams ∧ t.team id = { s.team id with bn := (t.team id).bn } ∧
    (∀ j, j ≠ b → (t.team id).bar j = (s.team id).bar j) ∧ (∀ j, j ≠ id → t.ctx j = s.ctx j) ∧
    (∀ j, ¬ own j → t.grp j = s.grp j) ∧ SameBytes s t

/-! ## Groups (R40 to R48, R133 to R159) -/

/-- Vector sources of every C-word but a header and the barrier words, in the order in which they take their K constants
(R41): a, b, c, then a data operand in d; a 64-bit one stands twice. -/
def cSources (i : Instr) : Option (List (BitVec 7)) :=
  let pair (d : BitVec 7) : List (BitVec 7) := if d = 127 then [127, 127] else [d, d + 1]
  let cas (p : BitVec 4) (d : BitVec 7) : List (BitVec 7) := if p = 9 then [d, d + 1] else [d]
  match i with
  | .cFma _ a b c | .cFms _ a b c | .cFnma _ a b c | .cImad _ a b c | .cImadh _ a b c | .cDp4a _ a b c
  | .cShf _ a b c => some [a, b, c]
  | .cSelv _ a b _ | .cFadd _ a b | .cFsub _ a b | .cFmul _ a b | .cFmin _ a b | .cFmax _ a b
  | .cFcmpEq _ a b | .cFcmpNe _ a b | .cFcmpLt _ a b | .cFcmpLe _ a b | .cFcmpGt _ a b | .cFcmpGe _ a b
  | .cFcmpUn _ a b | .cIadd _ a b | .cIsub _ a b | .cImul _ a b | .cImin _ a b | .cImax _ a b | .cIand _ a b
  | .cIor _ a b | .cIxor _ a b | .cIandn _ a b | .cIshl _ a b | .cIshr _ a b | .cIsra _ a b | .cIcmpEq _ a b
  | .cIcmpNe _ a b | .cIcmpLt _ a b | .cIcmpLe _ a b | .cIcmpGt _ a b | .cIcmpGe _ a b | .cIbfx _ a b
  | .cPack _ a b | .cShfl _ a b | .cShflup _ a b | .cShfldn _ a b | .cShflx _ a b | .cLds _ a b | .cLds64 _ a b
  | .cLdsf _ a b | .cLdsfk _ a b | .cPushg a b | .cPushgNb _ a b => some [a, b]
  | .cSts d a b | .cStse d a b | .cStsf d a b | .cSptag d a b | .cXst d a b => some [a, b, d]
  | .cSts64 d a b => some ([a, b] ++ pair d)
  | .cFabs _ a | .cFneg _ a | .cFrcp _ a | .cFrsq _ a | .cFsqrt _ a | .cFex2 _ a | .cFlg2 _ a | .cFclass _ a
  | .cIabs _ a | .cIneg _ a | .cIpopc _ a | .cIclz _ a | .cIbrev _ a | .cMov _ a | .cCvt _ a _ | .cUnpkl _ a
  | .cUnpkh _ a | .cBcast _ a | .cBallot _ a | .cRedadd _ a | .cRedmax _ a | .cRedmin _ a | .cPset _ a
  | .cRepeat a | .cSetmode a | .cTrapg a | .cMwaitb a => some [a]
  | .cLd _ _ _ b _ | .cLd64 _ _ b _ | .cLdp _ _ _ b _ | .cGather _ _ _ b _ => some [b]
  | .cSt d _ _ _ b _ | .cMonw d _ b => some [b, d]
  | .cAmo d p _ b _ | .cAmos d p _ b => some (b :: cas p d)
  | .cSt64 d _ _ b _ => some (b :: pair d)
  | .cSigchk => some [127]
  | .cLaneid _ | .cPand _ _ _ | .cPor _ _ _ | .cPxor _ _ _ | .cPnot _ _ | .cPget _ _ | .cIf _ | .cElse | .cEndif
  | .cBrkif _ | .cExitg | .cNop | .cVote _ _ _ | .cFence _ => some []
  | _ => none

/-- K constants that stand at a group's head, oldest first (R343). -/
def kWaiting (g : Group) : List W32 := (g.kq.filter (fun e => !e.popped)).map (fun e => e.val)

/-- A body word stands at a group's turn, in a clause, with its K constants there. -/
def CTurn (s : State) (gid : Nat) (e : QEntry) (slot : Nat) (fs : List (BitVec 7)) : Prop :=
  s.cur = .grp gid e slot ∧ (s.grp gid).clause.isSome = true ∧ fs.count 127 ≤ (kWaiting (s.grp gid)).length

/-- The word has issued: its own effect has made the group g1, and then it is consumed and the group goes on. -/
def CDone (s : State) (o : Host.Outcome State Fault Refusal) (gid : Nat) (e : QEntry) (n : Nat) (g1 : Group) : Prop :=
  o = .next ((s.setGrp gid g1).finish gid e n)

/-- Element type of MODE (R43). -/
def elemType (g : Group) : Nat := g.mode.toNat / 32 % 16

/-- Lane l executes: it is active, and the guard of MODE, if there is one, holds in it (R133). -/
def runs (g : Group) (l : Nat) : Bool :=
  let n := g.mode.toNat % 16
  g.active.getLsbD l && (n == 0 || ((spGet g.p (n - 1)).getLsbD l != g.mode.getLsbD 4))

/-- Source j of a word in lane l: its register, or for code 127 the next constant (R41). -/
def operand (g : Group) (fs : List (BitVec 7)) (j l : Nat) : W32 :=
  match fs[j]? with
  | none => 0
  | some x => if x = 127 then (kWaiting g).getD ((fs.take j).count 127) 0 else spGet g.v (x.toNat * 32 + l)

/-- The lane in which a uniform source is read: the lowest active one, or lane 0 (R134). -/
def uniformLane (g : Group) : Nat := ((List.range 32).find? (fun l => g.active.getLsbD l)).getD 0

/-- A vector register has been written in the lanes that execute, and nothing else of the group has changed; code 127
discards (R41, R133). -/
def LanesWritten (g g1 : Group) (d : BitVec 7) (f : Nat → W32) : Prop :=
  g1 = { g with v := g1.v } ∧ ∀ x l, x < 127 → l < 32 →
    spGet g1.v (x * 32 + l) = if x = d.toNat ∧ runs g l = true then f l else spGet g.v (x * 32 + l)

/-- A predicate register has been written, and nothing else of the group has changed. -/
def PredWritten (g g1 : Group) (p : BitVec 3) (f : Nat → Bool) : Prop :=
  g1 = { g with p := g1.p } ∧ (∀ q : Nat, q ≠ p.toNat → spGet g1.p q = spGet g.p q) ∧
    ∀ l, l < 32 → (spGet g1.p p.toNat).getLsbD l = f l

/-- Sources, types and per-lane result of the words on whole lanes (R137, R141, R144, R146, R149). -/
def cLaneWord (i : Instr) (g : Group) : Option (BitVec 7 × List (BitVec 7) × (Nat → Bool) × (Nat → W32)) :=
  let any (_ : Nat) : Bool := true
  let amount (x : W32) : Nat := x.toNat % 32
  match i with
  | .cMov d a => some (d, [a], any, operand g [a] 0)
  | .cIand d a b => some (d, [a, b], any, fun l => operand g [a, b] 0 l &&& operand g [a, b] 1 l)
  | .cIor d a b => some (d, [a, b], any, fun l => operand g [a, b] 0 l ||| operand g [a, b] 1 l)
  | .cIxor d a b => some (d, [a, b], any, fun l => operand g [a, b] 0 l ^^^ operand g [a, b] 1 l)
  | .cIandn d a b => some (d, [a, b], any, fun l => operand g [a, b] 0 l &&& ~~~(operand g [a, b] 1 l))
  | .cSelv d a b p => some (d, [a, b], any, fun l =>
      if (spGet g.p p.toNat).getLsbD l then operand g [a, b] 0 l else operand g [a, b] 1 l)
  | .cShf d a b c => some (d, [a, b, c], any, fun l =>
      let x := operand g [a, b, c] 1 l ++ operand g [a, b, c] 0 l
      (x >>> amount (operand g [a, b, c] 2 l)).extractLsb' 0 32)
  | .cPack d a b => some (d, [a, b], fun t => t != 0 && t != 3 && t != 4, fun l =>
      (operand g [a, b] 1 l).extractLsb' 0 16 ++ (operand g [a, b] 0 l).extractLsb' 0 16)
  | .cLaneid d => some (d, [], any, fun l => BitVec.ofNat 32 l)
  | .cShfl d a b => some (d, [a, b], any, fun l => operand g [a, b] 0 (amount (operand g [a, b] 1 l)))
  | .cShflup d a b => some (d, [a, b], any, fun l =>
      let n := amount (operand g [a, b] 1 l)
      operand g [a, b] 0 (if n ≤ l then l - n else l))
  | .cShfldn d a b => some (d, [a, b], any, fun l =>
      let n := amount (operand g [a, b] 1 l)
      operand g [a, b] 0 (if l + n < 32 then l + n else l))
  | .cShflx d a b => some (d, [a, b], any, fun l => operand g [a, b] 0 (l ^^^ amount (operand g [a, b] 1 l)))
  | .cBcast d a => some (d, [a], any, fun _ => operand g [a] 0 (((List.range 32).find? (runs g)).getD 0))
  | .cPget d p => some (d, [], any, fun _ => spGet g.p p.toNat)
  | _ => none

/-- Width and signedness of an integer type code (R91). -/
def intType (t : Nat) : Option (Nat × Bool) :=
  if t = 3 then some (32, true) else if t = 4 then some (32, false) else if t = 5 then some (16, true)
  else if t = 6 then some (16, false) else if t = 7 then some (8, true) else if t = 8 then some (8, false) else none

/-- Value of an element. -/
def intOf (w : Nat) (sg : Bool) (x : Nat) : Int := if sg = true ∧ 2 ^ (w - 1) ≤ x then (x : Int) - 2 ^ w else x

/-- An element is an exact integer narrowed to its type: wrapped, or clamped with saturation (R102). -/
def Narrowed (w : Nat) (sg sat : Bool) (x : Int) (y : Nat) : Prop :=
  y < 2 ^ w ∧
    if sat then intOf w sg y = max (if sg then -2 ^ (w - 1) else 0) (min (if sg then 2 ^ (w - 1) - 1 else 2 ^ w - 1) x)
    else ((y : Int) - x) % 2 ^ w = 0

/-- Element k of a lane, in elements of w bits. -/
def lanePart (w : Nat) (x : W32) (k : Nat) : Nat := x.toNat / 2 ^ (w * k) % 2 ^ w

/-- Destination, sources and result of the element-wise integer words, as a relation of the sources' elements and the
result's (R102, R137, R141, R143). -/
def cIntWord (i : Instr) : Option (BitVec 7 × List (BitVec 7) × (Nat → Bool → Bool → (Nat → Nat) → Nat → Prop)) :=
  let exact (f : (Nat → Int) → Int) (w : Nat) (sg sat : Bool) (x : Nat → Nat) (y : Nat) : Prop :=
    Narrowed w sg sat (f (fun j => intOf w sg (x j))) y
  match i with
  | .cImad d a b c => some (d, [a, b, c], exact (fun x => x 0 * x 1 + x 2))
  | .cImadh d a b c => some (d, [a, b, c], fun w sg _ x y =>
      Narrowed w sg false ((intOf w sg (x 0) * intOf w sg (x 1) + intOf w sg (x 2)) / 2 ^ w) y)
  | .cIadd d a b => some (d, [a, b], exact (fun x => x 0 + x 1))
  | .cIsub d a b => some (d, [a, b], exact (fun x => x 0 - x 1))
  | .cImul d a b => some (d, [a, b], exact (fun x => x 0 * x 1))
  | .cImin d a b => some (d, [a, b], exact (fun x => min (x 0) (x 1)))
  | .cImax d a b => some (d, [a, b], exact (fun x => max (x 0) (x 1)))
  | .cIshl d a b => some (d, [a, b], fun w _ _ x y => y = x 0 * 2 ^ (x 1 % w) % 2 ^ w)
  | .cIshr d a b => some (d, [a, b], fun w _ _ x y => y = x 0 / 2 ^ (x 1 % w))
  | .cIsra d a b => some (d, [a, b], fun w _ _ x y => Narrowed w true false (intOf w true (x 0) / 2 ^ (x 1 % w)) y)
  | .cIabs d a => some (d, [a], exact (fun x => ((x 0).natAbs : Int)))
  | .cIneg d a => some (d, [a], exact (fun x => -x 0))
  | .cIpopc d a => some (d, [a], fun w _ _ x y => y = (List.range w).countP (fun k => (x 0).testBit k))
  | .cIclz d a => some (d, [a], fun w _ _ x y => y ≤ w ∧ x 0 < 2 ^ (w - y) ∧ (y < w → 2 ^ (w - y - 1) ≤ x 0))
  | .cIbrev d a => some (d, [a], fun w _ _ x y => y < 2 ^ w ∧ ∀ k, k < w → y.testBit k = (x 0).testBit (w - 1 - k))
  | _ => none

/-! ## Exact arithmetic (R87 to R101) -/

/-- 2^e. -/
def two (e : Int) : Rat := if 0 ≤ e then ((2 ^ e.toNat : Nat) : Rat) else 1 / ((2 ^ (-e).toNat : Nat) : Rat)

/-- An exact value: a NaN, an infinity, or a number, with the sign that it has if it is zero. -/
inductive Ext where
  | nan
  | inf (neg : Bool)
  | num (v : Rat) (neg : Bool)
deriving DecidableEq, Repr

/-- The exact value of a value of the model. -/
def FVal.ext (x : FVal) : Ext :=
  match x with
  | .nan => .nan
  | .inf n => .inf n
  | .fin n m e => .num ((signed n m : Rat) * two e) n

/-- The opposite value. -/
def Ext.neg (x : Ext) : Ext :=
  match x with
  | .nan => .nan
  | .inf n => .inf (!n)
  | .num v n => .num (-v) (!n)

/-- Exact sum, and whether it is invalid; an exact zero sum of opposite signs is −0 only under RDN (R97, R98). -/
def Ext.add (mode : Nat) (x y : Ext) : Ext × Bool :=
  match x, y with
  | .nan, _ => (.nan, false)
  | _, .nan => (.nan, false)
  | .inf a, .inf b => if a = b then (.inf a, false) else (.nan, true)
  | .inf a, _ => (.inf a, false)
  | _, .inf b => (.inf b, false)
  | .num v a, .num w b => (.num (v + w) (if v + w = 0 then (if a = b then a else mode == 3) else decide (v + w < 0)), false)

/-- Exact product, and whether it is invalid (R97, R98). -/
def Ext.mul (x y : Ext) : Ext × Bool :=
  match x, y with
  | .nan, _ => (.nan, false)
  | _, .nan => (.nan, false)
  | .inf a, .inf b => (.inf (a != b), false)
  | .inf a, .num w b => if w = 0 then (.nan, true) else (.inf (a != b), false)
  | .num v a, .inf b => if v = 0 then (.nan, true) else (.inf (a != b), false)
  | .num v a, .num w b => (.num (v * w) (a != b), false)

/-- x lies below y, both not NaN; zeros are equal. -/
def Ext.lt (x y : Ext) : Prop :=
  match x, y with
  | .inf a, .inf b => a = true ∧ b = false
  | .inf a, .num _ _ => a = true
  | .num _ _, .inf b => b = false
  | .num v _, .num w _ => v < w
  | _, _ => False

/-- How two numbers compare. -/
def order (x y : Rat) : Ordering := if x < y then .lt else if x = y then .eq else .gt

/-- The integer k that a mode chooses for z / u (R94), z being positive and given by how it compares with each number. -/
def NeighbourIs (mode : Nat) (neg : Bool) (z : Rat → Ordering) (u : Rat) (k : Nat) : Prop :=
  let half (x : Rat) : Ordering := z ((k + x) * u)
  if mode = 0 then half (-1 / 2) ≠ .lt ∧ half (1 / 2) ≠ .gt ∧ (half (-1 / 2) = .eq ∨ half (1 / 2) = .eq → k % 2 = 0)
  else if mode = 1 ∨ (mode = 2 ∧ neg = true) ∨ (mode = 3 ∧ neg = false) then half 0 ≠ .lt ∧ half 1 = .lt
  else if mode = 2 ∨ mode = 3 then half (-1) = .gt ∧ half 0 ≠ .gt
  else half (-1 / 2) ≠ .lt ∧ half (1 / 2) = .lt

/-- Largest finite magnitude of a format (R87). -/
def Fmt.largest (f : Fmt) : Rat := ((2 ^ f.p - 1 : Nat) : Rat) * two (f.emax - f.p + 1)

/-- The code of a zero with a sign: F8e4 has no −0 (R88). -/
def Fmt.zeroCode (f : Fmt) (neg : Bool) : Nat := if neg = true ∧ f.e4 = false then f.signBit else 0

/-- The result of an overflow (R96). -/
def OverflowIs (f : Fmt) (mode : Nat) (sat neg : Bool) (y : Nat) : Prop :=
  let most : Prop := (f.val y).ext = .num (if neg then -f.largest else f.largest) neg
  if f.e4 = true then (if sat then most else y = f.nan)
  else if sat = true ∨ mode = 1 ∨ (mode = 2 ∧ neg = true) ∨ (mode = 3 ∧ neg = false) then most
  else (f.val y).ext = .inf neg

/-- Code and flags of a magnitude z that is rounded to a format with a sign (R95 to R97). -/
def RoundedAs (f : Fmt) (mode : Nat) (sat neg : Bool) (z : Rat → Ordering) (r : Nat × FFlags) : Prop :=
  ∀ lg : Int, z (two lg) ≠ .lt → z (two (lg + 1)) = .lt →
    let u := two (max lg f.emin - f.fb)
    ∃ k k1 : Nat, NeighbourIs mode neg z u k ∧ NeighbourIs mode neg z (two (lg - f.fb)) k1 ∧ r.1 < 2 * f.signBit ∧
      (f.largest < k * u → OverflowIs f mode sat neg r.1 ∧ r.2 = { of := true, nx := true }) ∧
      (k * u ≤ f.largest →
        (k = 0 → r.1 = f.zeroCode neg) ∧ (k ≠ 0 → (f.val r.1).ext = .num (if neg then -(k * u) else k * u) neg) ∧
        r.2 = { uf := decide (z (k * u) ≠ .eq ∧ k1 * two (lg - f.fb) < two f.emin), nx := decide (z (k * u) ≠ .eq) })

/-- Code and flags of an exact value, invalid or not, that is rounded to a format (R90, R95, R97). -/
def RoundsTo (f : Fmt) (mode : Nat) (sat : Bool) (x : Ext × Bool) (r : Nat × FFlags) : Prop :=
  match x.1 with
  | .nan => r = (f.nan, { nv := x.2 })
  | .inf n => if f.e4 = true then (if sat then OverflowIs f mode true n r.1 else r.1 = f.nan) ∧ r.2 = { nv := true }
      else (f.val r.1).ext = .inf n ∧ r.2 = {}
  | .num v n => if v = 0 then r = (f.zeroCode n, {}) else RoundedAs f mode sat (decide (v < 0)) (order (if v < 0 then -v else v)) r

/-- A result with the divide-by-zero flag alone. -/
def DividesByZero (f : Fmt) (neg : Bool) (r : Nat × FFlags) : Prop := (f.val r.1).ext = .inf neg ∧ r.2 = { dz := true }

/-- The basic operations of R98 on codes of a format, in the exact arithmetic of their values. -/
def BasicOps (f : Fmt) (mode : Nat) (sat : Bool) (a b c : Nat) : Prop :=
  let x := (f.val a).ext
  let y := (f.val b).ext
  let z := (f.val c).ext
  let fused (p z : Ext) : Ext × Bool := ((p.add mode z).1, (p.add mode z).2 || (x.mul y).2)
  RoundsTo f mode sat (x.add mode y) (fadd f mode sat a b) ∧ RoundsTo f mode sat (x.add mode y.neg) (fsub f mode sat a b) ∧
  RoundsTo f mode sat (x.mul y) (fmul f mode sat a b) ∧
  RoundsTo f mode sat (fused (x.mul y).1 z) (ffma f mode sat false false a b c) ∧
  RoundsTo f mode sat (fused (x.mul y).1 z.neg) (ffma f mode sat false true a b c) ∧
  RoundsTo f mode sat (fused (x.mul y).1.neg z) (ffma f mode sat true false a b c) ∧
  (x = .nan ∨ x.lt (.num 0 false) → fsqrt f mode sat a = (f.nan, { nv := decide (x ≠ .nan) })) ∧
  (x = .inf false → RoundsTo f mode sat (x, false) (fsqrt f mode sat a)) ∧
  (∀ v n, x = .num v n → (v = 0 → fsqrt f mode sat a = (f.zeroCode n, {})) ∧
    (0 < v → RoundedAs f mode sat false (fun t => if t < 0 then .gt else order v (t * t)) (fsqrt f mode sat a)))

/-- FMIN, FMAX, FABS, FNEG, the comparisons and FCLASS of R98 and R140 on codes of a format. -/
def OrderOps (f : Fmt) (a b : Nat) : Prop :=
  let x := (f.val a).ext
  let y := (f.val b).ext
  let un : Prop := x = .nan ∨ y = .nan
  (∀ max : Bool, let r := fminmax f max a b
    (x = .nan → y = .nan → r = f.nan) ∧ (x = .nan → y ≠ .nan → r = b) ∧ (x ≠ .nan → y = .nan → r = a) ∧
    (¬ un → (r = a ∨ r = b) ∧ (max = true → ¬ (f.val r).ext.lt x ∧ ¬ (f.val r).ext.lt y) ∧
      (max = false → ¬ x.lt (f.val r).ext ∧ ¬ y.lt (f.val r).ext) ∧
      ∀ m n, x = .num 0 m → y = .num 0 n → (f.val r).ext = .num 0 (if max then m && n else m || n))) ∧
  (∀ neg : Bool, let r := fabsneg f neg a
    (x = .nan → r = f.nan) ∧ ∀ n, (x = .inf n → (f.val r).ext = .inf (neg && !n)) ∧
      ∀ v, x = .num v n → (v = 0 → r = f.zeroCode (neg && !n)) ∧
        (v ≠ 0 → (f.val r).ext = .num (if (neg && !n) = n then v else -v) (neg && !n))) ∧
  (fcmp f 0 a b = true ↔ ¬ un ∧ ¬ x.lt y ∧ ¬ y.lt x) ∧ (fcmp f 1 a b = true ↔ un ∨ x.lt y ∨ y.lt x) ∧
  (fcmp f 2 a b = true ↔ x.lt y) ∧ (fcmp f 3 a b = true ↔ ¬ un ∧ ¬ y.lt x) ∧ (fcmp f 4 a b = true ↔ y.lt x) ∧
  (fcmp f 5 a b = true ↔ ¬ un ∧ ¬ x.lt y) ∧ (fcmp f 6 a b = true ↔ un) ∧
  fclass f a = match x with
    | .nan => 8
    | .inf n => if n then 0 else 7
    | .num v n => if v = 0 then (if n then 3 else 4)
      else if (if n then -v else v) < two f.emin then (if n then 2 else 5) else if n then 1 else 6

/-- The functions of R99 on codes of a format of 16 or 32 bits; of FEX2 and FLG2 the values that are powers of two or whole
(for the others their precision is assumption 17's). -/
def NearOps (f : Fmt) (sat : Bool) (a : Nat) : Prop :=
  let x := (f.val a).ext
  (x = .nan → ∀ r ∈ [frcp f sat a, frsq f sat a, fex2 f sat a, flg2 f sat a], r = (f.nan, {})) ∧
  (∀ n, x = .inf n → frcp f sat a = (f.zeroCode n, {}) ∧
    frsq f sat a = (if n then (f.nan, { nv := true }) else (0, {})) ∧
    (n = true → fex2 f sat a = (0, {}) ∧ flg2 f sat a = (f.nan, { nv := true })) ∧
    (n = false → ∀ r ∈ [fex2 f sat a, flg2 f sat a], (f.val r.1).ext = .inf false ∧ r.2 = {})) ∧
  ∀ v n, x = .num v n →
    (v = 0 → DividesByZero f n (frcp f sat a) ∧ DividesByZero f n (frsq f sat a) ∧ DividesByZero f true (flg2 f sat a)) ∧
    (v < 0 → frsq f sat a = (f.nan, { nv := true }) ∧ flg2 f sat a = (f.nan, { nv := true })) ∧
    (v ≠ 0 → RoundsTo f 0 sat (.num (1 / v) n, false) (frcp f sat a)) ∧
    (0 < v → RoundedAs f 0 sat false (fun t => if t < 0 then .gt else order 1 (t * t * v)) (frsq f sat a)) ∧
    (∀ k : Int, v = k → RoundsTo f 0 sat (.num (two k) false, false) (fex2 f sat a)) ∧
    (∀ k : Int, v = two k → RoundsTo f 0 sat (.num k (decide (k < 0)), false) (flg2 f sat a)) ∧
    ((∀ k : Int, v ≠ k) → (fex2 f sat a).2.nx = true) ∧ (0 < v → (∀ k : Int, v ≠ two k) → (flg2 f sat a).2.nx = true)

/-- Conversion of a value to an integer type (R101). -/
def ConvertsToInt (w : Nat) (sg : Bool) (mode : Nat) (x : Ext) (r : Nat × FFlags) : Prop :=
  let lo : Int := if sg then -2 ^ (w - 1) else 0
  let hi : Int := if sg then 2 ^ (w - 1) - 1 else 2 ^ w - 1
  r.1 < 2 ^ w ∧
    match x with
    | .nan => r = (0, { nv := true })
    | .inf n => intOf w sg r.1 = (if n then lo else hi) ∧ r.2 = { nv := true }
    | .num v _ => ∃ k : Nat, (v = 0 → k = 0) ∧ (v ≠ 0 → NeighbourIs mode (decide (v < 0)) (order (if v < 0 then -v else v)) 1 k) ∧
        let y : Int := if v < 0 then -k else k
        intOf w sg r.1 = max lo (min hi y) ∧
          r.2 = { nv := decide (y < lo ∨ hi < y), nx := decide (lo ≤ y ∧ y ≤ hi ∧ (y : Rat) ≠ v) }

/-- Destination, sources, types and operation on elements of the float words: result and flags of one element (R98, R99,
R137, R138, R140). -/
def cFloatWord (i : Instr) :
    Option (BitVec 7 × List (BitVec 7) × Nat × (Fmt → Nat → Bool → (Nat → Nat) → Nat × FFlags)) :=
  match i with
  | .cFma d a b c => some (d, [a, b, c], 10, fun f m t x => ffma f m t false false (x 0) (x 1) (x 2))
  | .cFms d a b c => some (d, [a, b, c], 10, fun f m t x => ffma f m t false true (x 0) (x 1) (x 2))
  | .cFnma d a b c => some (d, [a, b, c], 10, fun f m t x => ffma f m t true false (x 0) (x 1) (x 2))
  | .cFadd d a b => some (d, [a, b], 10, fun f m t x => fadd f m t (x 0) (x 1))
  | .cFsub d a b => some (d, [a, b], 10, fun f m t x => fsub f m t (x 0) (x 1))
  | .cFmul d a b => some (d, [a, b], 10, fun f m t x => fmul f m t (x 0) (x 1))
  | .cFmin d a b => some (d, [a, b], 10, fun f _ _ x => (fminmax f false (x 0) (x 1), {}))
  | .cFmax d a b => some (d, [a, b], 10, fun f _ _ x => (fminmax f true (x 0) (x 1), {}))
  | .cFabs d a => some (d, [a], 10, fun f _ _ x => (fabsneg f false (x 0), {}))
  | .cFneg d a => some (d, [a], 10, fun f _ _ x => (fabsneg f true (x 0), {}))
  | .cFclass d a => some (d, [a], 10, fun f _ _ x => (fclass f (x 0), {}))
  | .cFrcp d a => some (d, [a], 2, fun f _ t x => frcp f t (x 0))
  | .cFrsq d a => some (d, [a], 2, fun f _ t x => frsq f t (x 0))
  | .cFsqrt d a => some (d, [a], 2, fun f m t x => fsqrt f m t (x 0))
  | .cFex2 d a => some (d, [a], 2, fun f _ t x => fex2 f t (x 0))
  | .cFlg2 d a => some (d, [a], 2, fun f _ t x => flg2 f t (x 0))
  | _ => none

/-- Format and element width of a float type code up to a last one (R91): with 10 all five, with 2 those of 32 and 16 bits. -/
def floatType (t last : Nat) : Option (Fmt × Nat) :=
  if t = 0 then some (fp32, 32) else if t = 1 then some (bf16, 16) else if t = 2 then some (fp16, 16)
  else if t = 9 ∧ 9 ≤ last then some (f8e4, 8) else if t = 10 ∧ 9 ≤ last then some (f8e5, 8) else none

/-- Destination, sources, types and condition of the words that write a predicate in the lanes that execute (R139, R142,
R147). -/
def cTestWord (i : Instr) (g : Group) : Option (BitVec 3 × List (BitVec 7) × Bool × (Nat → Prop)) :=
  let t := elemType g
  let ints (a b : BitVec 7) (p : BitVec 3) (op : Int → Int → Prop) : Option (BitVec 3 × List (BitVec 7) × Bool × (Nat → Prop)) :=
    some (p, [a, b], (intType t).isSome, fun l => ∀ w sg, intType t = some (w, sg) → ∀ k, k < 32 / w →
      op (intOf w sg (lanePart w (operand g [a, b] 0 l) k)) (intOf w sg (lanePart w (operand g [a, b] 1 l) k)))
  let floats (a b : BitVec 7) (p : BitVec 3) (op : Nat) : Option (BitVec 3 × List (BitVec 7) × Bool × (Nat → Prop)) :=
    some (p, [a, b], (floatType t 10).isSome, fun l => ∀ f w, floatType t 10 = some (f, w) → ∀ k, k < 32 / w →
      fcmp f op (lanePart w (operand g [a, b] 0 l) k) (lanePart w (operand g [a, b] 1 l) k) = true)
  match i with
  | .cIcmpEq p a b => ints a b p (· = ·)
  | .cIcmpNe p a b => ints a b p (· ≠ ·)
  | .cIcmpLt p a b => ints a b p (· < ·)
  | .cIcmpLe p a b => ints a b p (· ≤ ·)
  | .cIcmpGt p a b => ints a b p (· > ·)
  | .cIcmpGe p a b => ints a b p (· ≥ ·)
  | .cFcmpEq p a b => floats a b p 0
  | .cFcmpNe p a b => floats a b p 1
  | .cFcmpLt p a b => floats a b p 2
  | .cFcmpLe p a b => floats a b p 3
  | .cFcmpGt p a b => floats a b p 4
  | .cFcmpGe p a b => floats a b p 5
  | .cFcmpUn p a b => floats a b p 6
  | .cBallot p a => some (p, [a], true, fun l => operand g [a] 0 l ≠ 0)
  | .cVote p a o => some (p, [], true, fun _ =>
      let all := ∀ j, j < 32 → runs g j = true → (spGet g.p a.toNat).getLsbD j = true
      let one := ∃ j, j < 32 ∧ runs g j = true ∧ (spGet g.p a.toNat).getLsbD j = true
      if o = 0 then all else if o = 1 then one else all ∨ ¬ one)
  | _ => none

/-- Destination, sources and mask of the words that write a whole predicate (R149). -/
def cMaskWord (i : Instr) (g : Group) : Option (BitVec 3 × List (BitVec 7) × W32) :=
  match i with
  | .cPand d a b => some (d, [], spGet g.p a.toNat &&& spGet g.p b.toNat)
  | .cPor d a b => some (d, [], spGet g.p a.toNat ||| spGet g.p b.toNat)
  | .cPxor d a b => some (d, [], spGet g.p a.toNat ^^^ spGet g.p b.toNat)
  | .cPnot d a => some (d, [], ~~~(spGet g.p a.toNat))
  | .cPset d a => some (d, [a], operand g [a] 0 (uniformLane g))
  | _ => none

/-- Saturation bit of MODE (R43). -/
def satBit (g : Group) : Bool := g.mode.getLsbD 12

/-- Rounding of MODE (R43). -/
def roundBits (g : Group) : Nat := g.mode.toNat / 512 % 8

/-- A C-fault of the word at turn that names the active mask (R165). -/
def RaisesC (s : State) (o : Host.Outcome State Fault Refusal) (gid : Nat) (e : QEntry) (code : Nat) (t4 t5 : W64) : Prop :=
  o = .next (s.raiseC gid { code := code, lanes := (s.grp gid).active, t4 := t4, t5 := t5 } e)

/-- A C-fault of the word at a group's turn (R38, R41, R164, R165): the group is held at it, and its record, of kind 1 with the
group, the word's ESN, its provenance pc, the lanes and the word itself, stands behind those of its team; nothing else changes
but the tick of a snapshot that the fault fires (R405). -/
def CRaised (s t : State) (gid : Nat) (f : CFault) (e : QEntry) : Prop :=
  t = { s with groups := t.groups, teams := t.teams, snapTick := t.snapTick } ∧
    t.grp gid = { s.grp gid with wait := .held, heldWord := some e, heldCode := f.code } ∧
    (∀ j, j ≠ gid → t.grp j = s.grp j) ∧ (∀ j, j ≠ gid / 16 → t.team j = s.team j) ∧ SameBytes s t ∧
    ∃ r : TrapRec, t.team (gid / 16) = { s.team (gid / 16) with
        faults := (s.team (gid / 16)).faults ++ [{ agent := .grp (gid % 16), trec := r }] } ∧
      r.t0.toNat = f.code % 65536 + gid % 16 * 2 ^ 24 + 2 ^ 28 + (s.grp gid).wordEsn.toNat * 2 ^ 32 ∧
      r.t1 = e.pc.zeroExtend 64 ∧ r.t2 = f.lanes.zeroExtend 64 ∧ r.t3 = f.t3 ∧ r.t4 = f.t4 ∧ r.t5 = f.t5 ∧ r.t6 = 0 ∧
      r.t7 = e.word.zeroExtend 64

/-- A float word's results, element k of lane l given with its flags: they are written in the lanes that execute and their
flags join FPX; while MODE.fptrap is 1 a word that raises a flag raises C_FP instead, with the lanes and the flags. -/
def FlagsOrTrap (s : State) (o : Host.Outcome State Fault Refusal) (gid : Nat) (e : QEntry) (n : Nat) (d : BitVec 7)
    (w : Nat) (one : Nat → Nat → Nat × FFlags) : Prop :=
  let g := s.grp gid
  let raised (l b : Nat) : Prop := l < 32 ∧ runs g l = true ∧ ∃ k, k < 32 / w ∧ (one l k).2.bits.getLsbD b = true
  (g.mode.getLsbD 31 = false ∨ g.noTrap = true ∨ ¬ (∃ l b, raised l b) → ∃ g1 g2 h, LanesWritten g g1 d h ∧
    CDone s o gid e n g2 ∧ g2 = { g1 with fpx := g2.fpx } ∧
    (∀ l k, k < 32 / w → lanePart w (h l) k = (one l k).1 % 2 ^ w) ∧
    ∀ b, b < 5 → (g2.fpx.getLsbD b = true ↔ g.fpx.getLsbD b = true ∨ ∃ l, raised l b)) ∧
  (g.mode.getLsbD 31 = true → g.noTrap = false → (∃ l b, raised l b) → ∃ m x,
    o = .next (s.raiseC gid { code := 0x106, lanes := m, t4 := x } e) ∧
    (∀ l, l < 32 → (m.getLsbD l = true ↔ ∃ b, raised l b)) ∧ ∀ b, b < 64 → (x.getLsbD b = true ↔ ∃ l, raised l b))

/-- Width of an element of a type code (R91). -/
def typeBits (t : Nat) : Nat :=
  if t = 0 ∨ t = 3 ∨ t = 4 then 32 else if t = 1 ∨ t = 2 ∨ t = 5 ∨ t = 6 then 16 else 8

/-- Conversion of one element between types, with its flags (R101). -/
def Converts (src dst mode : Nat) (sat : Bool) (x : Nat) (y : Nat × FFlags) : Prop :=
  (∀ f w g v, floatType src 10 = some (f, w) → floatType dst 10 = some (g, v) → y = roundTo g mode sat (f.val x)) ∧
  (∀ w a g v, intType src = some (w, a) → floatType dst 10 = some (g, v) →
    y = cvtFromInt g mode sat (intOf w a x)) ∧
  (∀ f w v b, floatType src 10 = some (f, w) → intType dst = some (v, b) →
    y = cvtToInt { w := v, sg := b } mode (f.val x)) ∧
  (∀ w a v b, intType src = some (w, a) → intType dst = some (v, b) → y.2 = {} ∧ Narrowed v b sat (intOf w a x) y.1)

/-- An element widened to the type twice as wide (R144). -/
def Widened (t x y : Nat) : Prop :=
  match t with
  | 1 | 2 => ∃ f, floatType t 10 = some (f, 16) ∧ y = (roundTo fp32 0 false (f.val x)).1
  | 9 | 10 => ∃ f, floatType t 10 = some (f, 8) ∧ y = (roundTo fp16 0 false (f.val x)).1
  | _ => ∀ w sg, intType t = some (w, sg) → y < 2 ^ (2 * w) ∧ intOf (2 * w) sg y = intOf w sg x

/-- One level of a reduction tree over lanes k apart; a lane that is absent gives way (R148). -/
def redLevel (node : Nat → Nat → Nat × FFlags) (k : Nat) (x : Nat → Option (Nat × FFlags)) (l : Nat) :
    Option (Nat × FFlags) :=
  match x l, x (l + k) with
  | some a, some b => let r := node a.1 b.1; some (r.1, (a.2.or b.2).or r.2)
  | none, y => y
  | y, none => y

/-- The fixed tree over the lanes (R148). -/
def redTree (node : Nat → Nat → Nat × FFlags) (x : Nat → Option (Nat × FFlags)) : Nat × FFlags :=
  ([1, 2, 4, 8, 16].foldl (fun y k => redLevel node k y) x 0).getD (0, {})

/-- The result of a node on integers: an exact result wrapped, or clamped with saturation. -/
def narrowTo (w : Nat) (sg sat : Bool) (x : Int) : Nat :=
  let lo : Int := if sg then -2 ^ (w - 1) else 0
  let hi : Int := if sg then 2 ^ (w - 1) - 1 else 2 ^ w - 1
  ((if sat then max lo (min hi x) else x) % 2 ^ w).toNat

/-- Nodes of REDADD, REDMAX and REDMIN for the type of a group (R148). -/
def redNodes (i : Instr) (g : Group) : Option (BitVec 7 × BitVec 7 × (Nat → Nat → Nat × FFlags)) :=
  let t := elemType g
  let mk (fl : Fmt → Nat → Nat → Nat × FFlags) (it : Int → Int → Int) (x y : Nat) : Nat × FFlags :=
    match floatType t 10, intType t with
    | some (f, _), _ => fl f x y
    | _, some (w, sg) => (narrowTo w sg (satBit g) (it (intOf w sg x) (intOf w sg y)), {})
    | _, _ => (x, {})
  match i with
  | .cRedadd d a => some (d, a, mk (fun f => fadd f (roundBits g) (satBit g)) (fun x y => x + y))
  | .cRedmax d a => some (d, a, mk (fun f x y => (fminmax f true x y, {})) max)
  | .cRedmin d a => some (d, a, mk (fun f x y => (fminmax f false x y, {})) min)
  | _ => none

/-! ## Long-latency words of groups (R67, R68, R248 to R268) -/

/-- Lanes that execute, lowest first. -/
def runLanes (g : Group) : List Nat := (List.range 32).filter (fun l => runs g l)

/-- What tells a pending word from others. -/
def pendName (p : Pending) : W32 × W32 × Option Nat × LongOp := (p.word, p.esn, p.flag, p.op)

/-- A long-latency word has issued from a state v, which differs from s by what the word has done: it stands behind the
group's pending words, older ones of which it may have had performed, and counts against its flag (R67, R68). -/
def LongIssued (s v : State) (o : Host.Outcome State Fault Refusal) (gid : Nat) (e : QEntry) (n : Nat) (q : Pending) : Prop :=
  let g := s.grp gid
  let k := v.grp gid
  o = .next (v.finish gid e n) ∧
    k = { g with pend := k.pend, cf := k.cf, clause := g.clause.map (fun c => { c with first := false }) } ∧
    (∃ old, k.pend = old ++ [q] ∧ old.map pendName = g.pend.map pendName) ∧
    (∀ f, (spGet k.cf f) = if g.nextFlag = some f then spGet g.cf f + 1 else spGet g.cf f) ∧
    (∀ j, j ≠ gid → v.grp j = s.grp j) ∧ v.ctxs = s.ctxs ∧ q.word = e.word ∧ q.pc = e.pc ∧ q.esn = g.wordEsn ∧
    q.flag = g.nextFlag ∧ q.issued = s.clk ∧ q.dead = false ∧ q.poison = none

/-- Addresses of the lanes of a global access (R259). -/
def laneAddrs (g : Group) (nb : BitVec 3) (fs : List (BitVec 7)) : List (Nat × W64) :=
  (runLanes g).map (fun l => (l, spGet g.ab nb.toNat + (operand g fs 0 l).zeroExtend 64))

/-- Every lane's page is there for an access, or, for a probe, absent; ls are the lanes whose pages are there. What reads
finds no line that a copy engine owns (R204), and the host's translations in the ATS cache (R408). -/
def LanesFound (s : State) (gid : Nat) (n : Need) (probe : Bool) (vas : List (Nat × W64)) (u : State) (ls : List LaneOk) :
    Prop :=
  ∃ ws, s.walkLanes (gid / 64) (s.team (gid / 16)).asid.toNat n vas = (u, ws) ∧
    (∀ x ∈ ws, (∃ p z, x.2.2 = .ok p z) ∨ (probe = true ∧ ∃ i b z, x.2.2 = .park i b z)) ∧
    ls = ws.filterMap (fun x => x.2.2.good (u.die 0).devnum.toNat x.1 x.2.1) ∧
    (n.r = true → u.engineOwns (ls.flatMap (fun a => a.pls)) = false ∧ u.hostWaits (ls.flatMap (fun a => a.pls)) = false)

/-- A long-latency word of a group may issue (R67, R230): its flag takes one more, and no pending acquire that is promoted keeps a
later access from issuing. -/
def LongFree (s : State) (gid : Nat) : Prop :=
  (s.grp gid).flagFull = false ∧ ∀ p ∈ (s.grp gid).pend, p.acquire = true → p.promote = true → p.dead = true ∨
    s.promoted (gid / 64) p.scope true (p.accs.flatMap (fun a => a.pas)) = true

/-- A group has parked on an access (R40, R176): its park state describes it, with the word's ESN, and for a page that is not
resident a PARK record has gone to level two, unless one of the team for that page stands unanswered. -/
def ParksC (u t : State) (gid : Nat) (e : QEntry) (va code : W64) (m : Lanes) (pi : Bool) (base size : Nat) : Prop :=
  t.grp gid = { u.grp gid with
    wait := .parked, park := (t.grp gid).park, heldWord := some e, parkVa := va, parkCode := code, parkLanes := m
    parkSeq := u.clk / 2, parkSince := u.now } ∧
  (t.grp gid).park.toNat = 1 + (if pi then 2 else 0) + (u.grp gid).wordEsn.toNat * 2 ^ 32 ∧
  (∀ j, j ≠ gid → t.grp j = u.grp j) ∧ t.ctxs = u.ctxs ∧ (∀ j, j ≠ gid / 16 → t.team j = u.team j) ∧ SameBytes u t ∧
  (pi = true ∨ (base, size) ∈ (u.team (gid / 16)).asked → t.records = u.records) ∧
  (pi = false → (base, size) ∉ (u.team (gid / 16)).asked → ∃ r : Rec2, t.records = u.records ++ [r] ∧ r.kind = 2 ∧
    r.body = { t3 := va } ∧ r.page = base ∧ r.pageSize = size ∧ r.src = .agent (gid / 16) (.grp (gid % 16)) ∧
    (t.team (gid / 16)).asked = (u.team (gid / 16)).asked ++ [(base, size)])

/-- What an access of lanes to aligned addresses ends in that does not reach all their pages (R176, R248, R251, R262): a fault of
the lanes that have no permission, a park on the lowest lane's page, or a fault of the lanes whose walk finds poison. -/
def LanesStop (s : State) (gid : Nat) (e : QEntry) (n : Need) (probe : Bool) (vas : List (Nat × W64)) (code : W64)
    (o : Host.Outcome State Fault Refusal) : Prop :=
  ∀ u ws, s.walkLanes (gid / 64) (s.team (gid / 16)).asid.toNat n vas = (u, ws) →
    let named (m : Lanes) (p : Walk → Prop) : Prop := ∀ l, l < 32 → (m.getLsbD l = true ↔ ∃ y ∈ ws, y.1 = l ∧ p y.2.2)
    let bad (x : Walk) : Prop := ∃ p, x = .perm p ∨ x = .gone p
    let away (x : Walk) : Prop := probe = false ∧ ∃ i b z, x = .park i b z
    let first (l1 : List (Nat × W64 × Walk)) (p : Walk → Prop) : Prop := ∀ y ∈ l1, ¬ p y.2.2
    ∀ l1 l va x l2, ws = l1 ++ (l, va, x) :: l2 →
      (∀ p, x = .perm p ∨ x = .gone p → first l1 bad → ∃ m, named m bad ∧
        o = .next (u.raiseC gid { code := 0x10E, lanes := m, t3 := va, t4 := code, t5 := p } e)) ∧
      (∀ i b z, x = .park i b z → probe = false → first ws bad → first l1 away → ∃ t m, o = .next t ∧
        named m (· = x) ∧ ParksC u t gid e va code m i b z) ∧
      (x = .poison → first ws bad → first ws away → first l1 (· = .poison) → ∃ m, named m (· = .poison) ∧
        o = .next (u.raiseC gid { code := 0x110, lanes := m, t3 := va, t4 := code } e))

/-- A FENCE of a group may complete (R225, R228, R236, R237, R269): after a release at DIE or wider the core's older stores have
left, the group's own where the mask names their colours, and at SYS quarantine too; with CE the team's older copies have ended,
and unless relaxed no store that it may have read is held; with MX the older M-words have completed, and with IO the group's
stores to registers. -/
def FenceMayC (s : State) (gid : Nat) (ord : BitVec 2) (scope eng mask upTo copies mws : Nat) : Prop :=
  let hold := (s.core (gid / 64)).hold
  let own (h : HoldEntry) : Prop := h.team = gid / 16 ∧ h.agent = .grp (gid % 16)
  (ord.getLsbD 1 = true → 2 ≤ scope →
    (∀ h ∈ hold, h.serial < upTo → own h ∧ mask ≠ 0 ∧ mask.testBit h.colour.toNat = false) ∧
    (4 ≤ scope → s.egressPast (gid / 64) = true)) ∧
  (eng.testBit 0 = true → ord ≠ 0 → ∀ h ∈ hold, upTo ≤ h.serial) ∧
  (eng.testBit 2 = true → ∀ h ∈ hold, h.serial < upTo → own h → ∀ l ∈ h.lines, isMmio (l * 128) = false) ∧
  (eng.testBit 0 = true → ∀ x ∈ s.engines, ∀ o ∈ x.2, ∀ d, o.by_ = .ctx (gid / 16) d → o.gone = true ∨ copies ≤ o.serial) ∧
  (eng.testBit 1 = true → mws ≤ (s.team (gid / 16)).mDone)

/-- A C-fault of lanes: it names the lanes that a test holds in, and the address of the lowest of them. -/
def RaisesLanes (s : State) (o : Host.Outcome State Fault Refusal) (gid : Nat) (e : QEntry) (code : Nat) (t4 t5 : W64)
    (vas : List (Nat × W64)) (bad : W64 → Prop) : Prop :=
  ∃ m x, o = .next (s.raiseC gid { code := code, lanes := m, t3 := x, t4 := t4, t5 := t5 } e) ∧
    (∀ l, l < 32 → (m.getLsbD l = true ↔ ∃ y ∈ vas, y.1 = l ∧ bad y.2)) ∧
    ∃ y ∈ vas, y.2 = x ∧ bad x ∧ ∀ z ∈ vas, bad z.2 → y.1 ≤ z.1

/-- A hold-back has taken entries at its end. -/
def HoldGrown (old new : List HoldEntry) (es : List HoldEntry) : Prop :=
  ∃ q, new = old ++ q ∧ q.map (fun h => { h with serial := 0, issued := 0 }) = es.map (fun h => { h with serial := 0, issued := 0 })

/-- Memory and old values after atomics of the lanes, each lane seeing those before it (R261). -/
def AtomicLanes (pop : Nat → Bool) (op : Nat) (arg : Nat → Nat × Nat) :
    List LaneOk → (Nat → Byte) → (Nat → Byte) → List (Nat × W64) → Prop
  | [], m, m2, r => (∀ a, m2 a = m a) ∧ r = []
  | x :: l, m, m2, r =>
    let old := leNat ((List.range 4).map (fun i => m (x.home + i)))
    ∃ m1 r1, r = (x.lane, BitVec.ofNat 64 old) :: r1 ∧ AtomicLanes pop op arg l m1 m2 r1 ∧
      match amoNew op 32 old (arg x.lane).1 (arg x.lane).2 with
      | none => ∀ a, m1 a = m a
      | some y =>
        (∀ p ∈ x.home :: x.pls, ∀ i, i < 4 → pop (p / 128 * 128 + x.va.toNat % 128 + i) = true →
          m1 (p / 128 * 128 + x.va.toNat % 128 + i) = byteOf y i) ∧
        ∀ a, ¬ StoredAt (x.home :: x.pls) x.va 4 a → m1 a = m a

/-- Value of an atomic in a lane, and its compare value: CAS compares with d and stores d + 1 (R261, R268). -/
def atomicArgs (g : Group) (fs : List (BitVec 7)) (p : BitVec 4) (l : Nat) : Nat × Nat :=
  if p = 9 then ((operand g fs 2 l).toNat, (operand g fs 1 l).toNat) else ((operand g fs 1 l).toNat, 0)

/-- Sources of an atomic: its address, and d, with d + 1 for CAS. -/
def atomicSources (b d : BitVec 7) (p : BitVec 4) : List (BitVec 7) := if p = 9 then [b, d, d + 1] else [b, d]

/-- Offsets of the lanes of a scratchpad word (R264). -/
def laneOffs (g : Group) (fs : List (BitVec 7)) : List (Nat × W64) :=
  (runLanes g).map (fun l => (l, (operand g fs 0 l + operand g fs 1 l).zeroExtend 64))

/-- Every lane's offset lies in the share, aligned to 2^z bytes. -/
def OffsOk (t : Team) (z : Nat) (offs : List (Nat × W64)) : Prop :=
  ∀ x ∈ offs, x.2.toNat < t.share ∧ x.2.toNat % 2 ^ z = 0

/-- A word on a share has issued: its team's share has become that of t1, and beside its group nothing else has changed that
software sees; older loads of the group may have been performed before it (R225). -/
def ShareWord (s : State) (o : Host.Outcome State Fault Refusal) (gid : Nat) (e : QEntry) (n : Nat) (q : Pending)
    (t1 : Team) : Prop :=
  ∃ v, LongIssued s v o gid e n q ∧ Unseen s { v with groups := s.groups, teams := s.teams } ∧ v.team (gid / 16) = t1 ∧
    ∀ j, j ≠ gid / 16 → v.team j = s.team j

/-- A 64-bit data operand of a scratchpad or global store: the pair, or two constants (R41, R42). -/
def dataPair (d : BitVec 7) : List (BitVec 7) := if d = 127 then [127, 127] else [d, d + 1]

/-! ## The matrix unit (R280 to R303) -/

/-- An M-word has completed: its effect has made the team t1, and then the word is consumed and takes its MSN; of other
teams, of groups, of memory and of hold-backs nothing has changed (R73, R280). -/
def MDone (s t : State) (tid : Nat) (t1 : Team) : Prop :=
  t.team tid = { t1 with mq := consumeHead t1.mq, msn := t1.msn + 1, mDone := t1.mDone + 1 } ∧
    (∀ j, j ≠ tid → t.team j = s.team j) ∧ t.groups = s.groups ∧ t.ctxs = s.ctxs ∧ SameBytes s t ∧
    ∀ c, (t.core c).hold = (s.core c).hold

/-- n further core clocks of the matrix unit of a core. -/
def matClocks : Nat → Nat → State → State
  | 0, _, s => s
  | n + 1, c, s => matClocks n c (s.matClock c)

/-- An M-word of some core clocks has had its first of them: it stands unconsumed, with its MSN not yet taken, until the last of
them, and has then completed with the team t1 (R280, R301; what it reads it has read at its start: assumption 27). -/
def MRuns (s t : State) (tid : Nat) (t1 : Team) (clocks : Nat) : Prop :=
  (t.core (tid / 4)).matJob.length + 1 = clocks ∧ (t.core (tid / 4)).served = tid % 4 ∧
    (∀ n, n + 1 < clocks → let u := matClocks n (tid / 4) t
      (u.team tid).mq = (s.team tid).mq ∧ (u.team tid).msn = (s.team tid).msn ∧ u.matBusy tid = true) ∧
    let u := matClocks (clocks - 1) (tid / 4) t
    u.matBusy tid = false ∧ MDone s u tid t1

/-- The M-word at turn raises an M-fault. -/
def RaisesM (s : State) (o : Host.Outcome State Fault Refusal) (tid : Nat) (e : QEntry) (code : Nat) (t3 t4 t5 : W64) : Prop :=
  o = .next (s.raiseM tid { code := code, t3 := t3, t4 := t4, t5 := t5 } e)

/-- An M-fault (R38, R70, R164, R165): the unit is held for the team at the word, which is neither consumed nor takes an MSN, and
its record, of kind 2 with the team's MSN, the provenance pc and the word, stands behind those of the team. -/
def MRaised (s t : State) (tid : Nat) (f : MFault) (e : QEntry) : Prop :=
  t = { s with teams := t.teams, snapTick := t.snapTick } ∧ (∀ j, j ≠ tid → t.team j = s.team j) ∧ SameBytes s t ∧
    ∃ r : TrapRec, t.team tid = { s.team tid with
        mHeld := some e, mCode := f.code, faults := (s.team tid).faults ++ [{ agent := .mat, trec := r }] } ∧
      r.t0.toNat = f.code % 65536 + 2 * 2 ^ 28 + (s.team tid).msn.toNat * 2 ^ 32 ∧ r.t1 = e.pc.zeroExtend 64 ∧ r.t2 = 0 ∧
      r.t3 = f.t3 ∧ r.t4 = f.t4 ∧ r.t5 = f.t5 ∧ r.t6 = 0 ∧ r.t7 = e.word.zeroExtend 64

/-- A handle is valid and names a slot (R49). -/
def HandleIs (t : Team) (h x : Nat) : Prop := (spGet t.ah h).getLsbD 15 = true ∧ (spGet t.ah h).toNat % 16 = x

/-- The number of a finite value, and 0 of another. -/
def FVal.number (x : FVal) : Rat := match x.ext with | .num v _ => v | _ => 0

/-- The integer nearest to a number, of two the even one (R94). -/
def NearestEven (x : Rat) (k : Int) : Prop :=
  (k : Rat) - 1 / 2 ≤ x ∧ x ≤ k + 1 / 2 ∧ (x = k - 1 / 2 ∨ x = k + 1 / 2 → k % 2 = 0)

/-- A product of a step (R105). -/
def ProductIs (sc : Option (Int × Int)) (a b p : FVal) : Prop :=
  match sc with
  | none => p.ext = .num 0 false
  | some (x, y) => if x = -128 ∨ y = -128 then p.ext = .num 0 false
    else match (a.ext.mul b.ext).1, p.ext with
      | .num v _, .num w _ => w = v * two (x + y)
      | .inf m, .inf n => m = n
      | .nan, .nan => True
      | _, _ => False

/-- Magnitude of a number. -/
def magnitude (x : Rat) : Rat := if x < 0 then -x else x

/-- The headroom test of an element fails at an exponent (R106). -/
def TightAt (e : Int) (x : Elem) (ps : List FVal) : Prop :=
  ∃ m, x = .fin m ∧ ((2 ^ 46 - 1 : Nat) : Rat) ≤ magnitude m + (ps.map (fun p => magnitude p.number)).sum / two e

/-- The class of an element after the non-finite products of a step (R109). -/
def ClassIs (x y : Elem) (ps : List FVal) : Prop :=
  let pos := x = .inf false ∨ .inf false ∈ ps
  let neg := x = .inf true ∨ .inf true ∈ ps
  let nan := x = .nan ∨ .nan ∈ ps ∨ (pos ∧ neg)
  (y = .nan ↔ nan) ∧ (y = .inf false ↔ pos ∧ ¬ nan) ∧ (y = .inf true ↔ neg ∧ ¬ nan)

/-- A k-step of a tile in exact arithmetic (R106 to R109): E is set at the first step with a product other than 0; the tile is
renormalised n times, or saturated once E cannot rise; each finite element takes its exact sum rounded once. -/
def MmaStepIs (t u : Tile) (ps : List (List FVal)) : Prop :=
  let live := ∃ l ∈ ps, ∃ p ∈ l, p.number ≠ 0
  ∃ (e : Int) (n : Nat) (els : Nat → List Elem),
    let tight (j : Nat) := ∃ (i : Nat) (x : Elem) (l : List FVal), (els j)[i]? = some x ∧ ps[i]? = some l ∧ TightAt (e + 8 * j) x l
    let stop := 1023 < e + 8 * n + 8
    let saturated := u.eset = true ∧ t.ovf = false ∧ tight n
    (t.eset = true ∨ ¬ live → e = t.e) ∧
    (t.eset = false → live → ∃ top : Int, e = max (top - 30) (-1024) ∧ (∀ l ∈ ps, ∀ p ∈ l, magnitude p.number < two (top + 1)) ∧
      ∃ l ∈ ps, ∃ p ∈ l, two top ≤ magnitude p.number) ∧
    (u.eset = true ↔ t.eset = true ∨ live) ∧ els 0 = t.els ∧ (t.ovf = true ∨ u.eset = false → n = 0) ∧
    (∀ j, j < n → tight j ∧ e + 8 * j + 8 ≤ 1023 ∧ (els (j + 1)).length = (els j).length ∧ ∀ (i : Nat) (x : Elem),
      (els j)[i]? = some x → ∃ y, (els (j + 1))[i]? = some y ∧ match x with
        | .fin m => ∃ k, y = .fin k ∧ NearestEven ((m : Rat) / 256) k
        | _ => y = x) ∧
    (saturated → stop) ∧ (u.ovf = true ↔ t.ovf = true ∨ saturated) ∧ u.e = e + 8 * n ∧ u.renorms = t.renorms + n ∧
    u.els.length = t.els.length ∧
    ∀ (i : Nat) (x : Elem) (l : List FVal), (els n)[i]? = some x → ps[i]? = some l → ∃ y, u.els[i]? = some y ∧ ClassIs x y l ∧
      ∀ m k, x = .fin m → y = .fin k → ∃ q : Int,
        (if u.eset = true then NearestEven ((l.map FVal.number).sum / two u.e) q else q = 0) ∧
        let m1 : Int := if u.ovf = true ∧ t.ovf = false then (if 0 ≤ m then 2 ^ 47 - 1 else -(2 ^ 47 - 1)) else m
        k = if u.ovf = true then max (-(2 ^ 47 - 1)) (min (2 ^ 47 - 1) (m1 + q)) else m1 + q

/-- What MLOADA makes of the values of a tile (R292). -/
def LoadIs (x y : Slot) (vs : Nat → Nat → FVal) : Prop :=
  let live := ∃ i j, i < 64 ∧ j < 64 ∧ (vs i j).number ≠ 0
  y = { x with elems := y.elems, e := y.e, eset := y.eset, ovf := false, renorms := 0, t := 0x3F800000#32 } ∧
    (y.eset = true ↔ live) ∧
    (live → ∃ top : Int, y.e = max (top - 30) (-1024) ∧ (∀ i j, i < 64 → j < 64 → magnitude (vs i j).number < two (top + 1)) ∧
      ∃ i j, i < 64 ∧ j < 64 ∧ two top ≤ magnitude (vs i j).number) ∧
    ∀ i j, i < 64 → j < 64 → match vs i j with
      | .nan => y.elem i j = .nan
      | .inf n => y.elem i j = .inf n
      | .fin n m g => ∃ k, y.elem i j = .fin k ∧
          if y.eset = true then NearestEven ((FVal.fin n m g).number / two y.e) k else k = 0

/-- What MOUT makes of an element, its tile scale being s (R110). -/
def OutIs (x : Slot) (i j : Nat) (f : Fmt) (mode : Nat) (sat : Bool) (y : Nat) : Prop :=
  let s := (fp32.val x.t.toNat).ext
  let into (v : Ext) : Prop := ∃ fl, RoundsTo f mode sat (v, false) (y, fl)
  match x.elem i j, s with
  | .nan, _ => y = f.nan
  | _, .nan => y = f.nan
  | .inf n, .num v m => if v = 0 then y = f.nan else into (.inf (n != m))
  | .inf n, .inf m => into (.inf (n != m))
  | .fin k, .inf m => if k = 0 then y = f.nan else into (.inf (decide (k < 0) != m))
  | .fin k, .num v _ =>
    let z : Rat := k * two (if x.eset = true then x.e else 0) * v
    if z = 0 then y = 0 else into (.num z (decide (z < 0)))

/-- An MMA or MMAG that reads some rows of A passes every check of R287. -/
def MmaReady (t : Team) (a : Desc) (gs : List MGroup) (n total rows : Nat) (new row col : Bool) (table : List Piece) : Prop :=
  let ps := table ++ a.pieces rows row ++ gs.flatMap (fun g => g.b.pieces (n * g.kf a) col)
  (∀ g ∈ gs, (t.handle g.h).isSome = true ∨ new = true) ∧
    (gs.filter (fun g => (t.handle g.h).isNone)).length ≤ t.free.length ∧
    (new = false → ∀ g ∈ gs, ∀ x, HandleIs t g.h x → (t.slot x).inregion = true) ∧
    a.operandOk = true ∧ a.rows ≤ 64 ∧ (row = true → a.smode = 1) ∧ total ≤ a.rows ∧
    (∀ g ∈ gs, g.b.operandOk = true ∧ n * g.kf a ≤ a.cols ∧ n * g.kf a ≤ g.b.rows ∧ g.b.cols ≤ 64 ∧ (col = true → g.b.smode = 2)) ∧
    (∀ p ∈ ps, 0 ≤ p.off ∧ p.off + p.n ≤ (t.share : Int)) ∧
    (∀ d ∈ a :: gs.map (fun g => g.b), d.hdr = true → d.found t = d.header) ∧
    (∀ r, r < rows → (a.values t r).isSome = true) ∧ (∀ g ∈ gs, ∀ r, r < n * g.kf a → (g.b.values t r).isSome = true) ∧
    t.poisonIn ps = none

/-- A slot after the k-steps of a group of an MMA or MMAG (R288 to R290). -/
def MGroup.steps (t : Team) (a : Desc) (n : Nat) (row col : Bool) (g : MGroup) (x : Slot) : Slot :=
  let kf := g.kf a
  (List.range n).foldl (fun y i => (y.step (stepRows (a.load t a.rows).1 g.lo g.c (a.scales t row) i kf)
    (stepCols (g.b.load t (n * kf)).1 g.b.cols (g.b.scales t col) i kf)).1) x

/-- The slots after an MMA or MMAG: each group's slot, re-initialised first with NEW, has taken its products, and no other has
changed (R285 to R290). -/
def MmaSlots (t t1 : Team) (a : Desc) (gs : List MGroup) (n : Nat) (new row col : Bool) : Prop :=
  t1 = { t with ah := t1.ah, free := t1.free, slotState := t1.slotState } ∧
    (∀ h, (∀ g ∈ gs, g.h ≠ h) → spGet t1.ah h = spGet t.ah h) ∧
    (∀ g ∈ gs, ∃ x, HandleIs t1 g.h x ∧ (∀ y, HandleIs t g.h y → x = y) ∧
      t1.slot x = g.steps t a n row col (if new then {} else t.slot x)) ∧
    ∀ x, (∀ g ∈ gs, ¬ HandleIs t1 g.h x) → t1.slot x = t.slot x

/-- Core clocks of an MMA or MMAG of n k-steps (R301): for each of its groups that is not empty a clock for each k-step and the
Q4x penalty X of its own rows of A and rows of B (R302; assumption 114), and 4 at the end. -/
def mmaClocks (t : Team) (a : Desc) (gs : List MGroup) (n : Nat) : Nat :=
  (gs.map (fun g => n + penaltyA (((a.load t a.rows).2.drop g.lo).take g.c) a.cols +
    penaltyB (g.b.load t (n * g.kf a)).2 g.b.cols)).sum + 4

/-- Handles name different slots, and none of the free list (R285). -/
def SlotsApart (t : Team) (gs : List MGroup) : Prop :=
  (gs.map (·.h)).Nodup ∧ t.free.Nodup ∧ (∀ x ∈ t.free, x < 16) ∧ (∀ g ∈ gs, g.h < 16) ∧
    (∀ h k x, HandleIs t h x → HandleIs t k x → h = k) ∧ ∀ h x, HandleIs t h x → x ∉ t.free

/-! ## Packets (R304 to R336) -/

/-- Length in units, header bits that are not reserved, and the check of reserved body fields of every packet (R325, R327). -/
def packetShape (i : Instr) (p : Packet) : Option (Nat × BitVec 48 × Bool) :=
  let h := p.hdr.toNat
  match i with
  | .pNopPacket => some (p.len.toNat, 0, true)
  | .pFetchfence | .pDrain | .pEndloop => some (1, 0, true)
  | .pSetprio => some (1, 7, true)
  | .pLoop => some (1, 0xFFFF, true)
  | .pCallib => some (3, 0, decide ((p.body.getD 1 0).toNat < 2 ^ 32))
  | .pPred | .pWaitmem => some (4, 0xF, true)
  | .pSignalWrite | .pSignalAdd => some (3, 0xFF, true)
  | .pTimestamp => some (2, 0x38, true)
  | .pCopyPacket => some (4, 3, decide ((p.body.getD 2 0).toNat < 2 ^ 32))
  | .pLaunch | .pLaunchi => some (15 + 2 * (h % 16 + h / 16 % 16 + h / 256 % 16), 0xFFF, launchReserved p)
  | _ => none

/-- A packet stands whole at a lane's turn, passes the checks 2 to 4 of R325, and is not skipped. -/
def PTurn (s : State) (i l : Nat) (p : Packet) (x : Instr) (n : Nat) : Prop :=
  s.cur = .lane i l p ∧ (∃ m, packetShape x p = some (n, m, true) ∧ p.hdr &&& ~~~m = 0) ∧ p.len.toNat = n ∧ n ≠ 0 ∧
    ((s.laneQueue i l).level ≠ 0 → n ≤ (s.laneQueue i l).lv.left) ∧ n ≤ (s.window i l).length ∧
      (∀ u ∈ (s.window i l).take n, u.2 = 0) ∧
    (s.lane i l).skip = false

/-- A packet's queue error (R307). -/
def PError (s : State) (o : Host.Outcome State Fault Refusal) (i l code : Nat) : Prop := o = .next (s.packetError i l code)

/-- A queue has stopped with an error (R307): its descriptor in memory has state 3 and the error field, Pewter holds it and its lane
no more, QERRS has counted it, and a FAULT record of kind 3 goes to the I/O die's fault queue under a permit of Pewter's. -/
def QueueStopped (s t : State) (i l code : Nat) (off : W32) (addr : W64) : Prop :=
  let q := (s.lane i l).q
  let field : W64 := BitVec.ofNat 64 (code * 2 ^ 56 + off.toNat)
  let d := s.descAddr i q
  kvFind (t.pewter i).lanes l = none ∧ kvFind (t.pewter i).queues q = none ∧ (t.pewter i).qerrs = (s.pewter i).qerrs + 1 ∧
    (∀ j, j ≠ q → kvFind (t.pewter i).queues j = kvFind (s.pewter i).queues j) ∧
    (∀ j, j ≠ l → ((kvFind (t.pewter i).lanes j).isSome ↔ (kvFind (s.pewter i).lanes j).isSome)) ∧
    (s.populated (d + 14) = true → t.byte (d + 14) = 3) ∧
    (∀ k, k < 8 → s.populated (d + 24 + k) = true → t.byte (d + 24 + k) = byteOf field.toNat k) ∧
    SameBytesBut s t (fun a => d ≤ a ∧ a < d + 128) ∧
    ∃ r : Rec2, t.records = s.records ++ [r] ∧ r.kind = 1 ∧ r.die = 8 + i ∧ r.permit = .pewter i ∧ r.src = .nobody ∧
      r.body = { t0 := BitVec.ofNat 64 (3 * 2 ^ 28 + q), t4 := field, t5 := addr }

/-- Of the Pewters nothing has changed but counters of events and the lanes that a write has woken from a WAITMEM (R332). -/
def PewtersStand (s t : State) : Prop :=
  ∀ j, t.pewter j = { s.pewter j with
      pmc := (t.pewter j).pmc, pms := (t.pewter j).pms, lanes := (t.pewter j).lanes } ∧
    ∀ m, match kvFind (s.pewter j).lanes m with
      | none => kvFind (t.pewter j).lanes m = none
      | some k => kvFind (t.pewter j).lanes m = some k ∨ ∃ n c w, k.wait = .waitmem n c w ∧
          kvFind (t.pewter j).lanes m = some { k with wait := .waitmem n c true }

/-- Bytes of a packet as a number, its header being byte 0. -/
def packetBytes (p : Packet) (o n : Nat) : Nat :=
  ((List.range n).map (fun k => (p.body.getD ((o + k) / 8 - 1) 0).toNat / 256 ^ ((o + k) % 8) % 256 * 256 ^ k)).sum

/-- The fields of a LAUNCH body that have a range or an alignment, in ascending order: offset, size, whether a value lies in the
range, and the alignment (R200, R335 to R337). Gang shape and affinity function are judged later (R336). -/
def launchRanges (p : Packet) (ind : Bool) : List (Nat × Nat × (Nat → Bool) × Nat) :=
  let between (lo hi : Nat) (v : Nat) : Bool := decide (lo ≤ v) && decide (v ≤ hi)
  let code (v : Nat) : Bool := decide (v < 2 ^ 47) || decide (2 ^ 64 - 2 ^ 47 ≤ v)
  let gang := packetBytes p 0x2F 1
  [(0x08, 8, code, 4), (0x10, 8, fun v => if ind then v != 0 && code v else v == 0, if ind then 4 else 1),
    (0x20, 2, between 1 65535, 1), (0x22, 2, between 1 65535, 1), (0x24, 2, between 1 65535, 1),
    (0x28, 1, between 0 31, 1), (0x29, 1, between 0 31, 1), (0x2A, 1, between 1 32, 1), (0x2B, 1, between 1 32, 1),
    (0x2C, 1, between 1 16, 1), (0x2D, 1, between 0 16, 1), (0x2E, 1, between 0 32, 1),
    (0x30, 4, fun v => v % 256 == 0 && between 0 786432 v, 1),
    (0x34, 4, fun v => v % 4096 == 0 && between 0 131072 v && decide (2 * v ≤ packetBytes p 0x30 4) && (v == 0 || gang != 0), 1),
    (0x50, 8, fun _ => true, 65536), (0x58, 8, fun _ => true, 8), (0x68, 1, between 2 4, 1)]

/-- The code of check 1 of R336, if it fails: the counts of the header, then each field's range and its alignment. -/
def launchCode (p : Packet) (ind : Bool) : Option Nat :=
  let h := p.hdr.toNat
  if 8 < h % 16 ∨ 8 < h / 16 % 16 ∨ 8 < h / 256 % 16 then some 0x18
  else (launchRanges p ind).findSome? (fun r =>
    let v := packetBytes p r.1 r.2.1
    if r.2.2.1 v = false then some 0x18 else if v % r.2.2.2 ≠ 0 then some 0x19 else none)

/-- The code of checks 2 and 3 of R336, if one fails: the rectangle against the mesh and its absent cores, then the gang shape, the
affinity function, the team count and the gang's place (R25, R317 to R319). -/
def LaunchRejected (s : State) (p : Packet) (c : Option Nat) : Prop :=
  let v (o n : Nat) : Nat := packetBytes p o n
  let gang := v 0x2F 1
  let gw := 2 ^ (gang % 16)
  let gh := 2 ^ (gang / 16)
  let mesh := v 0x28 1 + v 0x2A 1 ≤ 32 ∧ v 0x29 1 + v 0x2B 1 ≤ 32 ∧ ∀ k, k < 1024 → s.absent k = true →
    ¬ (v 0x28 1 ≤ coreX k ∧ coreX k < v 0x28 1 + v 0x2A 1 ∧ v 0x29 1 ≤ coreY k ∧ coreY k < v 0x29 1 + v 0x2B 1)
  let shape := gang % 16 ≤ 5 ∧ gang / 16 ≤ 5 ∧ v 0x38 1 ≤ 2 ∧ v 0x20 2 * v 0x22 2 * v 0x24 2 % (gw * gh) = 0 ∧
    (gang ≠ 0 → v 0x28 1 % gw = 0 ∧ v 0x2A 1 % gw = 0 ∧ v 0x29 1 % gh = 0 ∧ v 0x2B 1 % gh = 0)
  (¬ mesh → c = some 0x40) ∧ (mesh → ¬ shape → c = some 0x41) ∧ (mesh → shape → c = none)

/-- A packet has made its writes, in a state u: the lane goes past it, or, where one leaves the device, waits until it has left
quarantine (R312, R331). -/
def PWrote (u : State) (o : Host.Outcome State Fault Refusal) (i l n : Nat) (pls : List Nat) : Prop :=
  o = .next (if pls.any isFar then u.setLane i l { u.lane i l with wait := .sent n } else u.passPacket i l n false)

/-- The packet has completed with its effect made, in a state u: the lane goes past it (R310). -/
def PDone (u : State) (o : Host.Outcome State Fault Refusal) (i l n : Nat) (skip : Bool) : Prop :=
  o = .next (u.passPacket i l n skip)

/-- A lane's access to an address is translated: its places, home place first, and mode. -/
def PFound (s : State) (i l : Nat) (va : W64) (n : Need) (u : State) (pls : List Nat) (home : Nat) (pk : PageKind) : Prop :=
  ∃ e z, s.iodXlate i (s.laneQueue i l).asid va n = (u, .ok e z) ∧ pls = placesOf (u.die 0).devnum.toNat e z va ∧
    home = homePlace (u.die 0).devnum.toNat e z va ∧ pk = pteKind e ∧ (n.r = true → u.hostWaits pls = false)

/-! ## Events -/

/-- An event's condition and effect on the module as a whole: boot, registers, host, links, power and wear (R7, R26, R51,
R190, R207, R210, R218, R237, R382, R402, R404, R405, R407, R408, R411 to R418, R424). -/
def moduleEvent (i : Instr) (x : EvArg) (s : State) : Option (Prop × State) :=
  let word : Prop := x.size = .aligned64
  let busy (n : Nat) : Prop := s.smify.stat = 0 ∧ s.smify.cmd = n
  let core (f : Core → Core) : State := s.setCore x.a (f (s.core x.a))
  let port (t : State) (f : Port → Port) : State := { t with ports := kvSet t.ports x.a (f (t.port x.a)) }
  let woken (n : Nat) : State := { s with links := kvSet s.links n ((s.link n).wake s.clk) }
  let viaLink (n : Nat) (f : State → State) : State :=
    if (s.link n).off = true ∧ (s.link n).idleSince ≠ s.clk ∨ (s.link n).off = false ∧ s.clk < (s.link n).wakeAt.getD 0
    then woken n else f (woken n)
  let flit : State :=
    let l := (s.link x.a).wake s.clk
    let u := (port (woken x.a) (fun p => p.receive x.bytes s.clk)).freeSources x.a
    if l.up s.clk = true ∧ l.held = [] then
      (if (u.port x.a).received.length = (s.port x.a).received.length then u
       else u.taken x.a ((x.bytes.drop 8).take 244))
    else { s with links := kvSet s.links x.a { l with held := l.held ++ [x.bytes] } }
  let iod (f : Iod → Iod) : State := { s with iods := kvSet s.iods x.a (f (s.iod x.a)) }
  match i with
  | .eColdReset => some (True, s.coldReset)
  | .eBootStageVerify =>
    let n := s.smify.stage + 1
    some (s.released = false ∧ n ≤ 3 ∧ (s.die 8).bootst = 0, match bootCause n x.bytes with
      | some c => s.setDie 8 { s.die 8 with bootst := BitVec.ofNat 8 (c * 16 + n) }
      | none => let u := if n = 2 then s.setDevnum s.smify.configNum else s
        { u with smify := { u.smify with
          stage := n, hashes := u.smify.hashes ++ [Config.sha256 x.bytes]
          versions := u.smify.versions ++ [BitVec.ofNat 32 (leNat ((x.bytes.drop 8).take 4))] } })
  | .eModuleRelease => some (s.smify.stage = 3 ∧ s.released = false, { s with released := true, clk := 0 })
  | .eStrike => some (True,
      let u := core (fun k => { k with strikes := satInc k.strikes, strikeT := BitVec.ofNat 64 (s.clk * 5 / 8) })
      let d := coreDie x.a
      (((u.setDie d { s.die d with dstrikes := satInc (s.die d).dstrikes }).fire d 5).tally
        (18 + d * 16 + coreCluster x.a)).strikeTeams x.a)
  | .eSliceStrike => some (True,
      let again (e : Egress) : Bool := !e.left && e.slice == x.a * 128 + x.b && decide (s.clk ≤ e.at_ + 96)
      let d := s.die x.a
      (({ s with
        iods := [0, 1].foldl (fun l j =>
          let k : Iod := kvGet {} l j
          if k.egress.all (fun e => !again e) then l
          else kvSet l j { k with egress := k.egress.filter (fun e => !again e) ++
            (k.egress.filter again).map (fun (e : Egress) => ({ e with at_ := s.clk } : Egress)) }) s.iods
        dies := kvSet s.dies x.a { d with dstrikes := satInc d.dstrikes, sliceStrikes := d.sliceStrikes + 1 } }).fire x.a
          5).tally (146 + x.a % 8))
  | .eDieFailure => some (x.a < 8, s.failDie x.a)
  | .eSnaptrig => some (word, s.snapWrite x.a x.val)
  | .eSnapshotLatch =>
    let at_ := s.snapTick.getD (0, [])
    some (∃ y, s.snapTick = some y ∧ y.1 ≤ s.clk * 5 / 8, { s with
      snapTick := none
      cores := kvMap (fun c k => if k.snapArmed = true ∧ (∀ n, k.snapAt = some n → n ∉ at_.2) then { k with
        snapRegs := snapOffsets.map (s.coreRead c), snapProv := s.provenance c, snapLatched := true, snapArmed := false
        snapTime := BitVec.ofNat 64 at_.1 } else k) s.cores })
  | .eAttestationReport => some (busy 1,
      s.mailDone (s.report ++ Config.pssSign (Config.sha256 s.report) ++ Config.identity))
  | .eReadLifetimeCounters => some (busy 2, s.mailDone s.smify.lifeBytes)
  | .eSnapshotTriggerCommand => some (busy 3, (s.mailDone []).trigger)
  | .eRegisterWrite =>
    let q := (x.b - 0x100000000) / 0x10000
    some (word ∨ (8 ≤ x.a ∧ 0x100000000 ≤ x.b ∧ q / 2048 = x.a - 8 ∧ x.b % 0x10000 < 8),
      if x.size = .aligned64 then s.mmioWrite x.a x.b x.val else s.kick (x.a - 8) q x.val .other)
  | .eLifetimeCounterUpdate =>
    let m : Smify := { s.smify with
      due := [], life := s.smify.due.foldl (fun l e => spSet l e.1 (satAdd (spGet l e.1) e.2.toNat)) s.smify.life }
    let n : Smify := ((m.stay 0 (x.a % 8)).stay 1 (x.b % 8)).stay 2 (x.c % 8)
    some (s.smify.updated + 1600000000 ≤ s.clk, { s with smify := { n with updated := s.clk } })
  | .eDramScrub =>
    let sec := x.val.toNat / 64
    let d := s.die x.a
    let at_ := (if x.a < 8 then x.a * 2 ^ 37 else 2 ^ 40 * (x.a - 7)) + d.scrubbed * 64
    let u := s.correct at_
    let n := d.dmemcap.toNat / 64
    some (if x.flag then s.populated x.val.toNat = true ∧ 1 ≤ x.b ∧ x.b ≤ 64
        else n ≠ 0 ∧ d.scrubbed ≠ s.clk * n / 138240000000000 % n,
      if x.flag then { s with errs := kvSet s.errs sec (min 64 (kvGet 0 s.errs sec + x.b)) }
      else u.setDie x.a { u.die x.a with scrubbed := ((u.die x.a).scrubbed + 1) % max 1 ((u.die x.a).dmemcap.toNat / 64) })
  | .eEgressQuarantineLeave => some (∃ e, (s.iod x.a).egress[x.b]? = some e ∧ (s.iod x.a).mayLeave e x.b s.clk = true ∧
    s.relFirst e = true ∧
      (e.route < 16 ∨ (s.port (e.route - 16)).window.length < 512),
      let e := (s.iod x.a).egress.getD x.b {}
      if e.route < 16 then s.egressLeave x.a x.b e else viaLink (e.route - 16) (fun t => t.egressLeave x.a x.b e))
  | .eInboundPostedWrite => some (True, if x.c = 0
      then s.inArrive x.a { off := x.val.toNat, data := x.bytes, len := x.bytes.length, relaxed := x.flag }
      else s.inGo x.a x.b x.val.toNat)
  | .eInboundRead => some (True, if x.c = 0 then s.inArrive x.a { off := x.val.toNat, len := x.b, isRead := true }
      else s.inGo x.a x.b x.val.toNat)
  | .eInboundWriteAck => some (∃ r, s.inReq x.a x.b = some r ∧ r.isRead = false ∧ r.lines ≤ r.done.length, s.dropIn x.a x.b)
  | .eInboundHoldTimeout => some (∃ r n, s.inReq x.a x.b = some r ∧ r.held = some n ∧ n + 16000 ≤ s.clk,
      s.inFail x.a ((s.inReq x.a x.b).getD {}))
  | .eHostAtsInvalidation => some (True, iod (fun k => ({ k with
      hostAts := natDel k.hostAts x.val.toNat, invals := k.invals ++ [(x.val.toNat, s.opSerial)] } : Iod).endInvals))
  | .ePriResponse =>
    let u := iod (fun k => { k with
      pri := natDel k.pri x.val.toNat
      hostAts := natAdd (if k.hostAts.length < 8191 then k.hostAts else k.hostAts.drop 1) x.val.toNat
      egress := k.egress.map (fun e => if e.route < 2 ∧ e.addr.toNat / 4096 = x.val.toNat then { e with ready := true } else e)
      linkQ := k.linkQ.map (fun e => if e.route < 2 ∧ e.addr.toNat / 4096 = x.val.toNat then { e with ready := true } else e) })
    some ((s.iod x.a).pri.contains x.val.toNat = true ∧ x.flag = true,
      u.setDie (8 + x.a) { u.die (8 + x.a) with ats := (u.die (8 + x.a)).ats.take (8192 - (u.iod x.a).hostAts.length) })
  | .eHoluskDataFlit => some ((flitHead x.bytes).1 ≠ 1, flit)
  | .eHoluskAck => some ((flitHead x.bytes).1 = 1, flit)
  | .eHoluskReplayTimeout => some ((s.port x.a).window ≠ [] ∧ (s.port x.a).lastAdvance + 3200 ≤ s.clk,
      viaLink x.a (fun t => port (t.readSlots x.a) (fun p => p.replay (((s.port x.a).window.head?).map (·.seq) |>.getD 0) s.clk)))
  | .eAudit => some ((s.port x.a).audits < (s.port x.a).sent / 4096, viaLink x.a (fun t => (port (t.readSlots x.a) (fun p =>
      ({ p.emit 2 0 [] with audits := p.audits + 1 } : Port).ack p.acked s.clk)).freeSources x.a))
  | .eResync =>
    let lost := (s.port x.a).window.find? (fun y => !y.good0 && !y.good1)
    some (lost.isSome = true ∧ (s.port x.a).resync = none, viaLink x.a (fun t => (port t (fun p =>
      { p.emit 3 ((lost.map (·.seq)).getD 0) [] with
        resync := lost.map (·.seq), resyncs := p.resyncs + 1 })).tally 158))
  | .eLinkPowerDown => some ((s.link x.a).off = false ∧
      (s.link x.a).idleSince + (if (s.link x.a).rewait then 1024 else 4096) ≤ s.clk,
      { s with links := kvSet s.links x.a { off := true, idleSince := s.clk, held := (s.link x.a).held } })
  | .eLinkWake =>
    let l := s.link x.a
    some (True, ({ s with links := kvSet s.links x.a (
      if l.off = true then
        (if l.idleSince = s.clk then { l with off := false, wakeAt := none, rewait := true }
         else { l with off := false, wakeAt := some (s.clk + 320), idleSince := s.clk + 320, rewait := false })
      else if s.clk < l.wakeAt.getD 0 then l
      else { l with wakeAt := none, idleSince := s.clk, rewait := false }) } : State).takeHeld x.a)
  | .eTombacSequence => some (True, if x.flag then { s with sends := s.sends ++ [(0, s.clk, Message.ofBytes x.bytes)] }
      else if x.c = 0 then s.sequence else s.sendOut)
  | .eIssueGating =>
    some (x.b < 8, s.setDie x.a { s.die x.a with throt := BitVec.ofNat 3 x.b })
  | .eClockStop => some (True,
      core (fun k => { k with clockStopped := true, syncErr := BitVec.ofNat 32 (min x.b (2 ^ 32 - 1)) }))
  | .eClockResume => some ((s.core x.a).clockStopped = true ∨ 250 < max (s.core x.a).syncErr.toNat x.b,
      { core (fun k => { k with clockStopped := false, leases := [], syncErr := BitVec.ofNat 32 (min x.b (2 ^ 32 - 1)) })
        with leases := s.leases.filter (fun l => l.2.1 != x.a) })
  | _ => none

/-- An event's condition and effect on queues, lanes, launches and their placement, and on records (R173, R174, R306 to R319,
R322, R325, R332, R338, R356, R457). -/
def queueEvent (i : Instr) (x : EvArg) (s : State) : Option (Prop × State) :=
  let l := s.launch x.a
  let lane := s.lane x.a x.b
  let freeLane := (List.range 64).find? (fun k => (kvFind (s.pewter x.a).lanes k).isNone)
  match i with
  | .eKick => some (x.a < 4096, s.kick (x.a / 2048) x.a x.val x.size)
  | .eQstopq => let q := x.val.toNat % 4096
    some (x.size = .aligned64 ∧ x.a < 2 ∧ q / 2048 = x.a, s.lateStop x.a q 0x0F 0 ((s.queue x.a q).unitVa 0))
  | .eFqrel => some (x.size = .aligned64, s.releaseEntry x.a (x.val.toNat % 256))
  | .eLaneBind => some ((s.nextQueue x.a).isSome = true ∧ freeLane.isSome = true ∧ (s.pewter x.a).qctl = true,
      s.bind x.a (freeLane.getD 0) ((s.nextQueue x.a).getD 0))
  | .eLaneWaitTimeout => some (s.mayUnbind x.a x.b = true ∧ s.laneReady x.a x.b = false ∧ lane.waitSince + 1600 ≤ s.clk ∧
      s.eligible x.a ≠ [], s.unbind x.a x.b)
  | .eLanePacketQuota => some (s.mayUnbind x.a x.b = true ∧ 1024 ≤ lane.parsed ∧
      (∃ e ∈ s.eligible x.a, (s.laneQueue x.a x.b).prio ≤ e.2.prio), s.unbind x.a x.b)
  | .eLanePassedOver => some (64 ≤ lane.passed, s.setLane x.a x.b { lane with overdue := true })
  | .ePacketFetch => some ((kvFind (s.pewter x.a).lanes x.b).isSome = true ∧ lane.wait = .none, s.fetchUnits x.a x.b 300)
  | .eLaneWaitEnd =>
    let ended := match lane.wait with
      | .drain => ¬ ∃ y ∈ s.launches, y.2.iod = x.a ∧ y.2.q = lane.q
      | .table_ _ => s.tableRoom x.a (s.laneQueue x.a x.b).asid = true
      | .copy n => (kvFind s.launches n).isNone = true
      | .sent _ => ∀ k ∈ [0, 1], ∀ e ∈ (s.iod k).egress ++ (s.iod k).linkQ, e.left = true ∨ e.unit ≠ 20480 + x.a * 64 + x.b
      | .egress | .host => True
      | _ => False
    let again := s.setLane x.a x.b { lane with wait := .none }
    some (ended, match lane.wait with
      | .drain => s.passPacket x.a x.b 1 false
      | .table_ p => again.enter x.a x.b p
      | .sent n => s.passPacket x.a x.b n false
      | .egress => if s.headType x.a x.b = 8 then again.signalWrite x.a x.b (packetOf (s.window x.a x.b))
        else again.stampWrite x.a x.b (packetOf (s.window x.a x.b))
      | .host => again
      | _ => s.passPacket x.a x.b 4 false)
  | .eWaitmemReread => some (∃ n c w, lane.wait = .waitmem n c w ∧ (w = true ∨ c + 1600 ≤ s.clk),
      (s.setLane x.a x.b { lane with wait := .none }).waitmem x.a x.b (packetOf (s.window x.a x.b)))
  | .eLaunchDispatch => some ((kvFind s.launches x.a).isSome = true ∧ l.stage = .table_ ∧ s.clear x.a = true,
      s.dispatchLaunch x.a)
  | .ePrologueStart =>
    let lid := (s.die x.a).prologues.headD 0
    some ((s.die x.a).prologues ≠ [] ∧ (s.die x.a).prologue = none ∧ (s.launch lid).stage = .atLead ∧
      (s.launch lid).prologue ≠ 0, s.startPrologue lid)
  | .eTeamDistribution => some (l.stage = .handout ∨ (l.stage = .atLead ∧ l.prologue = 0 ∧
      (s.die l.leadDie).prologues.head? = some x.a ∧ (s.die l.leadDie).prologue = none), s.handOut x.a)
  | .ePrologueRepeat => some (l.stage = .between ∧ (s.die l.leadDie).prologue = none,
      (s.setLaunch x.a { l with run := l.run + 1 }).startPrologue x.a)
  | .eCompletionSignal => some ((kvFind s.launches x.a).isSome = true ∧ ((l.stage = .signalSent ∧ s.launchOut x.a = true) ∨
      (l.stage = .signal ∧ l.cancelled = false ∧ s.launchDrained x.a = true)),
      if l.stage = .signalSent then s.leaveTable x.a else s.signal x.a)
  | .eTeamAdmission =>
    let w := (s.nextWaiting x.a x.b).getD {}
    let c := (s.pickCore x.a w).getD 0
    some ((s.nextWaiting x.a x.b).isSome = true ∧ w.swapped = none ∧ (s.pickCore x.a w).isSome = true,
      (s.setDie x.a { s.die x.a with pending := (s.die x.a).pending.erase w }).admitTeam w.lid w.num w.order c none 0)
  | .eGangAdmission =>
    let g := s.gang x.a
    let tids := g.cores.map (fun c => c * 4 + (([0, 1, 2, 3].filter (fun k => !s.hasTeam (c * 4 + k))).headD 0))
    some ((kvFind s.gangs x.a).isSome = true ∧ g.waiting = true ∧
        (∀ c ∈ g.cores, s.fits c x.a g.order g.prio (s.launch g.lid).needs = true),
      g.cores.zipIdx.foldl (fun a c => a.admitTeam g.lid (g.first + c.2) g.order c.1 (some x.a) c.2)
        (s.updGang x.a (fun g => { g with waiting := false, tids := tids })))
  | .eGangWaitExpiry => some ((s.gang x.a).since + 102400 ≤ s.clk, s.updGang x.a (fun g => { g with expired := g.waiting }))
  | .eFaultRecordWrite => some (∃ r, s.records[x.a]? = some r ∧ r.wait = 0, s.tryRecord x.a (s.records.getD x.a {}))
  | .ePermitBackoffRetry => some (∃ r, s.records[x.a]? = some r ∧ r.wait ≠ 0 ∧ r.nextTry ≤ s.clk,
      s.tryRecord x.a (s.records.getD x.a {}))
  | _ => none

/-- An event's condition and effect on teams, contexts and groups (R131, R164, R167, R171, R178 to R184, R217, R249, R267,
R270, R271, R282, R321, R350, R379 to R382, R398). -/
def teamEvent (i : Instr) (x : EvArg) (s : State) : Option (Prop × State) :=
  let c := s.ctx x.a
  let t := s.team x.a
  let g := s.grp x.a
  let now := s.clk * 5 / 8
  let late : Prop := c.deadline ≠ 0 ∧ c.deadline.toNat ≤ now
  let ready : State := s.setCtx x.a { c with wait := .ready }
  match i with
  | .eHoldBackLeave => some ((s.core x.a).hold ≠ [], if s.mayLeave x.a = true then s.leave x.a
      else s.recall x.a (((s.core x.a).hold.headD {}).lines))
  | .eTrapDelivery =>
    let v := s.takePended x.a
    let u := if x.a < 4096 ∧ v.hasTeam x.a = true then v.takeFault x.a else v
    some (True, if x.a < 4096 ∧ u.hasTeam x.a = false then u else u.deliver x.a)
  | .eWatchdogExpiry => some (∃ n, c.watch = some n ∧ x.a < 4096 ∧ s.hasTeam x.a = true ∧ n ≤ now ∧ c.wait ≠ .reply ∧
      (c.wait = .held → c.pended.isSome = true) ∧ c.wait ≠ .watchdog,
      ((s.fire (ctxDie x.a) 0).setCtx x.a { c.setPark false with wait := .watchdog, watch := none, pended := none }).levelTwo x.a
        (recordOf { code := 0x12, t4 := c.tepc, t5 := BitVec.ofNat 64 (now - c.delivered) } c.pc 0))
  | .eTswapExpiry => some (∃ n, t.blockedSince = some n ∧ s.hasTeam x.a = true ∧ (s.core (x.a / 4)).tswap ≠ 0 ∧
      n + (s.core (x.a / 4)).tswap.toNat * 1600 ≤ s.clk ∧ s.parkBlocked x.a = true, s.askSwap x.a)
  | .eTmaxExpiry => some (s.hasTeam x.a = true ∧ (s.core (x.a / 4)).tmax ≠ 0 ∧
      (∃ y ∈ s.parkedAgents x.a (fun _ _ => true), s.parkedSince x.a y + (s.core (x.a / 4)).tmax.toNat * 1000 < now),
      s.askSwap x.a)
  | .eSwapOut =>
    let page (va : W64) := s.slotPage (x.a / 4) t.asid.toNat .store va
    let u := s.walkedAll (coreDie (x.a / 4)) t.asid.toNat t.slotPages
    some (s.mayPreempt x.a = true, match t.slotPages.find? (fun va => (page va).isNone) with
      | some va => (u.swapNote x.a 3 va).updTeam x.a (fun t => { t with life := .running, blockedSince := none })
      | none => u.swapOut x.a (t.slotPages.filterMap page))
  | .eSwapIn =>
    let w := (s.nextWaiting x.a x.b).getD {}
    let y := w.swapped.getD default
    let ps := y.team.slotPages.map (fun (va : W64) => s.slotPage y.core y.team.asid.toNat .load va)
    let far := (ps.filterMap id).flatMap (fun p => (List.range 16).map (fun k => readPlace x.a p.1 + k * 4096))
    let u := s.walkedAll x.a y.team.asid.toNat y.team.slotPages
    let r := (u.setDie x.a { u.die x.a with pending := (u.die x.a).pending.erase w }).loadSlot x.a (ps.filterMap id)
    let q := r.1.restore y r.2
    some ((s.nextWaiting x.a x.b).isSome = true ∧ w.swapped.isSome = true ∧ (∀ p ∈ ps, p.isSome = true) ∧
      s.fits y.core s.nextGang w.order w.prio
        [1, y.team.groups, (y.team.share + 65535) / 65536, y.team.accs, y.team.bars] = true,
      if s.hostWaits far then s.askHost far else q.1.resume q.2 y)
  | .eTeamRetirement => some (s.hasTeam x.a = true ∧ c.wait = .exit ∧ s.mayExit x.a = true, s.retire x.a)
  | .eRegionCommit => some (s.mayCommit x.a = true, (s.commit x.a).gangArrival x.a)
  | .eGsetbApply => some (s.hasTeam (x.a / 16) = true ∧ g.clause = none ∧ g.wait = .ready ∧ (∃ e n, g.head = some e ∧
      e.kind = .gsetb n ∧ e.at_ / 2 < s.clk / 2), match g.head with
      | some e => (match e.kind with
        | .gsetb n => s.setGrp x.a { g with ab := spSet g.ab n e.val, queue := consumeHead g.queue }
        | _ => s)
      | none => s)
  | .eCMemoryComplete => some (∃ p, g.pend[x.b]? = some p ∧ s.mayComplete x.a p = true, s.completeC x.a x.b)
  | .eCopyOperationEnd => some (∃ o, (s.engine x.a)[x.b]? = some o, match (s.engine x.a)[x.b]? with
      | some o => s.copyStep x.a x.b o
      | none => s)
  | .eMonitorWake => some (x.flag = true ∨ (s.die x.a).wakes[x.b]?.isSome = true,
      if x.flag then s.wakeMonitors (x.val.toNat % 4096, x.val.toNat / 4096 % 4096, x.val.toNat / 4096 / 4096 % 4096)
      else match (s.die x.a).wakes[x.b]? with
      | some h => (s.setDie x.a { s.die x.a with wakes := delAt (s.die x.a).wakes x.b }).wakeMonitors h
      | none => s)
  | .eMonwRetry => some (∃ n, g.wait = .monRetry n ∧ n ≤ s.clk, s.setGrp x.a { g with wait := .ready })
  | .eMwaitaDeadline => some (c.wait = .monitor ∧ late, ready)
  | .eWfiDeadline => some (c.wait = .wake ∧ late, ready)
  | .eYieldTimeout => some (c.wait = .yield ∧ c.yieldEnd ≤ s.clk ∧ (x.a < 4096 → t.life = .running), ready)
  | .eGroupOverdue => some (224 < g.readyFor, s.setGrp x.a { g with overdue := true })
  | .eLeaseExpiry => some (∃ n, kvFind (s.core x.a).leases x.b = some n ∧ n ≤ now,
      s.setCore x.a { s.core x.a with leases := kvDel (s.core x.a).leases x.b })
  | .eLeaseVoid => some (∃ y n k, kvFind s.leases x.a = some (y, n, k) ∧ (k = true ∨ n + 250 < now),
      s.recallNow x.a [])
  | .eGangExitNotice => some ((kvFind (s.gang x.a).retired x.c).isSome = true ∧ (x.b, x.c) ∉ (s.gang x.a).known,
      s.updGang x.a (fun g => { g with known := g.known ++ [(x.b, x.c)] }))
  | .eGangBarrierArrival => some (s.hasTeam x.a = true, s.gangArrival x.a)
  | .eMdsetApply => some (s.hasTeam x.a = true ∧ t.mHeld = none, s.setTeam x.a t.applyDesc)
  | _ => none

/-- A compute die has failed (R26, R214): it is a hole; its teams, and every team of their launches, are gone, and those launches
with them; each team killed on another die has left a KILL record of reason 7, and so has each surviving instance that had
admitted one of a launch's teams and holds none now; lines that only the die's RDCs held are poisoned. -/
def DieFailed (s t : State) (d : Nat) : Prop :=
  (t.die d).hole = true ∧ SameBytes s t ∧ (∀ c ∈ t.copies, c ∈ s.copies ∧ cacheDie c.cache ≠ d) ∧
  (∀ j, 4096 ≤ j → ctxDie j = d → kvFind t.ctxs j = none) ∧
  (∀ j l, s.hasTeam j = true → coreDie (j / 4) = d → l = (s.team j).lid → kvFind t.launches l = none ∧ TeamGone t j ∧
    (∀ k, s.hasTeam k = true → (s.team k).lid = l → TeamGone t k ∧ (coreDie (k / 4) ≠ d →
      ∃ r ∈ t.records, r.kind = 4 ∧ r.head.toNat / 2 ^ 48 = 0x407 ∧ r.die = coreDie (k / 4) ∧ r.tag = (s.team k).tag)) ∧
    ∀ y ∈ (s.launch l).admitted, y ≠ d → (s.die y).hole = false → (∀ e ∈ s.teams, e.2.lid = l → coreDie (e.1 / 4) ≠ y) →
      ∃ r ∈ t.records, r.kind = 4 ∧ r.head.toNat / 2 ^ 48 = 0x407 ∧ r.die = y ∧ r.tag = spGet (s.launch l).field 23) ∧
  (∀ e ∈ s.dir, e.2.owner = d → (e.2.state = .m ∨ e.2.state = .o ∧ ∀ k < 8, k ≠ d → e.2.vec.getLsbD k = false) →
    s.populated (e.1 * 128) = true → t.poisoned (e.1 * 128) = true ∧ t.poisoned (e.1 * 128 + 64) = true)

/-- Leaves of pages whose home has failed (R26, R214): the lowest surviving copy is the home, and neither it nor a die that has
failed is in the mask; a page without one keeps its frame, which reads poison. -/
def Rehomed (t : State) (d : Nat) : Prop :=
  ∀ e : W64, pteTier e = 0 → isMmio (pteFrame e) = false → (t.die d).hole = true → pteFrame e / 2 ^ 37 = d →
    ((∀ k < 8, e.getLsbD (56 + k) = true → (t.die k).hole = true) → pteFrame (t.rehome e) = pteFrame e ∧
      ∀ k < 8, (t.rehome e).getLsbD (56 + k) = false) ∧
    ∀ k < 8, e.getLsbD (56 + k) = true → (t.die k).hole = false → (∀ j < k, e.getLsbD (56 + j) = true → (t.die j).hole = true) →
      pteFrame (t.rehome e) = k * 2 ^ 37 + pteFrame e % 2 ^ 37 ∧
      ∀ j < 8, (t.rehome e).getLsbD (56 + j) = (e.getLsbD (56 + j) && !(t.die j).hole && decide (j ≠ k))

/-- A team has been admitted to a slot (R30): its registers hold what R30 says and else zero, it stands at the launch's entry,
and its groups are as at admission. -/
def Admitted (t : State) (l : Launch) (num c id : Nat) : Prop :=
  let n (k : Nat) : Nat := (spGet l.field k).toNat
  let e : BitVec 48 := (spGet l.field 0).extractLsb' 0 48
  let r (v : Nat) : W64 := BitVec.ofNat 64 v
  t.hasTeam id = true ∧ t.ctx id = { s := (t.ctx id).s, pc := e, regpc := e, pendEntry := e } ∧
  (∀ k : BitVec 6, (t.ctx id).get k =
    if k = 1 then r (num % n 2) else if k = 2 then r (num / n 2 % n 3) else if k = 3 then r (num / n 2 / n 3)
    else if k = 4 then spGet l.field 1 else if k = 5 then r (coreX c - n 5 + (coreY c - n 6) * 2 ^ 32)
    else if k = 6 then r (n 9) else if k = 7 then r l.run else 0) ∧
  (t.team id).num = num ∧ (t.team id).asid.toNat = l.asid % 2 ^ 16 ∧ (t.team id).groups = n 9 ∧ (t.team id).accs = n 10 ∧
  (t.team id).bars = n 11 ∧ (t.team id).share = n 13 ∧ (t.team id).xwin = n 14 ∧ ∀ g < n 9, t.grp (id * 16 + g) = {}

/-- n bytes of a team image as a number. -/
def imageAt (b : List Byte) (o n : Nat) : Nat := leNat ((b.drop o).take n)

/-- A team image holds the registers of a team's generator, matrix descriptors and groups, and its share, where R192 and R193
place them; the pc is that of the oldest pending MWAIT, if one is pending (R298). -/
def ImageHolds (b : List Byte) (s : State) (id : Nat) : Prop :=
  let c := s.ctx id
  let t := s.team id
  (∀ r < 64, imageAt b (0x40 + 8 * r) 8 = (spGet c.s r).toNat) ∧
  imageAt b 0x240 8 = (match c.mwaits with | m :: _ => m.2.2 | [] => c.pc).toNat ∧ imageAt b 0x248 1 = c.c.toNat ∧
  imageAt b 0x258 4 = c.gmode.toNat ∧ imageAt b 0x25C 4 = c.tstatus.toNat ∧ imageAt b 0x260 8 = c.tvec.toNat ∧
  imageAt b 0x268 8 = c.tepc.toNat ∧ imageAt b 0x270 8 = c.regpc.toNat ∧ imageAt b 0x278 8 = c.pendEntry.toNat ∧
  imageAt b 0x30 4 = t.msn.toNat ∧ (∀ k < 16, imageAt b (0x800 + 16 * k) 16 = (spGet t.md k).toNat) ∧
  (∀ g < t.groups, let o := 0x1C00 + g * 0x6000
    let x := s.grp (id * 16 + g)
    (∀ k < 4064, imageAt b (o + 4 * k) 4 = (spGet x.v k).toNat) ∧
      (∀ k < 8, imageAt b (o + 0x3F80 + 4 * k) 4 = (spGet x.p k).toNat) ∧
    imageAt b (o + 0x3FA0) 4 = x.mode.toNat ∧ imageAt b (o + 0x3FA4) 4 = x.active.toNat ∧
    imageAt b (o + 0x3FA8) 4 = x.fpx.toNat ∧ imageAt b (o + 0x3FAC) 4 = x.sig.toNat ∧ imageAt b (o + 0x3FB0) 4 = x.esn.toNat ∧
    imageAt b (o + 0x3FB4) 4 = x.resn.toNat ∧ imageAt b (o + 0x3FB8) 4 = x.rmode.toNat ∧
    ∀ k < 8, imageAt b (o + 0x4000 + 8 * k) 8 = (spGet x.ab k).toNat) ∧
  (t.slots.length = t.accs → ∀ k < t.share,
    imageAt b (0x1C00 + t.groups * 0x6000 + t.accs * 0x6400 + k) 1 = (spGet t.sp (t.place k)).toNat)

/-- A team stands on its core with the registers and the share that an image holds (R28, R180, R195). -/
def ImageTaken (b : List Byte) (s : State) (id groups accs share : Nat) : Prop :=
  let c := s.ctx id
  let t := s.team id
  (∀ r : BitVec 6, r ≠ 0 → (c.get r).toNat = imageAt b (0x40 + 8 * r.toNat) 8) ∧ c.get 0 = 0 ∧
  c.pc.toNat = imageAt b 0x240 8 % 2 ^ 48 ∧ c.c.toNat = imageAt b 0x248 1 % 2 ^ 8 ∧ c.gmode.toNat = imageAt b 0x258 4 % 2 ^ 12 ∧
  c.tstatus.toNat = imageAt b 0x25C 4 % 16 ∧ c.tvec.toNat = imageAt b 0x260 8 ∧ c.tepc.toNat = imageAt b 0x268 8 ∧
  c.regpc.toNat = imageAt b 0x270 8 % 2 ^ 48 ∧ c.pendEntry.toNat = imageAt b 0x278 8 % 2 ^ 48 ∧ t.msn.toNat = imageAt b 0x30 4 ∧
  (∀ k < 16, (spGet t.md k).toNat = imageAt b (0x800 + 16 * k) 16) ∧
  (∀ g < groups, let o := 0x1C00 + g * 0x6000
    let x := s.grp (id * 16 + g)
    (∀ k < 4064, (spGet x.v k).toNat = imageAt b (o + 4 * k) 4) ∧
      (∀ k < 8, (spGet x.p k).toNat = imageAt b (o + 0x3F80 + 4 * k) 4) ∧
    x.mode.toNat = imageAt b (o + 0x3FA0) 4 ∧ x.active.toNat = imageAt b (o + 0x3FA4) 4 ∧
    x.fpx.toNat = imageAt b (o + 0x3FA8) 4 % 32 ∧ x.sig.toNat = imageAt b (o + 0x3FAC) 4 ∧ x.esn.toNat = imageAt b (o + 0x3FB0) 4 ∧
    x.resn.toNat = imageAt b (o + 0x3FB4) 4 ∧ x.rmode.toNat = imageAt b (o + 0x3FB8) 4 ∧
    ∀ k < 8, (spGet x.ab k).toNat = imageAt b (o + 0x4000 + 8 * k) 8) ∧
  ∀ k < share, (spGet t.sp (t.place k)).toNat = imageAt b (0x1C00 + groups * 0x6000 + accs * 0x6400 + k) 1

/-- An operation has its turn in its engine, and nothing keeps it from its next line (R273, R274). -/
def CopyTurn (s : State) (e n : Nat) (o : CopyOp) : Prop :=
  (s.engine e)[n]? = some o ∧ e < 64 ∧ o.dead = false ∧ o.gone = false ∧ o.held = none ∧ o.lost = false ∧
    s.copyFenced o = false ∧ s.copyInOrder o = true

/-- The engine's own TLB holds the translation of an address for an access, with these places (R360). -/
def EngineFinds (s : State) (e : Nat) (o : CopyOp) (va : W64) (n : Need) (pls : List Nat) : Prop :=
  upperHalf va = false ∧ canonical va = true ∧
  ∃ y pte z, (kvGet [] (s.die (e / 8)).cetlb (e % 8)).find? (fun y => y.hit o.asid va) = some y ∧ leafEnd n y.pte va = .ok pte z ∧
    pls = placesOf (s.die 0).devnum.toNat pte z va

/-- The line of an operation that has its turn has been written: it goes on, or it has ended with a status, which its issuer's
token register takes (R32, R273, R274). -/
def CopyWent (s t : State) (e n : Nat) (o : CopyOp) : Prop :=
  let d := o.done + o.step
  (d < o.total → (t.engine e)[n]? = some { o with done := d, rewalk := none }) ∧
  (∀ id sd, o.total ≤ d → o.by_ = .ctx id sd → sd ≠ 0 → t.engine e = (s.engine e).eraseIdx n ∧
    t.ctx id = ((s.ctx id).put (BitVec.ofNat 6 sd) (BitVec.ofNat 64 ((if o.poisoned then 3 else 0) * 2 ^ 56 + d % 2 ^ 32))).setTok sd false)

/-- The shape of a COPYS can be carried out (R276, R277): no reserved bit, a format, an even count of columns for Q4x, and a tag
that the chunks of a row allow. -/
def ShapeOk (v : W64) : Prop :=
  let n := v.toNat
  let cols := n / 2 ^ 12 % 4096 + 1
  let f := n / 2 ^ 24 % 16
  let g := n / 2 ^ 28 % 16
  let bytes := if f ≤ 1 then cols * 2 else if f ≤ 4 then cols else cols / 2
  n / 2 ^ 52 = 0 ∧ f ≤ 5 ∧ (f = 5 → cols % 2 = 0) ∧ g ≤ 4 ∧ (bytes + 15) / 16 % 2 ^ g = 0

/-- An agent of a team is parked on a page that is not resident, with the order of its parking (R176, R177). -/
def ParkedOn (s : State) (id : Nat) (a : Agent) (base size key : Nat) : Prop :=
  match a with
  | .gen => let c := s.ctx id
    c.wait = .parked ∧ c.parkPi = false ∧ base ≤ c.parkVa.toNat ∧ c.parkVa.toNat < base + size ∧ key = c.parkSeq * 32
  | .grp g => let x := s.grp (id * 16 + g)
    g < (s.team id).groups ∧ x.wait = .parked ∧ x.park.getLsbD 1 = false ∧ base ≤ x.parkVa.toNat ∧ x.parkVa.toNat < base + size ∧
      key = x.parkSeq * 32 + g + 1
  | .mat => False

/-- A released agent waits no more, and its word stands to be tried again (R177). -/
def Unparked (s t : State) (id : Nat) (a : Agent) : Prop :=
  match a with
  | .gen => t.ctx id = { s.ctx id with wait := .ready, pstat := (s.ctx id).pstat &&& 0xFFFFFFFE#32 }
  | .grp g => t.grp (id * 16 + g) = { s.grp (id * 16 + g) with wait := .ready, park := 0 }
  | .mat => True

/-- An event happens where its condition holds, with its effect, and else changes nothing. -/
def Happens (s : State) (i : Instr) (x : EvArg) (f : Option (Prop × State)) : Prop :=
  s.cur = .event x → ∀ p t, f = some (p, t) → (p → exec i s = .next t) ∧ (¬ p → exec i s = .next s)

end Sys2Proof.Machine
end

