-- ==== Sys2Proof/Certificates/Slice0/Obligations.lean ====
section
/-! DEFINITION. Certificates/Slice0/Obligations.lean: what is to be proved of the model. -/

open Sys2Proof Sys2Proof.Machine

/-! ## The generator's registers and arithmetic -/

/-- R29, R111: s0 reads zero and discards writes; every other scalar register and every condition bit reads its last write,
and a write changes nothing else of the context. -/
def Obligations.ScalarAndConditionRegistersHoldTheirLastWrite : Prop :=
  ∀ (c : Ctx) (r q : BitVec 6) (x : W64) (n k : BitVec 3) (b : Bool),
    c.get 0 = 0 ∧ c.put 0 x = c ∧ (c.put r x).get q = (if q = r ∧ q ≠ 0 then x else c.get q) ∧
      c.put r x = { c with s := (c.put r x).s } ∧ (c.setCond n b).cond k = (if k = n then b else c.cond k) ∧
      c.setCond n b = { c with c := (c.setCond n b).c }

/-- R111 to R117: every arithmetic word with a plain result writes it to s[d], advances pc by 4, and changes nothing else. -/
def Obligations.ArithmeticWordsWriteTheirResultAndNothingElse : Prop :=
  ∀ (s : State) (id : Nat) (w : W32) (i : Instr) (d : BitVec 6) (use : List (BitVec 6)) (x : W64),
    i.wf = true → gResult i (s.ctx id) = some (d, use, x) → GTurn s id w (d :: use) →
      ∃ t, exec i s = .next t ∧ SetsReg s t id d x

/-- R103: the divide words in exact integers, with the cases of a divisor of 0 and of −2⁶³ ÷ −1; none ever traps. -/
def Obligations.DivideWordsNeverTrap : Prop :=
  ∀ (s : State) (id : Nat) (w : W32) (d a b : BitVec 6), GTurn s id w [d, a, b] →
    let x := (s.ctx id).get a
    let y := (s.ctx id).get b
    (∃ t q, exec (.gDiv d a b) s = .next t ∧ SetsReg s t id d q ∧
      (y = 0 → q = 0xFFFFFFFFFFFFFFFF#64) ∧ (x.toInt = -2 ^ 63 ∧ y.toInt = -1 → q.toInt = -2 ^ 63) ∧
      (y ≠ 0 → ¬ (x.toInt = -2 ^ 63 ∧ y.toInt = -1) → q.toInt = x.toInt.tdiv y.toInt)) ∧
    (∃ t q, exec (.gDivu d a b) s = .next t ∧ SetsReg s t id d q ∧
      (y = 0 → q = 0xFFFFFFFFFFFFFFFF#64) ∧ (y ≠ 0 → q.toNat = x.toNat / y.toNat)) ∧
    (∃ t r, exec (.gRem d a b) s = .next t ∧ SetsReg s t id d r ∧
      (y = 0 → r = x) ∧ (y ≠ 0 → r.toInt = x.toInt - x.toInt.tdiv y.toInt * y.toInt)) ∧
    (∃ t r, exec (.gRemu d a b) s = .next t ∧ SetsReg s t id d r ∧
      (y = 0 → r = x) ∧ (y ≠ 0 → r.toNat = x.toNat - x.toNat / y.toNat * y.toNat))

/-- R114, R115, R75: BFI and CWSET replace one field of their destination; CWSET clears bits 63 to 32, and raises G_CWSET on a
value that is wider than the field. -/
def Obligations.FieldWordsReplaceOneField : Prop :=
  ∀ (s : State) (id : Nat) (w : W32) (d a b : BitVec 6) (k : BitVec 4), GTurn s id w [d, a, b] →
    let c := s.ctx id
    let p := (c.get b).toNat % 64
    let n := (c.get b).toNat / 256 % 64 + 1
    let f := cwPlace k.toNat
    (∃ t x, exec (.gBfi d a b) s = .next t ∧ SetsReg s t id d x ∧
      ∀ j, j < 64 → x.getLsbD j = if p ≤ j ∧ j < p + n then (c.get a).getLsbD (j - p) else (c.get d).getLsbD j) ∧
    (k.toNat ≤ 8 → (c.get a).toNat < 2 ^ f.2 → ∃ t x, exec (.gCwset d a k) s = .next t ∧ SetsReg s t id d x ∧
      ∀ j, j < 64 → x.getLsbD j = if 32 ≤ j then false
        else if f.1 ≤ j ∧ j < f.1 + f.2 then (c.get a).getLsbD (j - f.1) else (c.get d).getLsbD j) ∧
    (k.toNat ≤ 8 → 2 ^ f.2 ≤ (c.get a).toNat → exec (.gCwset d a k) s =
      .next (s.raiseG id { code := 0x5, t4 := c.get a, t5 := k.zeroExtend 64 } w))

/-- R118, R119: CMP, CMPI and CBOP set one condition bit, advance pc by 4, and change nothing else; CMP and CMPI are decoded
with their condition, their bit and their operands. -/
def Obligations.ConditionWordsSetOneBit : Prop :=
  (∀ (n : BitVec 3) (a b : BitVec 6) (c : BitVec 8), c.toNat ≤ 5 →
    decodeG (0x0C#6 ++ 0#3 ++ n ++ a ++ b ++ c) = some (.gCmp n a b c)) ∧
  (∀ (c n : BitVec 3) (a : BitVec 6) (i : BitVec 14), c.toNat ≤ 5 →
    decodeG (0x0D#6 ++ c ++ n ++ a ++ i) = some (.gCmpi c n a i)) ∧
  ∀ (s : State) (id : Nat) (w : W32) (i : Instr) (n : BitVec 3) (use : List (BitVec 6)) (b : Bool),
    i.wf = true → gTest i (s.ctx id) = some (n, use, b) → GTurn s id w use →
      ∃ t, exec i s = .next t ∧ SetsCond s t id n b

/-- R31, R120, R121: a branch that is taken sets pc, and a linking one s63 to the address after it; a target that pc cannot
hold raises G_PC with nothing changed; a BC that is not taken goes on. -/
def Obligations.BranchesGoToTheirTargetOrRaiseGPc : Prop :=
  (∀ (s : State) (id : Nat) (w : W32) (i : Instr) (use : List (BitVec 6)) (t : W64) (link : Bool),
    gBranch i (s.ctx id) = some (use, t, link) → GTurn s id w use →
      (targetOk t → ∃ u, exec i s = .next u ∧ OnlyCtx s u id ∧
        u.ctx id = { s.ctx id with s := (u.ctx id).s, pc := t.extractLsb' 0 48, wait := .ready, arrived := none,
                                   issues := (s.ctx id).issues + 1 } ∧
        ∀ r, (u.ctx id).get r = if link ∧ r = 63 then (s.ctx id).pc.signExtend 64 + 4 else (s.ctx id).get r) ∧
      (¬ targetOk t → exec i s = .next (s.raiseG id { code := 0x3, t3 := t } w))) ∧
  ∀ (s : State) (id : Nat) (w : W32) (n : BitVec 3) (x : BitVec 1) (o : BitVec 22), GTurn s id w [] →
    (s.ctx id).cond n ≠ x.getLsbD 0 → ∃ u, exec (.gBc n x o) s = .next u ∧ SetsNothing s u id

/-- R32: a G-word that reads, or writes as sd, a register whose token is pending stalls, and changes nothing. -/
def Obligations.PendingTokenStallsTheWord : Prop :=
  ∀ (s : State) (id : Nat) (w : W32) (i : Instr) (use : List (BitVec 6)) (r : BitVec 6),
    s.cur = .gen id w → gUses i = some use → r ∈ use → (s.ctx id).token r = true →
      ∃ t, exec i s = .next t ∧ Stalls s t id .token

/-! ## Control registers -/

/-- R34, R123 to R125: CSRR of a listed register gives what it shows; one from 0xC00 on raises G_PRIV outside a supervisor
context, and one that is not listed G_CSR. The CID of a context that lies on no core is a free value (log entry 13), and TREC5
of that G_CSR, for a word that has neither value nor mask, is 0 (log entry 30). -/
def Obligations.CsrReadShowsTheRegister : Prop :=
  ∀ (s : State) (id : Nat) (w : W32) (d : BitVec 6) (n : BitVec 12), GTurn s id w [d] →
    (0xC00 ≤ n.toNat → isSup id = false → exec (.gCsrr d n) s = .next (s.raiseG id { code := 0x2 } w)) ∧
    ((0xC00 ≤ n.toNat → isSup id = true) →
      (csrShows s id n.toNat = none →
        exec (.gCsrr d n) s = .next (s.raiseG id { code := 0x4, t4 := BitVec.ofNat 64 n.toNat } w)) ∧
      (∀ x, csrShows s id n.toNat = some x → (n ≠ 0x800#12 ∨ id < 4096) →
        ∃ t, exec (.gCsrr d n) s = .next t ∧ SetsReg s t id d x) ∧
      (n = 0x800#12 → 4096 ≤ id → ∃ t, exec (.gCsrr d n) s = .next t ∧ SetsReg s.used t id d (Config.freeWord s.freeCtr)))

/-- R35 to R39, R123, R124: CSRW, CSRS and CSRC check privilege, listing, writable bits and legal values in that order, and
then write one control register; a trap that the write unmasks is delivered after it. -/
def Obligations.CsrWritesChangeWritableBitsOnly : Prop :=
  ∀ (s : State) (id : Nat) (w : W32) (d : BitVec 6) (n : BitVec 12) (o : CsrOp), GTurn s id w [d] →
    let i : Instr := match o with | .w => .gCsrw d n | .s => .gCsrs d n | .c => .gCsrc d n
    let v := (s.ctx id).get d
    let bad := Host.Outcome.next (s.raiseG id { code := 0x4, t4 := BitVec.ofNat 64 n.toNat, t5 := v } w)
    (0xC00 ≤ n.toNat → isSup id = false → exec i s = .next (s.raiseG id { code := 0x2 } w)) ∧
    ((0xC00 ≤ n.toNat → isSup id = true) →
      (csrShows s id n.toNat = none → exec i s = bad) ∧
      ∀ old, csrShows s id n.toNat = some old →
        (csrDenied o n.toNat old v ∨ csrIllegal n.toNat (csrNew o n.toNat old v) → exec i s = bad) ∧
        (¬ csrDenied o n.toNat old v → ¬ csrIllegal n.toNat (csrNew o n.toNat old v) →
          ∃ u, CsrWritten s u id n.toNat (csrNew o n.toNat old v) ∧ exec i s = .next (u.deliver id)))

/-! ## Traps -/

/-- R37, R163 to R167, R170, R354: a G-fault is delivered to a handler that is open, in its turn behind the records queued,
and goes to level two where a team has none, and from a prologue; with the mask at 1 it is a double fault, which kills a team,
whether it has a handler or not (log entry 87), and fails a supervisor's die; a fifth record kills the team. While a token
word of the context is pending the context is held with the record, but a double fault waits for none. Memory stays as it is.
-/
def Obligations.FaultOfAGWordIsDelivered : Prop :=
  ∀ (s : State) (id : Nat) (f : GFault) (w : W32),
    let c := s.ctx id
    let r := recordOf f c.pc w
    (OpenTraps s id → ∃ t, s.raiseG id f w = t ∧ OnlyCtxSnap s t id ∧ ∀ x l, c.tq ++ [r] = x :: l →
      Delivered c (t.ctx id) x l c.pc (if id < 4096 then some (s.now + 50000) else none) s.now) ∧
    (id < 4096 → c.trapen = false → c.mask = false → c.tok = 0 → ∃ t, s.raiseG id f w = t ∧
      t.ctx id = { c with wait := .held } ∧ SentFrom s t id (s.teamRec id 1 0 r (.agent id .gen))) ∧
    (isPro id = true → c.tok = 0 → ∃ t, s.raiseG id f w = t ∧ SentByPrologue s t id r) ∧
    (MaskedTraps s id → id < 4096 → s.hasTeam id = true → ∃ t, s.raiseG id f w = t ∧ TeamGone t id ∧ SameBytes s t ∧
      DoubleFaultSent t (c.trec.t0.toNat % 65536) (f.code % 65536) c.pc w) ∧
    (isSup id = true → c.mask = true → ∃ t, s.raiseG id f w = t ∧ (t.die (ctxDie id)).hole = true ∧ SameBytes s t) ∧
    (TakesTraps s id → id < 4096 → s.hasTeam id = true → c.mask = false → c.tok = 0 → 5 ≤ c.tq.length → ∃ t,
      s.raiseG id f w = t ∧ TeamGone t id ∧ SameBytes s t ∧ QueueFullSent t r.code 0 0) ∧
    (c.tok ≠ 0 → c.mask = false ∨ isPro id = true → ∃ t, s.raiseG id f w = t ∧ t = { s with ctxs := t.ctxs } ∧
      t.ctx id = { c with wait := .held, pended := some r } ∧ (∀ j, j ≠ id → t.ctx j = s.ctx j) ∧ SameBytes s t)

/-- R126: TRAP raises G_TRAP with the values of its two registers in TREC4 and TREC5: delivered to an open handler, sent to
level two without one, and a double fault, which kills the team, while the mask is 1, whether there is a handler or not: R126
says both of a team without one, and the model's choice is the double fault (log entry 87). While a token word of the context
is pending its record waits (R164). -/
def Obligations.TrapRaisesGTrapWithTwoValues : Prop :=
  (∀ a b : BitVec 6, decodeG (0x70000004#32 ||| (a.zeroExtend 32 <<< 14) ||| (b.zeroExtend 32 <<< 8)) = some (.gTrap a b)) ∧
  ∀ (s : State) (id : Nat) (w : W32) (a b : BitVec 6), GTurn s id w [a, b] →
    let c := s.ctx id
    let r : TrapRec :=
      { t0 := 0x6, t1 := c.pc.zeroExtend 64, t2 := 0, t3 := 0, t4 := c.get a, t5 := c.get b, t6 := 0, t7 := w.zeroExtend 64 }
    (OpenTraps s id → ∃ t, exec (.gTrap a b) s = .next t ∧ OnlyCtxSnap s t id ∧ ∀ x l, c.tq ++ [r] = x :: l →
      Delivered c (t.ctx id) x l c.pc (if id < 4096 then some (s.now + 50000) else none) s.now) ∧
    (id < 4096 → c.trapen = false → c.mask = false → c.tok = 0 → ∃ t, exec (.gTrap a b) s = .next t ∧
      t.ctx id = { c with wait := .held } ∧ SentFrom s t id (s.teamRec id 1 0 r (.agent id .gen))) ∧
    (MaskedTraps s id → id < 4096 → s.hasTeam id = true → ∃ t, exec (.gTrap a b) s = .next t ∧ TeamGone t id ∧
      SameBytes s t ∧ DoubleFaultSent t (c.trec.t0.toNat % 65536) 0x6 c.pc w) ∧
    (c.tok ≠ 0 → c.mask = false ∨ isPro id = true → ∃ t, exec (.gTrap a b) s = .next t ∧ t = { s with ctxs := t.ctxs } ∧
      t.ctx id = { c with wait := .held, pended := some r } ∧ (∀ j, j ≠ id → t.ctx j = s.ctx j) ∧ SameBytes s t)

/-- R127, R169, R189: RTE outside a handler raises G_ILLEGAL, and with an illegal TEPC G_PC; else pc takes TEPC, level and
mask fall to 0, and the record leaves TREC0 to TREC7, or the next queued record is delivered before the word at pc. The agent
of a record of kind C or M is disposed of by its cause: the group or the matrix unit goes past its word, the group of an
end-of-pass fault goes on, or the team rolls back or is killed. -/
def Obligations.ReturnFromTrapGoesToTepc : Prop :=
  ∀ (s : State) (id : Nat) (w : W32), GTurn s id w [] →
    let c := s.ctx id
    let e := c.tepc.extractLsb' 0 48
    let k : Ctx := { c with pc := e, tstatus := c.tstatus &&& 8#32, trec := {}, watch := none, wait := .ready,
                            issues := c.issues + 1 }
    let r := c.trec
    let gid := id * 16 + r.t0.toNat / 2 ^ 24 % 16
    let g := s.grp gid
    let kind := r.t0.toNat / 2 ^ 28 % 16
    let code := r.t0.toNat % 65536
    let a := s.team id
    (c.level = 0 → Raises s id w (exec .gRte s) 0x1 0 0 0) ∧
    (c.level ≠ 0 → ¬ targetOk c.tepc → Raises s id w (exec .gRte s) 0x3 c.tepc 0 0) ∧
    (c.level ≠ 0 → targetOk c.tepc → (id < 4096 → c.trec.kind = 0 ∧ c.trec.code ≠ 0xD ∧ s.hasTeam id = true) →
      (c.tq = [] → ∃ t, exec .gRte s = .next t ∧ OnlyCtx s t id ∧ t.ctx id = k) ∧
      (∀ r l, c.tq = r :: l → c.arrived = none → ∃ t, exec .gRte s = .next t ∧ OnlyCtxSnap s t id ∧
        t.snapTick = s.snapTick ∧ Delivered k (t.ctx id) r l e (if id < 4096 then some (s.now + 50000) else none) s.now)) ∧
    (c.level ≠ 0 → targetOk c.tepc → id < 4096 → s.hasTeam id = true → c.tq = [] →
      (kind = 1 → code ∉ [0x106, 0x109, 0x10A, 0x110] → ¬ (code = 0x107 ∧ r.t5 = 1) → g.wait = .held → g.late = [] →
        ∀ y, g.heldWord = some y → g.heldCode = code → skipPops y code ≤ (kWaiting g).length →
          let u := (s.setCtx id k).setGrp gid { g with skip := true, wait := .ready }
          exec .gRte s = .next (u.finish gid y (skipPops y code))) ∧
      (kind = 1 → code = 0x106 → g.wait = .held → g.late = [] → ∃ t, exec .gRte s = .next t ∧ t.ctx id = k ∧ SameBytes s t ∧
        t.grp gid = { g with noTrap := true, wait := g.after, after := .ready }) ∧
      (kind = 1 → code = 0x107 → r.t5 = 1 → g.wait = .held → g.late = [] → ∃ t, exec .gRte s = .next t ∧ t.ctx id = k ∧
        SameBytes s t ∧ t.grp gid = { g with heldCode := 0, wait := g.after, after := .ready }) ∧
      (kind = 2 → code ≠ 0x208 → a.mHeld.isSome = true → ∃ t, exec .gRte s = .next t ∧ SameBytes s t ∧
        t.team id = { a with mq := consumeHead a.mq, msn := a.msn + 1, mDone := a.mDone + 1, mHeld := none } ∧
        (t.ctx id).pc = e ∧ (t.ctx id).mask = false) ∧
      (kind = 0 ∧ code = 0xD ∨ kind = 1 ∧ code ∈ [0x10A, 0x110] ∨ kind = 2 ∧ code = 0x208 →
        (a.sealed = false → a.rolls = 0 → ∃ t, exec .gRte s = .next t ∧ RolledBack s t id) ∧
        (a.sealed = true ∨ 1 ≤ a.rolls → ∃ t, exec .gRte s = .next t ∧ TeamGone t id)) ∧
      (kind = 1 → code = 0x109 → ∃ t, exec .gRte s = .next t ∧ TeamGone t id))

/-- R58, R71, R350, R354, R455: a word that is no G instruction raises G_PRIV for the majors of supervisor and prologue words
outside their contexts, and G_ILLEGAL otherwise; every supervisor word outside a supervisor context and every prologue word
outside a prologue context stop the same way. In a context of no team the words that act on a team's agents raise G_ILLEGAL or
G_GROUP, MWAIT completes with all ones, and YIELD as in a team. -/
def Obligations.IllegalAndPrivilegedGWordsTrap : Prop :=
  ∀ (s : State) (id : Nat) (w : W32), GTurn s id w [] →
    (∀ v : W32, let m := v.toNat / 2 ^ 26
      Raises s id v (exec (.eIllegalGWord v) s)
        (if (m = 0x1D ∧ isSup id = false) ∨ (m = 0x1E ∧ isPro id = false) then 0x2 else 0x1) 0 0 0) ∧
    (4096 ≤ id → Raises s id w (exec .gExit s) 0x1 0 0 0 ∧ Raises s id w (exec .gRegion s) 0x1 0 0 0) ∧
    (isSup id = false → ∀ (i : Instr) (use : List (BitVec 6)), (gSupWords i).isSome → gUses i = some use →
      GTurn s id w use → Raises s id w (exec i s) 0x2 0 0 0) ∧
    (isPro id = false → ∀ i : Instr, (gProWords i).isSome → GTurn s id w ((gUses i).getD []) →
      Raises s id w (exec i s) 0x2 0 0 0) ∧
    (4096 ≤ id → ∀ (i : Instr) (code : Nat) (x : Option Nat), gTeamWords i = some (code, x) →
      GTurn s id w ((gUses i).getD []) →
        (∀ n, x = some n → Raises s id w (exec i s) code 0 (BitVec.ofNat 64 n) 0) ∧
        ∃ y, Raises s id w (exec i s) code 0 y 0) ∧
    (4096 ≤ id → ∀ d a : BitVec 6, GTurn s id w [d, a] →
      ∃ t, exec (.gMwait d a) s = .next t ∧ SetsReg s t id d 0xFFFFFFFFFFFFFFFF#64) ∧
    (4096 ≤ id → ∃ t, exec .gYield s = .next t ∧ OnlyCtx s t id ∧
      t.ctx id = { (s.ctx id).done with wait := .yield, yieldEnd := s.clk + 8, yieldSeen := [] })

/-- R128 to R130: EXIT retires a team whose groups have retired, whose matrix queue is empty and idle and whose context has no
token pending, once the words that are still under way have ended (log entry 21), and stalls till then; ECALL hands a record
of kind 3 to level two, which in a context on no core names its die alone (log entry 31), seals the team's regions and waits;
GTIME gives global time. -/
def Obligations.ExitEcallAndGtimeComplete : Prop :=
  ∀ (s : State) (id : Nat) (w : W32) (d a b : BitVec 6),
    (GTurn s id w [] → id < 4096 → MayExit s id → ∃ t, exec .gExit s = .next t ∧ TeamGone t id ∧ SameBytes s t) ∧
    (GTurn s id w [] → id < 4096 → ¬ MayExit s id → ∃ t, exec .gExit s = .next t ∧ Stalls s t id .exit) ∧
    (GTurn s id w [d] → ∃ t, exec (.gGtime d) s = .next t ∧ SetsReg s t id d (BitVec.ofNat 64 (s.clk * 5 / 8))) ∧
    (GTurn s id w [d, a, b] →
      let c := s.ctx id
      let k : Ctx := { c with wait := .reply, replyTo := d, issues := c.issues + 1 }
      let body : TrapRec := { t0 := c.get a, t1 := c.get b, t2 := c.pc.zeroExtend 64 }
      (id < 4096 → (∀ h ∈ (s.core (id / 4)).hold, h.team ≠ id) → ∃ t, exec (.gEcall d a b) s = .next t ∧
        t.ctx id = k ∧ t.team id = (s.team id).seal ∧ SameBytes s t ∧
        t.records = s.records ++ [s.teamRec id 3 0 body (.agent id .gen)]) ∧
      (4096 ≤ id → ∃ t, exec (.gEcall d a b) s = .next t ∧ t.ctx id = k ∧ SameBytes s t ∧
        ∃ r : Rec2, t.records = s.records ++ [r] ∧ r.kind = 3 ∧ r.body = body ∧ r.die = ctxDie id) ∧
      (id < 4096 → (∃ h ∈ (s.core (id / 4)).hold, h.team = id) → ∃ t, exec (.gEcall d a b) s = .next t ∧
        Stalls s t id (.irrevocable 0)))

/-! ## The generator's memory words -/

/-- R248, R251, R252, R254, R255, R361 to R364: the walk of a page table ends as the first rule of R364 that applies says, on
entries as a die's failure leaves them (log entry 122). LD, LDP and LDSUM of an address that a context may read write what
they read to s[d], and change nothing else that software sees; a misaligned address, a page without permission and poison
trap, and LD and LDSUM of a page that is not there park; LDP of such a page clears its condition bit and reads nothing. The
access code shows the order as GMODE.orderfloor raises it (log entry 26). -/
def Obligations.GlobalLoadsReadAndChangeNothingElse : Prop :=
  (∀ (s : State) (die asid k m : Nat) (va : W64) (n : Need), k ≤ 4 → NodeAt s die asid va k m →
    let i := walkIndex asid va k
    let w := s.walk die asid va n
    let dev := (s.die 0).devnum.toNat
    let group := if k = 3 then 2 else 32
    let big := if k = 3 then 2 else 1
    (s.entry m i = none → w = .poison) ∧
    ∀ e, s.entry m i = some e →
      (e.getLsbD 0 = false → w = .gone e) ∧
      (e.getLsbD 0 = true → k < 3 → ¬ PointerEntry e → w = .perm e) ∧
      (e.getLsbD 0 = true → 3 ≤ k → (k = 3 → ¬ PointerEntry e) → let z := e.toNat / 2 ^ 12 % 4
        (z ≠ big → (z = 0 ∧ k = 4 ∧ LeafOk dev e → WalkEnds n (s.rehome e) va w) ∧
          (¬ (z = 0 ∧ k = 4 ∧ LeafOk dev e) → w = .perm e)) ∧
        (z = big → (s.entry m (i / group * group) = none → w = .poison) ∧
          ∀ h, s.entry m (i / group * group) = some h →
            (h.getLsbD 0 = false → w = .gone h) ∧
            (h.getLsbD 0 = true → h.toNat / 2 ^ 12 % 4 = big → LeafOk dev h → WalkEnds n (s.rehome h) va w) ∧
            (h.getLsbD 0 = true → ¬ (h.toNat / 2 ^ 12 % 4 = big ∧ LeafOk dev h) → w = .perm h)))) ∧
  (∀ (s : State) (id : Nat) (va : W64) (n : Need),
    let upper := isSup id = true ∧ (s.ctx id).supper = true
    (2 ^ 56 ≤ va.toNat → ¬ (upper ∧ 2 ^ 64 - 2 ^ 56 ≤ va.toNat) → (s.translateCtx id va n).2 = .perm 0) ∧
    (va.toNat < 2 ^ 56 → (id < 4096 → (∀ t ∈ (s.core (id / 4)).tlb, t.hit (s.asidOf id) va = false) ∧
        ∀ t ∈ s.l2 (id / 4), t.hit (s.asidOf id) va = false) →
      ∃ u, Unseen s u ∧ s.translateCtx id va n = (u, s.walk (ctxDie id) (s.asidOf id) va n)) ∧
    (2 ^ 64 - 2 ^ 56 ≤ va.toNat → upper → ∃ u, Unseen s u ∧ s.translateCtx id va n = (u, s.walk (ctxDie id) 0 va n))) ∧
  ∀ (s : State) (id : Nat) (w : W32) (d a : BitVec 6) (r z : BitVec 2) (o : BitVec 10) (n : BitVec 3) (f : BitVec 6),
    GTurn s id w [d, a] →
    let c := s.ctx id
    let acq := r.getLsbD 0 || c.gmode.getLsbD 10
    let ord := if acq then 1 else 0
    let va := wordAddr c a z o
    let vb := c.get a
    (va.toNat % 2 ^ z.toNat ≠ 0 → Raises s id w (exec (.gLd d a r z o) s) 0xA va (accessCode z.toNat ord false false) 0) ∧
    (va.toNat % 2 ^ z.toNat = 0 → StopsG s id w va .load (accessCode z.toNat ord false false) (exec (.gLd d a r z o) s)) ∧
    (∀ u pls home pk, va.toNat % 2 ^ z.toNat = 0 → Found s id va .load u pls home pk → u.promoteWaits id acq pls = false →
      (∀ v b, u.loadG id va pls z.toNat pk acq = (v, some b) → ∃ t, exec (.gLd d a r z o) s = .next t ∧
        ReadsInto s t id (c.put d (BitVec.ofNat 64 (leNat b))).done ∧ SameBytes s t) ∧
      ∀ v, u.loadG id va pls z.toNat pk acq = (v, none) →
        Raises v id w (exec (.gLd d a r z o) s) 0xD va (accessCode z.toNat ord false false) 0) ∧
    (vb.toNat % 8 ≠ 0 → Raises s id w (exec (.gLdp d a n r) s) 0xA vb (accessCode 3 ord false false) 0) ∧
    (vb.toNat % 8 = 0 → FaultsG s id w vb .load (accessCode 3 ord false false) (exec (.gLdp d a n r) s)) ∧
    (∀ u pls home pk, vb.toNat % 8 = 0 → Found s id vb .load u pls home pk → u.promoteWaits id acq pls = false →
      (∀ v b, u.loadG id vb pls 3 pk acq = (v, some b) → ∃ t, exec (.gLdp d a n r) s = .next t ∧
        ReadsInto s t id ((c.put d (BitVec.ofNat 64 (leNat b))).setCond n true).done ∧ SameBytes s t) ∧
      ∀ v, u.loadG id vb pls 3 pk acq = (v, none) →
        Raises v id w (exec (.gLdp d a n r) s) 0xD vb (accessCode 3 ord false false) 0) ∧
    (∀ u pi b sz, vb.toNat % 8 = 0 → s.translateCtx id vb .load = (u, .park pi b sz) →
      ∃ t, exec (.gLdp d a n r) s = .next t ∧ ReadsInto s t id (c.setCond n false).done ∧ SameBytes s t) ∧
    (vb.toNat % 4 ≠ 0 → Raises s id w (exec (.gLdsum d a f r) s) 0xA vb (accessCode 2 ord false false) 0) ∧
    (vb.toNat % 4 = 0 → StopsG s id w vb .load (accessCode 2 ord false false) (exec (.gLdsum d a f r) s)) ∧
    (∀ u pls home pk, f.toNat ≤ 1 → vb.toNat % 4 = 0 → Found s id vb .load u pls home pk →
      u.promoteWaits id acq pls = false → let x := if acq then u.acquireG id c.scope else u
      (∀ v l, x.copiesG id pls pk vb = (v, some l) → ∃ t, exec (.gLdsum d a f r) s = .next t ∧ SameBytes s t ∧
        let x : W32 := BitVec.ofNat 32 (sumCopies (f == 1) l)
        ReadsInto s t id (c.put d (if f = 1 then x.zeroExtend 64 else x.signExtend 64)).done) ∧
      ∀ v, x.copiesG id pls pk vb = (v, none) →
        Raises v id w (exec (.gLdsum d a f r) s) 0xD vb (accessCode 2 ord false false) 0)

/-- R202, R217: an agent of a core that reads local memory gets, for each byte, the newest one that its core's hold-back
holds, and where it holds none and no cache of the core holds the line, the byte of memory. -/
def Obligations.ReadsOfACoreSeeItsHeldStores : Prop :=
  ∀ (s t : State) (c pl n : Nat) (pk : PageKind) (l : List Byte), isFar pl = false → isMmio pl = false →
    s.readAt c pl n pk = (t, some l) → l.length = n ∧ Unseen s t ∧ ∀ i, i < n →
      (∀ b, heldByte (s.core c).hold (pl + i) = some b → l[i]? = some b) ∧
      (heldByte (s.core c).hold (pl + i) = none →
        (∀ k ∈ s.copies, k.cache = c ∨ k.cache = rdcOf c → k.line ≠ pl / 128) → l[i]? = some (s.byte (pl + i)))

/-- R111, R176, R216, R236, R248, R252: ST of a team's context puts one entry into its core's hold-back, or waits for a place,
and writes no memory; ST of a context of no core writes its bytes at once, at every copy of the page, and no other byte (log
entry 15). After a release the context waits until the core's stores up to its own have left (log entry 85). A misaligned
address, a page without permission and a page that is not there stop it; the access code shows the order as GMODE.orderfloor
raises it (log entry 26). -/
def Obligations.StoresOfAContextGoToHoldBackOrHome : Prop :=
  ∀ (s u : State) (id : Nat) (w : W32) (d a : BitVec 6) (r z : BitVec 2) (o : BitVec 10) (pls : List Nat) (home : Nat)
    (pk : PageKind), GTurn s id w [d, a] →
    let c := s.ctx id
    let va := wordAddr c a z o
    let n := 2 ^ z.toNat
    let x := (c.get d).toNat
    let rel := r.getLsbD 1 || c.gmode.getLsbD 11
    (va.toNat % n ≠ 0 → Raises s id w (exec (.gSt d a r z o) s) 0xA va
      (accessCode z.toNat (if rel then 2 else 0) true false) 0) ∧
    (va.toNat % n = 0 → StopsG s id w va .store (accessCode z.toNat (if rel then 2 else 0) true false) (exec (.gSt d a r z o) s)) ∧
    (va.toNat % n = 0 → Found s id va .store u pls home pk →
      (id < 4096 → (u.core (id / 4)).hold.length < 128 →
        ∃ t h, exec (.gSt d a r z o) s = .next t ∧ t.ctx id = afterStore c rel ((s.core (id / 4)).hbSerial + 1) ∧
          SameBytes s t ∧ t.teams = s.teams ∧
          (t.core (id / 4)).hold = (s.core (id / 4)).hold ++ [h] ∧ h.team = id ∧ h.lines = pls.map (· / 128) ∧
          h.order = (if rel then 2 else 0) ∧ h.scope.toNat = c.scope % 8 ∧ h.colour = c.colour ∧ h.xst = [] ∧
          ∀ i, kvFind h.bytes i = if pls.headD 0 % 128 ≤ i ∧ i < pls.headD 0 % 128 + n
            then some (byteOf x (i - pls.headD 0 % 128)) else none) ∧
      (id < 4096 → 128 ≤ (u.core (id / 4)).hold.length → ∃ t, exec (.gSt d a r z o) s = .next t ∧
        t.ctx id = { c with wait := .room } ∧ t.teams = s.teams ∧ t.groups = s.groups ∧ SameBytes s t ∧
        ∀ k, (t.core k).hold = (s.core k).hold) ∧
      (4096 ≤ id → u.egressRoom (ctxDie id) pls = true → ∃ t, exec (.gSt d a r z o) s = .next t ∧
        t.ctx id = afterStore c rel 0 ∧ Stored s t pls va n x ∧
        OthersStand s t id))

/-- R176, R186, R248, R256, R257: AMO gives s[d] the old value of its location, at whose copies the new value stands after it,
and no other byte of memory changes; in a team it first waits until hold-back holds no store of the team and none to its
lines, and until no other core's lease keeps the line, and seals the region. A misaligned address, a page without permission,
a page that is not there and poison stop it; the access code shows the order as GMODE.orderfloor raises it (log entry 26). -/
def Obligations.AtomicOfAContextActsAtTheHome : Prop :=
  ∀ (s u : State) (id : Nat) (w : W32) (d a b : BitVec 6) (p : BitVec 4) (o : BitVec 2) (z : BitVec 1) (pls : List Nat)
    (home : Nat) (pk : PageKind), GTurn s id w [d, a, b] → p.toNat ≤ 9 →
    let c := s.ctx id
    let va := c.get a
    let n := 4 + 4 * z.toNat
    let v := (c.get b).toNat % 2 ^ (8 * n)
    let cmp := (c.get d).toNat % 2 ^ (8 * n)
    let old := leNat (s.bytes home n)
    let ord := o ||| c.gmode.extractLsb' 10 2
    let at_ := home :: pls.filter (fun x => x != home)
    let code := accessCode (2 + z.toNat) ord.toNat true false
    (va.toNat % n ≠ 0 → Raises s id w (exec (.gAmo d a b p o z) s) 0xA va code 0) ∧
    (va.toNat % n = 0 → StopsG s id w va .amo code (exec (.gAmo d a b p o z) s)) ∧
    (va.toNat % n = 0 → Found s id va .amo u pls home pk → isFar home = false → isMmio home = false →
      u.egressRoom (ctxDie id) at_ = true → u.promoteWaits id (ord.getLsbD 0) at_ = false →
      (id < 4096 → (ord.getLsbD 1 = true → ReleaseFree u id c.scope) ∧
        (∀ h ∈ (u.core (id / 4)).hold, h.team ≠ id ∧ ∀ x ∈ at_, x / 128 ∉ h.lines) ∧
        ∀ x ∈ at_, u.leaseBlocks (id / 4) (x / 128) = false) →
      (4096 ≤ id → ord.getLsbD 1 = true → u.relDoneG id c.scope 0 = true) →
      (u.poisoned home = false → ∃ t, exec (.gAmo d a b p o z) s = .next t ∧
        t.ctx id = (c.put d (BitVec.ofNat 64 old)).done ∧
        (match amoNew p.toNat (8 * n) old v cmp with
         | some y => Stored s t (home :: pls) va n y
         | none => SameBytes s t) ∧
        (id < 4096 → t.team id = (s.team id).seal)) ∧
      (u.readsBad home = true → ∃ v, SameBytes s v ∧ v.ctxs = s.ctxs ∧ v.teams = s.teams ∧
        Raises v id w (exec (.gAmo d a b p o z) s) 0xD va code 0)) ∧
    (va.toNat % n = 0 → Found s id va .amo u pls home pk → id < 4096 → (∃ h ∈ (u.core (id / 4)).hold, h.team = id) →
      ∃ t k, exec (.gAmo d a b p o z) s = .next t ∧ t.ctx id = { c with wait := .irrevocable k } ∧ SameBytes s t)

/-- R198, R199, R248, R252, R253, R456: LDS reads the share; LDF reads a full word and in TAKE mode leaves it empty; STE
writes a word, waits for it to be empty in WAIT mode, and fills its tag in WAIT and SET mode; an offset outside the share,
which is empty for a context of no team, raises G_SCRATCH, a misaligned one G_ALIGN, and a poisoned word that is read
G_POISON. The access code of LDS shows the order as GMODE.orderfloor raises it (log entry 26). -/
def Obligations.ScratchpadWordsOfAContext : Prop :=
  ∀ (s : State) (id : Nat) (w : W32) (d a : BitVec 6) (r z m : BitVec 2) (o : BitVec 10), GTurn s id w [d, a] →
    let c := s.ctx id
    let t0 := s.team id
    let share := if id < 4096 then t0.share else 0
    let x := wordAddr c a z o
    let y := c.get a
    let acq := r.getLsbD 0 || c.gmode.getLsbD 10
    let code := accessCode z.toNat (if acq then 1 else 0) false true
    let lds := exec (.gLds d a r z o) s
    (share ≤ x.toNat → Raises s id w lds 0xF x code (BitVec.ofNat 64 share)) ∧
    (x.toNat < share → x.toNat % 2 ^ z.toNat ≠ 0 → Raises s id w lds 0xA x code 0) ∧
    (x.toNat < share → x.toNat % 2 ^ z.toNat = 0 → t0.rangePoisoned x.toNat (2 ^ z.toNat) = true →
      Raises s id w lds 0xD x code 0) ∧
    (x.toNat < share → x.toNat % 2 ^ z.toNat = 0 → t0.rangePoisoned x.toNat (2 ^ z.toNat) = false →
      ∃ t, lds = .next t ∧ SetsReg s t id d (BitVec.ofNat 64 (t0.spRead x.toNat (2 ^ z.toNat)))) ∧
    (share ≤ y.toNat → Raises s id w (exec (.gLdf d a m) s) 0xF y (accessCode 2 0 false true) (BitVec.ofNat 64 share) ∧
      Raises s id w (exec (.gSte d a m) s) 0xF y (accessCode 2 0 true true) (BitVec.ofNat 64 share)) ∧
    (y.toNat < share → y.toNat % 4 ≠ 0 → Raises s id w (exec (.gLdf d a m) s) 0xA y (accessCode 2 0 false true) 0 ∧
      Raises s id w (exec (.gSte d a m) s) 0xA y (accessCode 2 0 true true) 0) ∧
    (y.toNat < share → y.toNat % 4 = 0 →
      (t0.spFull y.toNat = false → ∃ t, exec (.gLdf d a m) s = .next t ∧ Stalls s t id (.tag y.toNat true)) ∧
      (t0.spFull y.toNat = true → t0.spPoisoned y.toNat = true →
        Raises s id w (exec (.gLdf d a m) s) 0xD y (accessCode 2 0 false true) 0) ∧
      (t0.spFull y.toNat = true → t0.spPoisoned y.toNat = false → ∃ t, exec (.gLdf d a m) s = .next t ∧
        OnlyCtxTeam s t id ∧ t.ctx id = (c.put d (BitVec.ofNat 64 (t0.spRead y.toNat 4))).done ∧
        t.team id = (if m = 0 then t0.setTag y.toNat false else t0)) ∧
      (m = 0 → t0.spFull y.toNat = true → ∃ t, exec (.gSte d a m) s = .next t ∧ Stalls s t id (.tag y.toNat false)) ∧
      ((m = 0 → t0.spFull y.toNat = false) → ∃ t, exec (.gSte d a m) s = .next t ∧ OnlyCtxTeam s t id ∧
        t.ctx id = c.done ∧
        let t1 := t0.spWrite y.toNat (natLe 4 (c.get d).toNat)
        t.team id = if m = 2 then t1 else t1.setTag y.toNat true))

/-- R4, R198, R199, R200: a share reads back the bytes last written to it, whichever way its exchange banks stand, a write
changes no other byte, and a tag reads as it was last set. -/
def Obligations.ShareReadsBackItsLastWrite : Prop :=
  ∀ (t : Team) (off n x k : Nat) (b : Bool), 2 * t.xwin ≤ t.share → t.xwin % 4 = 0 →
    t.share % 4 = 0 →
    (t.spWrite off (natLe n x)).spRead off n = x % 256 ^ n ∧
    (k < off ∨ off + n ≤ k → (t.spWrite off (natLe n x)).spBytesAt k 1 = t.spBytesAt k 1) ∧
    (t.setTag off b).spFull k = (if k / 4 = off / 4 then b else t.spFull k)

/-- R225, R228, R269, R270, R379: FENCE goes on once what it waits for has happened, and stalls till then; MONITOR arms the
context's waiter slot on the line of its address, on another device once its home has answered, or none where all slots are in
use; MWAITA gives 4 without a monitor, also past its deadline (log entry 100), 1 and 2 for a write and a passed deadline, and
otherwise waits. -/
def Obligations.FenceMonitorAndMwaitaOfAContext : Prop :=
  ∀ (s : State) (id : Nat) (w : W32) (d a : BitVec 6) (e : BitVec 3) (r : BitVec 2), GTurn s id w [d, a] →
    let c := s.ctx id
    let upTo := match c.wait with | .fence u => u | _ => (s.core (teamCore id)).hbSerial
    let go := FenceMay s id r ((c.get a).toNat % 256) e.toNat upTo
    let armed (m : Option Monitor) : Ctx :=
      { c with monitor := m, pc := c.pc + 4, wait := .ready, arrived := none, issues := c.issues + 1 }
    (go → ∃ t, exec (.gFence e a r) s = .next t ∧ ReadsInto s t id c.done ∧ SameBytes s t) ∧
    (¬ go → ∃ t, exec (.gFence e a r) s = .next t ∧ Stalls s t id (.fence upTo)) ∧
    (r.getLsbD 1 = false → e = 0 → go) ∧
    StopsG s id w (c.get a) .load (accessCode 0 0 false false) (exec (.gMonitor a) s) ∧
    (∀ u pls home pk, Found s id (c.get a) .load u pls home pk →
      (isPeerLine (home / 128) = false → (∀ m, c.monitor = some m → m.src = none) →
        (c.monitor.isSome ∨ 4096 ≤ id ∨ u.waiters (id / 4) < 16 → ∃ t, exec (.gMonitor a) s = .next t ∧ SameBytes s t ∧
          t.ctx id = armed (some { line := home / 128, woken := false, die := ctxDie id })) ∧
        (c.monitor = none → id < 4096 → 16 ≤ u.waiters (id / 4) → ∃ t, exec (.gMonitor a) s = .next t ∧ SameBytes s t ∧
          t.ctx id = armed none)) ∧
      ∀ m n, c.wait = .room → c.monitor = some m → m.src = some n → m.line = home / 128 →
        (u.arming c.monitor = true → ∃ t, exec (.gMonitor a) s = .next t ∧ SameBytes s t ∧ t.ctx id = c) ∧
        (u.arming c.monitor = false → ∃ t, exec (.gMonitor a) s = .next t ∧ SameBytes s t ∧
          t.ctx id = armed (some { m with src := none }))) ∧
    (let late := c.get a ≠ 0 ∧ (c.get a).toNat ≤ s.clk * 5 / 8
     (c.monitor = none → ∃ t, exec (.gMwaita d a) s = .next t ∧ ReadsInto s t id (c.put d 4).done ∧ SameBytes s t) ∧
     ∀ m, c.monitor = some m →
       (m.woken = true ∨ late → ∃ t x, exec (.gMwaita d a) s = .next t ∧ SameBytes s t ∧ x ≠ 0 ∧
          t.ctx id = (({ c with monitor := none } : Ctx).put d x).done ∧
          x.getLsbD 0 = m.woken ∧ (x.getLsbD 1 = true ↔ late)) ∧
       (m.woken = false → ¬ late → ∃ t, exec (.gMwaita d a) s = .next t ∧
         OnlyCtx s t id ∧ t.ctx id = { c with wait := .monitor, deadline := c.get a }))

/-- R273, R275, R276, R278: a copy word with a scratchpad range outside the share raises G_SCRATCH, and COPYS with a
misaligned buffer G_ALIGN; COPY or COPYZ of no bytes completes at once with status 0; else the word hands one operation to the
context's copy engine, sets the token of sd and goes on, or waits while that engine holds 64 operations. The access code of a
range has size and order 0 (log entry 102), the source is named before the destination (log entry 113), and the engine of a
prologue context is its die's first (log entry 16). -/
def Obligations.CopyWordsHandOverOneOperation : Prop :=
  ∀ (s : State) (id : Nat) (w : W32) (d a b : BitVec 6), a ≠ 0 →
    let c := s.ctx id
    let n := (c.get b).toNat % 2 ^ 32
    let f := (c.get b).toNat / 2 ^ 32
    let share := if id < 4096 then (s.team id).share else 0
    let src := c.get a
    let dst := c.get (a + 1)
    let room := (s.engine (engineOf id)).length < 64
    let sh := (c.get b).toNat
    let rows := sh % 4096 + 1
    let cols := sh / 4096 % 4096 + 1
    let fmt := sh / 2 ^ 24 % 16
    let nib := if fmt ≤ 1 then 4 else if fmt ≤ 4 then 2 else 1
    let odd := 5 < fmt ∨ (fmt = 5 ∧ cols % 2 = 1)
    let need := if odd then 1 else 16 + rows * ((cols * nib / 2 + 15) / 16 * 16)
    (GTurn s id w [d, a, a + 1, b] → a ≠ 63 →
      ((f % 2 = 1 → src.toNat + n ≤ share) → (f / 2 % 2 = 1 → dst.toNat + n ≤ share) →
        (f < 8 → n = 0 → ∃ t, exec (.gCopy d a b) s = .next t ∧ SetsReg s t id d 0) ∧
        (¬ (f < 8 ∧ n = 0) → room → ∃ t, exec (.gCopy d a b) s = .next t ∧ CopyGiven s t id d .copy src dst n) ∧
        (¬ (f < 8 ∧ n = 0) → ¬ room → ∃ t, exec (.gCopy d a b) s = .next t ∧ Stalls s t id .room)) ∧
      (f % 2 = 1 → share < src.toNat + n → Raises s id w (exec (.gCopy d a b) s) 0xF src (accessCode 0 0 false true)
        (BitVec.ofNat 64 share)) ∧
      ((f % 2 = 1 → src.toNat + n ≤ share) → f / 2 % 2 = 1 → share < dst.toNat + n →
        Raises s id w (exec (.gCopy d a b) s) 0xF dst (accessCode 0 0 true true) (BitVec.ofNat 64 share))) ∧
    (GTurn s id w [d, a, a + 1, b] → a ≠ 63 →
      (share < dst.toNat + need → Raises s id w (exec (.gCopys d a b) s) 0xF dst (accessCode 0 0 true true)
        (BitVec.ofNat 64 share)) ∧
      (dst.toNat + need ≤ share → ¬ odd → dst.toNat % 16 ≠ 0 → Raises s id w (exec (.gCopys d a b) s) 0xA dst
        (accessCode 0 0 true true) 0) ∧
      (dst.toNat + need ≤ share → (¬ odd → dst.toNat % 16 = 0) →
        (room → ∃ t, exec (.gCopys d a b) s = .next t ∧ CopyGiven s t id d .shape src dst 0) ∧
        (¬ room → ∃ t, exec (.gCopys d a b) s = .next t ∧ Stalls s t id .room))) ∧
    (GTurn s id w [d, a, b] →
      ((f / 2 % 2 = 1 → src.toNat + n ≤ share) →
        (f &&& 6 = f → n = 0 → ∃ t, exec (.gCopyz d a b) s = .next t ∧ SetsReg s t id d 0) ∧
        (f &&& 6 ≠ f ∨ n ≠ 0 → room → ∃ t, exec (.gCopyz d a b) s = .next t ∧ CopyGiven s t id d .zero 0 src n) ∧
        (f &&& 6 ≠ f ∨ n ≠ 0 → ¬ room → ∃ t, exec (.gCopyz d a b) s = .next t ∧ Stalls s t id .room)) ∧
      (f / 2 % 2 = 1 → share < src.toNat + n → Raises s id w (exec (.gCopyz d a b) s) 0xF src (accessCode 0 0 true true)
        (BitVec.ofNat 64 share)))

/-! ## The words that feed groups and the matrix unit -/

/-- R340, R341, R346: EMIT pushes one C-word to an armed group and folds it into the expected signature; a group that is not
the team's or not armed raises G_GROUP, 192 retained entries G_REGION_OVERFLOW; without a free place the word acts nb or
waits. A header pushed while words of a clause are owed counts as one of them (log entry 111). -/
def Obligations.EmitPushesOneWordOrSaysWhy : Prop :=
  ∀ (s : State) (id : Nat) (w : W32) (g : BitVec 4) (a : BitVec 6) (n : BitVec 3) (z r : BitVec 1), GTurn s id w [a] →
    let k := s.grp (id * 16 + g.toNat)
    let x := ((s.ctx id).get a).extractLsb' 0 32
    let i : Instr := .gEmit g a n z r
    (¬ GroupOpen s id g.toNat → Raises s id w (exec i s) 0x7 0 (BitVec.ofNat 64 g.toNat)
      (BitVec.ofNat 64 (if id < 4096 then (s.team id).groups else 0))) ∧
    (GroupOpen s id g.toNat → 192 ≤ k.queue.length → Raises s id w (exec i s) 0x9 0 (BitVec.ofNat 64 g.toNat) 192) ∧
    (GroupOpen s id g.toNat → k.queue.length < 192 →
      (64 ≤ liveOf s id g.toNat → FullOrWait s id i z n (.queue g.toNat)) ∧
      (liveOf s id g.toNat < 64 → ∃ t, exec i s = .next t ∧ FeedFrame s t id (· = id * 16 + g.toNat) ∧
        Queued s t id g.toNat [(.word, x.zeroExtend 64)] ∧ t.ctx id = fedCtx (s.ctx id) z n ∧
        FedTeam (s.team id) (t.team id) g.toNat x))

/-- R339, R341, R344, R345: EMITM pushes one word to the matrix queue; EMITB pushes one word to every group of a mask, as one
step; EMITL pushes the words of a literal in their order. A header among owed words counts as one of them (log entry 111). -/
def Obligations.EmitmEmitbAndEmitlPushTheirWords : Prop :=
  ∀ (s : State) (id : Nat) (w : W32) (a b : BitVec 6) (n : BitVec 3) (z r : BitVec 1), id < 4096 →
    let c := s.ctx id
    let x := (c.get a).extractLsb' 0 32
    (GTurn s id w [a] → (s.team id).mq.length < 192 →
      (((s.team id).mq.filter (fun e => !e.consumed)).length < 64 → ∃ t, exec (.gEmitm a n z r) s = .next t ∧
        FeedFrame s t id (fun _ => False) ∧ t.ctx id = fedCtx c z n ∧
        t.team id = { s.team id with mq := (t.team id).mq, mPushed := (s.team id).mPushed + 1 } ∧
        Behind (s.team id).mq (t.team id).mq c.pc [(.word, x.zeroExtend 64)]) ∧
      (64 ≤ ((s.team id).mq.filter (fun e => !e.consumed)).length → FullOrWait s id (.gEmitm a n z r) z n (.queue 16))) ∧
    (GTurn s id w [a, b] →
      (∀ g, g < 16 → (c.get b).getLsbD g = true →
        GroupOpen s id g ∧ (s.grp (id * 16 + g)).queue.length < 192 ∧ liveOf s id g < 64) →
      ∃ t, exec (.gEmitb n a b z r) s = .next t ∧ t.ctx id = fedCtx c z n ∧
        FeedFrame s t id (fun j => ∃ g, g < 16 ∧ (c.get b).getLsbD g = true ∧ j = id * 16 + g) ∧
        ∀ g, g < 16 → (c.get b).getLsbD g = true → Queued s t id g [(.word, x.zeroExtend 64)]) ∧
    (∀ (g : BitVec 4) (m : BitVec 4) (o : BitVec 17) (u : State) (l : List W32), GTurn s id w [] →
      GroupOpen s id g.toNat → (s.grp (id * 16 + g.toNat)).queue.length + m.toNat < 192 →
      s.literal id w (c.pc.signExtend 64 + 4 * o.signExtend 64) (m.toNat + 1) = (u, some l) →
      liveOf s id g.toNat + m.toNat < 64 →
      ∃ t, exec (.gEmitl g z m o) s = .next t ∧ Unseen s u ∧ FeedFrame u t id (· = id * 16 + g.toNat) ∧
        t.ctx id = fedCtx c z 0 ∧ Queued s t id g.toNat (l.map (fun x => (.word, x.zeroExtend 64))))

/-- R122, R282, R343: EMITK pushes a constant to a group's K queue, and with its k bit the expected signature; GSETB pushes a
base behind the words emitted before it, MDSET the two halves of a descriptor. -/
def Obligations.EmitkGsetbAndMdsetPushTheirValues : Prop :=
  ∀ (s : State) (id : Nat) (w : W32) (g m : BitVec 4) (a b : BitVec 6) (n : BitVec 3) (y z r : BitVec 1), id < 4096 →
    let c := s.ctx id
    let k := s.grp (id * 16 + g.toNat)
    let t0 := s.team id
    (GTurn s id w [a] → GroupOpen s id g.toNat → k.kq.length < 32 → ∃ t, exec (.gEmitk g a y n z r) s = .next t ∧
      FeedFrame s t id (· = id * 16 + g.toNat) ∧ t.team id = t0 ∧ t.ctx id = fedCtx c z n ∧
      t.grp (id * 16 + g.toNat) = { k with kq := k.kq ++ [{
        val := if y = 1 then t0.exp g.toNat else (c.get a).extractLsb' 0 32, popped := false, epoch := t0.regIssued }] }) ∧
    (GTurn s id w [a] → GroupOpen s id g.toNat → t0.owed g.toNat = 0 → k.queue.length < 192 → liveOf s id g.toNat < 64 →
      ∃ t, exec (.gGsetb g a n) s = .next t ∧ FeedFrame s t id (· = id * 16 + g.toNat) ∧ t.team id = t0 ∧
        t.ctx id = c.done ∧ Queued s t id g.toNat [(.gsetb n.toNat, c.get a)]) ∧
    (GTurn s id w [a] → GroupOpen s id g.toNat → t0.owed g.toNat ≠ 0 → Raises s id w (exec (.gGsetb g a n) s) 0x8 0
      (BitVec.ofNat 64 g.toNat) (BitVec.ofNat 64 (t0.owed g.toNat))) ∧
    (GTurn s id w [a, b] → t0.mq.length + 2 ≤ 192 → (t0.mq.filter (fun e => !e.consumed)).length + 2 ≤ 64 →
      ∃ t, exec (.gMdset m a b) s = .next t ∧ FeedFrame s t id (fun _ => False) ∧ t.ctx id = c.done ∧
        t.team id = { t0 with mq := (t.team id).mq } ∧
        Behind t0.mq (t.team id).mq c.pc [(.descriptor m.toNat false, c.get a), (.descriptor m.toNat true, c.get b)])

/-- R125, R347, R348: POP takes the oldest doubleword of a group's return queue into s[d] and completes, or acts nb or waits;
QSTAT completes and gives the counts of a group's queues, or of the matrix queue for group 16, as they stood at the last
core-clock edge, and that edge takes them as the rule lays them out, the emit state in its four bits (log entry 89); a group
that the team has not raises G_GROUP. -/
def Obligations.PopAndQstatReadTheQueues : Prop :=
  ∀ (s : State) (id : Nat) (w : W32) (d : BitVec 6) (g : BitVec 4) (n : BitVec 3) (z : BitVec 1), GTurn s id w [d] →
    id < 4096 →
    let c := s.ctx id
    let k := s.grp (id * 16 + g.toNat)
    let unread (l : List REntry) : List W64 := (l.filter (fun e => !e.popped)).map (·.val)
    let none_ (o : Host.Outcome State Fault Refusal) (j : Nat) : Prop :=
      Raises s id w o 0x7 0 (BitVec.ofNat 64 j) (BitVec.ofNat 64 (s.team id).groups)
    ((s.team id).groups ≤ g.toNat → none_ (exec (.gPop d g n z) s) g.toNat ∧
      none_ (exec (.gQstat d (g.zeroExtend 5)) s) g.toNat) ∧
    (g.toNat < (s.team id).groups → ∀ x l, unread k.rq = x :: l →
      ∃ t, exec (.gPop d g n z) s = .next t ∧ FeedFrame s t id (· = id * 16 + g.toNat) ∧ t.team id = s.team id ∧
      t.grp (id * 16 + g.toNat) = { k with rq := (t.grp (id * 16 + g.toNat)).rq } ∧
      unread (t.grp (id * 16 + g.toNat)).rq = l ∧ t.ctx id = fedCtx (c.put d x) z n) ∧
    (g.toNat < (s.team id).groups → unread k.rq = [] → FullOrWait s id (.gPop d g n z) z n (.returnQueue g.toNat)) ∧
    (g.toNat < (s.team id).groups → ∃ t, exec (.gQstat d (g.zeroExtend 5)) s = .next t ∧ SetsReg s t id d k.edge.stat) ∧
    (∃ t, exec (.gQstat d 16) s = .next t ∧ SetsReg s t id d (s.team id).mStat) ∧
    (g.toNat < (s.team id).groups → ((s.takeEdge id).grp (id * 16 + g.toNat)).edge.stat = BitVec.ofNat 64 (
      (64 - liveOf s id g.toNat) + k.queue.length * 2 ^ 8 + (32 - k.kq.length) * 2 ^ 16 + (unread k.rq).length * 2 ^ 24
      + (s.team id).owed g.toNat % 16 * 2 ^ 32 + (if k.armed then 2 ^ 40 else 0) + (if k.wait = .parked then 2 ^ 41 else 0)
      + if k.wait = .held then 2 ^ 42 else 0)) ∧
    ((s.takeEdge id).team id).mStat = BitVec.ofNat 64 (
      (64 - ((s.team id).mq.filter (fun e => !e.consumed)).length) + (s.team id).mq.length * 2 ^ 8)

/-- R69, R183, R298, R349, R350: REGION raises G_CLAUSE_OPEN while a group of the team, armed or retired, owes words (log
entry 107), waits
for the region before it and for places, and pushes one marker to every armed group and one to the matrix queue, and counts a
region; GARM arms a retired group with its registers reset; MWAIT answers a complete batch at once and else sets a token or
waits; YIELD takes its context out of turn. -/
def Obligations.RegionGarmMwaitAndYield : Prop :=
  ∀ (s : State) (id : Nat) (w : W32) (g : BitVec 4) (d a : BitVec 6), id < 4096 →
    let c := s.ctx id
    let t0 := s.team id
    let k := s.grp (id * 16 + g.toNat)
    let armed (j : Nat) : Prop := ∃ x, x < t0.groups ∧ j = id * 16 + x ∧ (s.grp j).armed = true
    let places := (∀ x, x < t0.groups → armed (id * 16 + x) → liveOf s id x < 64) ∧
      (t0.mq.filter (fun e => !e.consumed)).length < 64
    (GTurn s id w [] → ∀ x, x < t0.groups → t0.owed x ≠ 0 → (∀ y, y < x → t0.owed y = 0) →
      Raises s id w (exec .gRegion s) 0x8 0 (BitVec.ofNat 64 x) (BitVec.ofNat 64 (t0.owed x))) ∧
    (GTurn s id w [] → (∀ x, x < t0.groups → t0.owed x = 0) → ¬ (t0.regIssued = t0.regCommitted ∧ places) →
      ∃ t, exec .gRegion s = .next t ∧ Stalls s t id .region) ∧
    (GTurn s id w [] → (∀ x, x < t0.groups → t0.owed x = 0) → t0.regIssued = t0.regCommitted → places →
      ∃ t, exec .gRegion s = .next t ∧ FeedFrame s t id armed ∧ t.ctx id = { c.done with pendEntry := c.pc + 4 } ∧
        (t.team id).regIssued = t0.regIssued + 1 ∧ Behind t0.mq (t.team id).mq c.pc [(.marker, 0xB000000C#64)] ∧
        (∀ x, x < t0.groups → armed (id * 16 + x) → Queued s t id x [(.marker, 0xB000000C#64)] ∧
          (t.team id).exp x = 0xFFFFFFFF#32)) ∧
    (GTurn s id w [] → t0.groups ≤ g.toNat ∨ k.armed = true → Raises s id w (exec (.gGarm g) s) 0x7 0
      (BitVec.ofNat 64 g.toNat) (BitVec.ofNat 64 t0.groups)) ∧
    (GTurn s id w [] → g.toNat < t0.groups → k.armed = false → k.queue.length < 192 → k.pend ≠ [] ∨ k.late ≠ [] →
      ∃ t, exec (.gGarm g) s = .next t ∧ Stalls s t id .room) ∧
    (GTurn s id w [] → g.toNat < t0.groups → k.armed = false → k.queue.length < 192 → k.pend = [] → k.late = [] →
      ∃ t, exec (.gGarm g) s = .next t ∧ FeedFrame s t id (· = id * 16 + g.toNat) ∧ t.ctx id = c.done ∧
        (let k1 := t.grp (id * 16 + g.toNat)
         k1.armed = true ∧ k1.v = [] ∧ k1.p = [] ∧ k1.mode = 0 ∧ k1.ab = [] ∧ k1.cf = [] ∧ k1.active = 0xFFFFFFFF#32 ∧
           k1.stack = [] ∧ k1.fpx = 0 ∧ k1.esn = 0 ∧ k1.sig = 0xFFFFFFFF#32 ∧ k1.kq = k.kq ∧ k1.rq = k.rq) ∧
        (t.team id).owed g.toNat = 0 ∧ (t.team id).exp g.toNat = 0xFFFFFFFF#32) ∧
    (GTurn s id w [d, a] → let b := (c.get a).toNat % 1024
      (t0.batchDone b = true → ∃ t, exec (.gMwait d a) s = .next t ∧ SetsReg s t id d 0xFFFFFFFFFFFFFFFF#64) ∧
      (t0.batchDone b = false → d ≠ 0 → ∃ t, exec (.gMwait d a) s = .next t ∧ OnlyCtx s t id ∧
        t.ctx id = (({ c with mwaits := c.mwaits ++ [(b, d.toNat, c.pc)] } : Ctx).setTok d.toNat true).done) ∧
      (t0.batchDone b = false → d = 0 → ∃ t, exec (.gMwait d a) s = .next t ∧ Stalls s t id (.batch b))) ∧
    (GTurn s id w [] → ∃ t, exec .gYield s = .next t ∧ OnlyCtx s t id ∧
      t.ctx id = { c.done with wait := .yield, yieldEnd := s.clk + 8, yieldSeen := [] })

/-! ## The generator's barrier words -/

/-- R389 to R392, R394, R395: BARINIT sets the members of a barrier that nobody has arrived at; BARARV and BARDROP arrive as
agent 16, BARAW arrives and then waits for the flip, BARWAIT waits for a phase; a barrier that the team has not raises
G_ILLEGAL, an arrival that may not be G_BARRIER_OVER. At the end of a core clock a barrier whose members have all arrived
flips, and a context that waits for a phase that is there has executed its word. -/
def Obligations.BarrierWordsOfAContext : Prop :=
  ∀ (s : State) (id : Nat) (w : W32) (b : BitVec 5) (a : BitVec 6), GTurn s id w [a] → id < 4096 →
    let c := s.ctx id
    let x := (s.team id).bar b.toNat
    let n := (c.get a).toNat % 2 ^ 18
    let none_ : Nat → Prop := fun _ => False
    ((s.team id).bars ≤ b.toNat → Raises s id w (exec (.gBararv b) s) 0x1 0 0 0) ∧
    (b.toNat < (s.team id).bars →
      (x.toNat / 2 ^ 18 % 2 ^ 18 = 0 → (∀ g, g < 16 → n.testBit g = true → GroupOpen s id g) →
        ∃ t, exec (.gBarinit b a) s = .next t ∧ BarFrame s t id b.toNat none_ ∧ t.ctx id = c.done ∧
          BarIs ((t.team id).bar b.toNat) n 0 0 (x.getLsbD 54)) ∧
      (BarOpen x 16 → ∃ t, exec (.gBararv b) s = .next t ∧ BarFrame s t id b.toNat none_ ∧ t.ctx id = c.done ∧
        BarArrival x ((t.team id).bar b.toNat) 16 false) ∧
      (BarOpen x 16 → ∃ t, exec (.gBardrop b) s = .next t ∧ BarFrame s t id b.toNat none_ ∧ t.ctx id = c.done ∧
        BarArrival x ((t.team id).bar b.toNat) 16 true) ∧
      (¬ BarOpen x 16 → Raises s id w (exec (.gBararv b) s) 0xE 0 (BitVec.ofNat 64 b.toNat)
        (BitVec.ofNat 64 (x.toNat / 2 ^ 18 % 2 ^ 18))) ∧
      (BarOpen x 16 → c.arrived = none → ∃ t, exec (.gBaraw b) s = .next t ∧ BarFrame s t id b.toNat none_ ∧
        BarArrival x ((t.team id).bar b.toNat) 16 false ∧ t.ctx id = { c with
          wait := .barrier b.toNat (!x.getLsbD 54) false, arrived := some (b.toNat, !x.getLsbD 54) }) ∧
      (∀ j p, c.arrived = some (j, p) → x.getLsbD 54 = p →
        ∃ t, exec (.gBaraw b) s = .next t ∧ SetsNothing s t id) ∧
      BarFlip x (barSettle x) ∧
      (∀ p, c.wait = .barrier b.toNat p false → c.releaseBar (s.team id) = if x.getLsbD 54 = p then c.done else c) ∧
      (x.getLsbD 54 = (c.get a).getLsbD 0 → ∃ t, exec (.gBarwait b a) s = .next t ∧ SetsNothing s t id) ∧
      (x.getLsbD 54 ≠ (c.get a).getLsbD 0 → ∃ t, exec (.gBarwait b a) s = .next t ∧
        Stalls s t id (.barrier b.toNat ((c.get a).getLsbD 0) false)))

/-- R69, R183, R204, R231, R236, R396 to R398: GBARINIT, of a gang's first team, makes every resident team of the gang a
member of a gang barrier that nobody has arrived at; GBARARV and GBARDROP fail or push the markers of a REGION, as it would (log
entry 107),
and owe their arrival, which follows once that region has committed and every earlier store of the core has left, or raises
G_BARRIER_OVER then (log entry 18); GBARWAIT waits for a phase, and its end drops the WT lines of the core; a team outside a
gang raises G_ILLEGAL. -/
def Obligations.GangBarrierWordsOfAContext : Prop :=
  ∀ (s : State) (id : Nat) (w : W32) (b : BitVec 3) (a : BitVec 6), GTurn s id w [a] → id < 4096 →
    let c := s.ctx id
    let t0 := s.team id
    (t0.gang = none → Raises s id w (exec (.gGbarinit b) s) 0x1 0 0 0 ∧ Raises s id w (exec (.gGbararv b) s) 0x1 0 0 0 ∧
      Raises s id w (exec (.gGbardrop b) s) 0x1 0 0 0 ∧ Raises s id w (exec (.gGbarwait b a) s) 0x1 0 0 0) ∧
    ∀ g e n d p, t0.gang = some g → (kvFind s.gangs g).isSome = true → (s.gang g).bar b.toNat = (e, n, d, p) →
      (t0.gangIdx = 0 → n = 0 → ∃ t, exec (.gGbarinit b) s = .next t ∧ t.ctx id = c.done ∧ SameBytes s t ∧
        (t.gang g).bar b.toNat = ((s.teams.filter (fun x => x.2.gang = some g)).length, 0, 0, p) ∧
        ∀ j, s.hasTeam j = true → (s.team j).gang = some g → b.toNat ∈ (t.team j).gbMember) ∧
      (t0.gbOwed = none →
        (∀ u, s.regionTry id w = (u, true) →
          let owed (y : Bool) : GbOwed := {
            gb := b.toNat, drop := y, word := w, pc := c.pc, region := (u.team id).regIssued
            upTo := (u.core (id / 4)).hbSerial }
          let after (y : Bool) : State := (u.setTeam id { u.team id with gbOwed := some (owed y) }).setCtx id { u.ctx id with
            wait := .gangRegion b.toNat y }
          exec (.gGbararv b) s = .next (after false) ∧ exec (.gGbardrop b) s = .next (after true)) ∧
        (∀ x, x < t0.groups → t0.owed x ≠ 0 → (∀ y, y < x → t0.owed y = 0) →
          Raises s id w (exec (.gGbararv b) s) 0x8 0 (BitVec.ofNat 64 x) (BitVec.ofNat 64 (t0.owed x)) ∧
          Raises s id w (exec (.gGbardrop b) s) 0x8 0 (BitVec.ofNat 64 x) (BitVec.ofNat 64 (t0.owed x))) ∧
        ((∀ x, x < t0.groups → t0.owed x = 0 ∧ ((s.grp (id * 16 + x)).armed = true → liveOf s id x < 64)) →
          t0.regIssued = t0.regCommitted → (t0.mq.filter (fun q => !q.consumed)).length < 64 →
          ∃ u, s.regionTry id w = (u, true) ∧ (u.team id).regIssued = t0.regIssued + 1 ∧
            Behind t0.mq (u.team id).mq c.pc [(.marker, 0xB000000C#64)])) ∧
      (∀ o, t0.gbOwed = some o → ∃ t u, exec (.gGbararv b) s = .next t ∧ exec (.gGbardrop b) s = .next u ∧
        Stalls s t id (if o.left then .region else .gangRegion o.gb o.drop) ∧
        Stalls s u id (if o.left then .region else .gangRegion o.gb o.drop)) ∧
      (∀ o, t0.gbOwed = some o → o.gb = b.toNat → o.left = false → o.region ≤ t0.regCommitted →
        s.holdPast (id / 4) o.upTo = true →
        let u := s.gangArrival id
        (b.toNat ∈ t0.gbMember → b.toNat ∉ t0.gbArrived → c.wait = .gangRegion b.toNat o.drop →
          (u.team id).gbOwed = none ∧ u.ctx id = c.done ∧
          let d1 := if o.drop then d + 1 else d
          (u.gang g).bar b.toNat = if n + 1 = e then (e - d1, 0, 0, !p) else (e, n + 1, d1, p)) ∧
        (b.toNat ∉ t0.gbMember ∨ b.toNat ∈ t0.gbArrived → u = (s.setTeam id { t0 with gbOwed := none }).raiseG id
          { code := 0xE, t4 := BitVec.ofNat 64 (b.toNat + 256), t5 := BitVec.ofNat 64 n } o.word)) ∧
      (p = (c.get a).getLsbD 0 → ∃ t, exec (.gGbarwait b a) s = .next t ∧
        t = { s with ctxs := t.ctxs, copies := t.copies } ∧ (∀ j, j ≠ id → t.ctx j = s.ctx j) ∧ t.ctx id = c.done ∧
        ∀ k ∈ t.copies, k.os = true ∨ (k.cache ≠ id / 4 ∧ k.cache ≠ rdcOf (id / 4))) ∧
      (p ≠ (c.get a).getLsbD 0 → ∃ t, exec (.gGbarwait b a) s = .next t ∧
        Stalls s t id (.barrier b.toNat ((c.get a).getLsbD 0) true))

/-! ## Supervisor and prologue words -/

/-- R131, R237, R248, R357, R358, R367, R368, R386: in a supervisor context TLBI without drain leaves no translation of its
range in the die and answers with the acknowledgements, WFI gives its reasons or waits, SENDM queues the 64 bytes of its
message, or completes unsent where its mask selects no instance (one to another device first waits for the writes of the
context to leave quarantine), RECVM stores the oldest message and gives its sequence number, SWAPT asks for a swap and gives
its code. -/
def Obligations.SupervisorWordsComplete : Prop :=
  ∀ (s : State) (id : Nat) (w : W32) (d a b : BitVec 6) (z : BitVec 1) (n : BitVec 3), isSup id = true →
    let c := s.ctx id
    let die := ctxDie id
    (GTurn s id w [d, a, b] → let r := tlbiArg (c.get a) (c.get b)
      (r.kind ≠ 3 → r.drain = false → (∀ k, c.wait ≠ .tlbi k) → ∃ t, exec (.gTlbi d a b) s = .next t ∧ SameBytes s t ∧
        t.ctx id = (c.put d (BitVec.ofNat 64 (s.acks die))).done ∧
        ∀ e ∈ t.tlbsOf die, r.hits e.asid e.base e.size = false) ∧
      (r.kind = 3 → ∃ t, exec (.gTlbi d a b) s = .next t ∧ ((s.wake die r.asid r.base r.len).1.ctx id = c →
        t.ctx id = (c.put d (BitVec.ofNat 64 (s.wake die r.asid r.base r.len).2)).done))) ∧
    (GTurn s id w [d, a] →
      let late := c.get a ≠ 0 ∧ (c.get a).toNat ≤ s.clk * 5 / 8
      ((s.die die).recv ≠ [] ∨ (s.die die).fq ≠ [] ∨ late → ∃ t x, exec (.gWfi d a) s = .next t ∧ SetsReg s t id d x ∧
        (x.getLsbD 0 = true ↔ (s.die die).recv ≠ []) ∧ (x.getLsbD 1 = true ↔ (s.die die).fq ≠ []) ∧
        (x.getLsbD 2 = true ↔ late)) ∧
      ((s.die die).recv = [] → (s.die die).fq = [] → ¬ late → ∃ t, exec (.gWfi d a) s = .next t ∧ OnlyCtx s t id ∧
        t.ctx id = { c with wait := .wake, deadline := c.get a })) ∧
    (GTurn s id w [a] →
      ((c.get a).toNat % 64 ≠ 0 → Raises s id w (exec (.gSendm a z n) s) 0xA (c.get a) (accessCode 3 0 false false) 0) ∧
      ((c.get a).toNat % 64 = 0 → StopsG s id w (c.get a) .load (accessCode 3 0 false false) (exec (.gSendm a z n) s)) ∧
      ((c.get a).toNat % 64 = 0 → ∀ u pls home pk v x, Found s id (c.get a) .load u pls home pk →
      u.ctxRead id (readPlace die pls) 64 pk = (v, some x) →
      let m := Message.ofBytes x
      let away := m.dw0.getLsbD 38
      let nobody := if away = true then m.dw0.toNat % 2 ^ 10 = 0
        else ∀ k, k < 10 → m.dw0.getLsbD k = true → (s.die k).hole = true
      let eight := (s.sends.filter (fun e => e.1 == id)).length
      (nobody → ∃ t, exec (.gSendm a z n) s = .next t ∧ t.ctx id = fedCtx c z n ∧ SameBytes s t ∧ t.sends = s.sends) ∧
      (¬ nobody → (away = true → s.egressPast (2048 + id) = true) → eight < 8 → ∃ t, exec (.gSendm a z n) s = .next t ∧
        t.ctx id = fedCtx c z n ∧ SameBytes s t ∧ t.sends = s.sends ++ [(id, s.clk, m)]) ∧
      (¬ nobody → away = true → s.egressPast (2048 + id) = false → ∃ t, exec (.gSendm a z n) s = .next t ∧
        ReadsInto s t id { c with wait := .room } ∧ SameBytes s t) ∧
      (¬ nobody → (away = true → s.egressPast (2048 + id) = true) → 8 ≤ eight → ∃ t, exec (.gSendm a z n) s = .next t ∧
        SameBytes s t ∧ ReadsInto s t id (if c.actsNb z then (c.setCond n false).done else { c with wait := .message })))) ∧
    (GTurn s id w [d, a] →
      ((c.get a).toNat % 64 ≠ 0 → Raises s id w (exec (.gRecvm d a z n) s) 0xA (c.get a) (accessCode 3 0 true false) 0) ∧
      ((c.get a).toNat % 64 = 0 → StopsG s id w (c.get a) .store (accessCode 3 0 true false) (exec (.gRecvm d a z n) s)) ∧
      ((c.get a).toNat % 64 = 0 → ∀ u pls home pk, Found s id (c.get a) .store u pls home pk →
      ((s.die die).recv = [] → ∃ t, exec (.gRecvm d a z n) s = .next t ∧ SameBytes s t ∧
        ReadsInto s t id (if c.actsNb z then (c.setCond n false).done else { c with wait := .message })) ∧
      ∀ m l, (s.die die).recv = m :: l → m.payload.length = 5 → u.egressRoom die pls = true →
        ∃ t, exec (.gRecvm d a z n) s = .next t ∧
        t.ctx id = fedCtx (c.put d m.seq) z n ∧ (t.die die).recv = l ∧ OthersStand s t id ∧
        Stored s t pls (c.get a) 64 (leNat m.bytes))) ∧
    (GTurn s id w [d, a] →
      let x := (c.get a).toNat
      let tid := x % 1024 * 4 + x / 1024 % 4
      let t0 := s.team tid
      coreDie (x % 1024) = die → s.hasTeam tid = true → t0.gang = none → t0.swapArea ≠ 0 →
        (x < 2 ^ 63 → t0.life = .running → ∃ t, exec (.gSwapt d a) s = .next t ∧ t.ctx id = (c.put d 0).done ∧
          t.team tid = { t0 with life := .swapAsked true } ∧ SameBytes s t) ∧
        (x < 2 ^ 63 → t0.life ≠ .running → ∃ t, exec (.gSwapt d a) s = .next t ∧ SetsReg s t id d 5) ∧
        (2 ^ 63 ≤ x → t0.life = .swapAsked true → ∃ t, exec (.gSwapt d a) s = .next t ∧ t.ctx id = (c.put d 6).done ∧
          t.team tid = { t0 with life := .running } ∧ SameBytes s t))

/-- R316, R335, R354 to R356: in a prologue context LGET and LSET read and write a field of the launch, LGO releases it to
placement, LREPEAT opens a repeat series and releases it, LCANCEL ends it with its completion signal due; a field or a count
out of range raises G_LAUNCH; the three last end the prologue. LSET narrows its value to the field's size and then judges it
(log entry 47), a release fails on an exchange window that a later LSET has made wrong (log entry 43), and TREC5 of LGET's
G_LAUNCH is 0 (log entry 30). -/
def Obligations.PrologueWordsActOnTheLaunch : Prop :=
  ∀ (s : State) (id : Nat) (w : W32) (d a f : BitVec 6) (lid : Nat) (l : Launch), isPro id = true →
    (s.die (ctxDie id)).prologue = some lid → kvFind s.launches lid = some l →
    let c := s.ctx id
    let v := c.get a
    let ended (t : State) : Prop := (t.die (ctxDie id)).prologue = none ∧ kvFind t.ctxs id = none ∧ SameBytes s t
    (GTurn s id w [d] → f.toNat < 24 → ∃ t, exec (.gLget d f) s = .next t ∧ SetsReg s t id d (spGet l.field f.toNat)) ∧
    (GTurn s id w [d] → 24 ≤ f.toNat → Raises s id w (exec (.gLget d f) s) 0x10 0 (BitVec.ofNat 64 f.toNat) 0) ∧
    (GTurn s id w [a] →
      (23 ≤ f.toNat → Raises s id w (exec (.gLset a f) s) 0x10 0 (BitVec.ofNat 64 f.toNat) v) ∧
      (∀ o k, f.toNat < 23 → fieldPlace f.toNat = some (o, k) → lsetOk l f.toNat (v.toNat % 2 ^ (8 * k)) = false →
        Raises s id w (exec (.gLset a f) s) 0x10 0 (BitVec.ofNat 64 f.toNat) v) ∧
      (∀ o k, f.toNat < 23 → fieldPlace f.toNat = some (o, k) → lsetOk l f.toNat (v.toNat % 2 ^ (8 * k)) = true →
        ∃ t, exec (.gLset a f) s = .next t ∧ t.ctx id = c.done ∧ SameBytes s t ∧ ∃ l1, kvFind t.launches lid = some l1 ∧
          l1 = { l with field := l1.field } ∧ ∀ j, spGet l1.field j =
            if j = f.toNat then BitVec.ofNat 64 (v.toNat % 2 ^ (8 * k)) else spGet l.field j) ∧
      (l.inSeries = false → v.toNat = 0 ∨ 65535 < v.toNat → Raises s id w (exec (.gLrepeat a) s) 0x10 0 63 v) ∧
      (l.inSeries = false → 0 < v.toNat → v.toNat ≤ 65535 → s.rejects l = none → l.windowOk = true →
        ∃ t, exec (.gLrepeat a) s = .next t ∧ ended t ∧
          t.launch lid = { l with runs := v.toNat, inSeries := true, stage := .handout })) ∧
    (GTurn s id w [] →
      (s.rejects l = none → l.windowOk = true → ∃ t, exec .gLgo s = .next t ∧ ended t ∧
        t.launch lid = { l with stage := .handout }) ∧
      (l.cancelled = false → ∃ t, exec .gLcancel s = .next t ∧ ended t ∧
        t.launch lid = { l with stage := .signal, inSeries := false, lastDie := l.leadDie }))

/-! ## C-words on lanes -/

/-- R41, R48, R72, R152, R343: the issue of a body word takes an ESN, folds the word into SIG and consumes it on its first
pass, pops its constants, and goes on to the next word of the clause, to the next pass of a loop, or out of the clause; it
changes no vector, predicate, mode or base register, and no other group. -/
def Obligations.IssuedBodyWordIsConsumedOnce : Prop :=
  ∀ (s : State) (gid : Nat) (e : QEntry) (n : Nat) (c : Clause), (s.grp gid).clause = some c →
    n ≤ (kWaiting (s.grp gid)).length →
    let g := s.grp gid
    let t := s.finish gid e n
    let k := t.grp gid
    (k.v = g.v ∧ k.p = g.p ∧ k.mode = g.mode ∧ k.ab = g.ab ∧ k.cf = g.cf ∧ k.fpx = g.fpx ∧ k.stack = g.stack ∧ k.rq = g.rq ∧
      k.pend = g.pend ∧ k.armed = g.armed ∧ kWaiting k = (kWaiting g).drop n ∧ k.kq.length = g.kq.length) ∧
    (c.esns.length ≤ c.pos → k.esn = g.esn + 1 ∧ k.sig = sigFold g.sig e.word ∧ k.queue = consumeHead g.queue) ∧
    (c.pos < c.esns.length → k.esn = g.esn ∧ k.sig = g.sig ∧ k.queue = g.queue) ∧
    (c.pos + 1 < c.words.length → k.active = g.active ∧ k.wait = .ready ∧ k.clause.map (·.pos) = some (c.pos + 1)) ∧
    (c.words.length ≤ c.pos + 1 → g.loopOn = false → k.active = g.active ∧ k.wait = .ready ∧ k.clause = none) ∧
    (c.words.length ≤ c.pos + 1 → g.loopOn = true → g.stack.length = g.loopDepth.toNat →
      (g.loopLeft ≠ 0 → k.active = g.active ∧ k.loopLeft = g.loopLeft - 1 ∧
        k.clause.map (·.pos) = some g.loopStart.toNat) ∧
      (g.loopLeft = 0 → k.active = g.loopMask ∧ k.loopOn = false ∧ k.clause = none ∧ k.wait = .ready)) ∧
    (c.words.length ≤ c.pos + 1 → g.loopOn = true → g.stack.length ≠ g.loopDepth.toNat →
      k.active = g.loopMask ∧ k.loopOn = false ∧ k.clause = none ∧ k.wait = .held ∧ k.heldCode = 0x107) ∧
    t = { s with groups := t.groups, teams := t.teams, snapTick := t.snapTick } ∧ (∀ j, j ≠ gid → t.grp j = s.grp j) ∧
    (∀ j, t.team j = { s.team j with faults := (t.team j).faults }) ∧ SameBytes s t

/-- R41, R64, R164, R165: a body word at a boundary raises C_MISSING_HEADER, and one whose K constants are not there waits for
them, with nothing changed; a C-fault, this one or another, holds its group at the word, changes no other register and puts a
record with the group, the ESN, the provenance pc and the lanes behind its team's. -/
def Obligations.BodyWordsNeedAClauseAndTheirConstants : Prop :=
  ∀ (s : State) (gid : Nat) (e : QEntry) (slot : Nat) (i : Instr) (fs : List (BitVec 7)),
    (∀ f : CFault, ∃ t, s.raiseC gid f e = t ∧ CRaised s t gid f e) ∧
    (s.cur = .grp gid e slot → cSources i = some fs →
      ((s.grp gid).clause = none → RaisesC s (exec i s) gid e 0x102 0 0) ∧
      ((s.grp gid).clause.isSome = true → (kWaiting (s.grp gid)).length < fs.count 127 →
        exec i s = .next (s.setGrp gid { s.grp gid with wait := .kqueue })))

/-- R133, R134, R137, R141, R144, R146, R149: every word on whole lanes writes its result in the lanes that execute and
nowhere else; PACK of a type of 32 bits raises C_TYPE. -/
def Obligations.LaneWordsWriteExecutingLanesOnly : Prop :=
  ∀ (s : State) (gid : Nat) (e : QEntry) (slot : Nat) (i : Instr) (d : BitVec 7) (fs : List (BitVec 7)) (ok : Nat → Bool)
    (f : Nat → W32), cLaneWord i (s.grp gid) = some (d, fs, ok, f) → CTurn s gid e slot fs →
    (ok (elemType (s.grp gid)) = true →
      ∃ g1, CDone s (exec i s) gid e (fs.count 127) g1 ∧ LanesWritten (s.grp gid) g1 d f) ∧
    (ok (elemType (s.grp gid)) = false →
      RaisesC s (exec i s) gid e 0x105 (BitVec.ofNat 64 (elemType (s.grp gid))) 0)

/-- R102, R136, R137, R141: every element-wise integer word writes, in the lanes that execute, the exact result of the
elements narrowed to their type, and sets no flag; another type raises C_TYPE. -/
def Obligations.IntegerWordsNarrowTheExactResult : Prop :=
  ∀ (s : State) (gid : Nat) (e : QEntry) (slot : Nat) (i : Instr) (d : BitVec 7) (fs : List (BitVec 7))
    (r : Nat → Bool → Bool → (Nat → Nat) → Nat → Prop), cIntWord i = some (d, fs, r) → CTurn s gid e slot fs →
    let g := s.grp gid
    (∀ w sg, intType (elemType g) = some (w, sg) → ∃ g1 f, CDone s (exec i s) gid e (fs.count 127) g1 ∧
      LanesWritten g g1 d f ∧ ∀ l k, k < 32 / w →
        r w sg (satBit g) (fun j => lanePart w (operand g fs j l) k) (lanePart w (f l) k)) ∧
    (intType (elemType g) = none → RaisesC s (exec i s) gid e 0x105 (BitVec.ofNat 64 (elemType g)) 0)

/-- R137, R143: DP4A adds four byte products to c in 32 bits, IBFX extracts a field of 32 bits; each is of two types. -/
def Obligations.Dp4aAndIbfxGiveTheirResult : Prop :=
  ∀ (s : State) (gid : Nat) (e : QEntry) (slot : Nat) (d a b c : BitVec 7),
    let g := s.grp gid
    let t := elemType g
    (CTurn s gid e slot [a, b, c] → t = 7 ∨ t = 8 → ∃ g1 f, CDone s (exec (.cDp4a d a b c) s) gid e ([a, b, c].count 127) g1 ∧
      LanesWritten g g1 d f ∧ ∀ l,
        let x (j k : Nat) : Int := intOf 8 (t == 7) (lanePart 8 (operand g [a, b, c] j l) k)
        Narrowed 32 (t == 7) (satBit g) (x 0 0 * x 1 0 + x 0 1 * x 1 1 + x 0 2 * x 1 2 + x 0 3 * x 1 3
          + intOf 32 (t == 7) (operand g [a, b, c] 2 l).toNat) (f l).toNat) ∧
    (CTurn s gid e slot [a, b] → t = 3 ∨ t = 4 → ∃ g1 f, CDone s (exec (.cIbfx d a b) s) gid e ([a, b].count 127) g1 ∧
      LanesWritten g g1 d f ∧ ∀ l,
        let y := (operand g [a, b] 1 l).toNat
        let n := y / 256 % 32 + 1
        let x := (operand g [a, b] 0 l).toNat / 2 ^ (y % 32) % 2 ^ n
        (f l).toInt = (BitVec.ofInt 32 (intOf n (t == 3) x)).toInt)

/-- R94 to R100, R136 to R140: every element-wise float word writes the operation's result of each element in the lanes that
execute, and ORs the flags of those elements into FPX; while MODE.fptrap is 1 a word that raises a flag raises C_FP instead,
with the lanes and the flags, and changes no register; another type raises C_TYPE. The operations, on every code of every
format, give the exact result of the codes' values rounded once, with its flags; of FEX2 and FLG2 this is said of exact
results only, since for the others the model rests on assumption 17. -/
def Obligations.FloatWordsWriteResultsAndFlagsOrTrap : Prop :=
  (∀ f ∈ [fp32, fp16, bf16, f8e4, f8e5], ∀ (mode : Nat) (sat : Bool) (a b c : Nat) (x : FVal), a < 2 * f.signBit →
    b < 2 * f.signBit → c < 2 * f.signBit → mode ≤ 4 → RoundsTo f mode sat (x.ext, false) (roundTo f mode sat x) ∧
      BasicOps f mode sat a b c ∧ OrderOps f a b ∧ (f.signBit ≠ 128 → NearOps f sat a)) ∧
  ∀ (s : State) (gid : Nat) (e : QEntry) (slot : Nat) (i : Instr) (d : BitVec 7) (fs : List (BitVec 7)) (last : Nat)
    (op : Fmt → Nat → Bool → (Nat → Nat) → Nat × FFlags), cFloatWord i = some (d, fs, last, op) → CTurn s gid e slot fs →
    let g := s.grp gid
    (∀ f w, floatType (elemType g) last = some (f, w) → FlagsOrTrap s (exec i s) gid e (fs.count 127) d w (fun l k =>
      op f (roundBits g) (satBit g) (fun j => lanePart w (operand g fs j l) k))) ∧
    (floatType (elemType g) last = none → RaisesC s (exec i s) gid e 0x105 (BitVec.ofNat 64 (elemType g)) 0)

/-- R133, R139, R142, R147, R149, R352: comparisons, BALLOT and VOTE write 1 in the lanes that execute and meet the condition
and 0 in every other; PAND, POR, PXOR, PNOT and PSET write a whole predicate; nothing else changes. -/
def Obligations.PredicateWordsWriteOnePredicate : Prop :=
  ∀ (s : State) (gid : Nat) (e : QEntry) (slot : Nat) (i : Instr) (p : BitVec 3) (fs : List (BitVec 7)),
    CTurn s gid e slot fs →
    let g := s.grp gid
    (∀ ok f, cTestWord i g = some (p, fs, ok, f) →
      (ok = true → i.wf = true → ∃ g1 h, CDone s (exec i s) gid e (fs.count 127) g1 ∧ PredWritten g g1 p h ∧
        ∀ l, l < 32 → (h l = true ↔ runs g l = true ∧ f l)) ∧
      (ok = false → RaisesC s (exec i s) gid e 0x105 (BitVec.ofNat 64 (elemType g)) 0)) ∧
    ∀ m, cMaskWord i g = some (p, fs, m) → ∃ g1, CDone s (exec i s) gid e (fs.count 127) g1 ∧
      PredWritten g g1 p (fun l => m.getLsbD l)

/-- R101, R144, R145, R148: CVT converts the elements that both types have and writes 0 in the others, UNPKL and UNPKH widen
one half of the elements, REDADD, REDMAX and REDMIN combine the lanes that execute in a fixed tree, in which an absent lane
gives way (log entry 40, which also names all executing lanes in a reduction's C_FP); flags as for a float word, and UNPKL and
UNPKH of a type of 32 bits raise C_TYPE. Conversions between floats and integers are exact and rounded once. -/
def Obligations.ConversionsAndReductionsWriteTheirElements : Prop :=
  (∀ f ∈ [fp32, fp16, bf16, f8e4, f8e5], ∀ (w : Nat) (sg : Bool) (mode c : Nat), w = 8 ∨ w = 16 ∨ w = 32 → mode ≤ 4 →
    c < 2 * f.signBit → ConvertsToInt w sg mode (f.val c).ext (cvtToInt { w := w, sg := sg } mode (f.val c))) ∧
  (∀ f ∈ [fp32, fp16, bf16, f8e4, f8e5], ∀ (mode : Nat) (sat : Bool) (x : Int), mode ≤ 4 →
    RoundsTo f mode sat (.num x (decide (x < 0)), false) (cvtFromInt f mode sat x)) ∧
  ∀ (s : State) (gid : Nat) (e : QEntry) (slot : Nat) (i : Instr) (d a t : BitVec 7), CTurn s gid e slot [a] →
    let g := s.grp gid
    let n := [a].count 127
    let ty := elemType g
    let w := typeBits ty
    (t.toNat ≤ 10 → ty ≤ 10 → ∃ one : Nat → Nat → Nat × FFlags, FlagsOrTrap s (exec (.cCvt d a t) s) gid e n d w one ∧
      ∀ l k, k < 32 / w → if k < 32 / typeBits t.toNat
        then Converts t.toNat ty (roundBits g) (satBit g) (lanePart (typeBits t.toNat) (operand g [a] 0 l) k) (one l k)
        else one l k = (0, {})) ∧
    (∀ high : Bool, let u : Instr := if high then .cUnpkh d a else .cUnpkl d a
      (w ≠ 32 → ty ≤ 10 → ∃ g1 f, CDone s (exec u s) gid e n g1 ∧ LanesWritten g g1 d f ∧ ∀ l k, k < 16 / w →
        Widened ty (lanePart w (operand g [a] 0 l) (if high then 16 / w + k else k)) (lanePart (2 * w) (f l) k)) ∧
      (w = 32 → RaisesC s (exec u s) gid e 0x105 (BitVec.ofNat 64 ty) 0)) ∧
    ∀ node, redNodes i g = some (d, a, node) → FlagsOrTrap s (exec i s) gid e n d w (fun _ k =>
      redTree node (fun l => if l < 32 ∧ runs g l then some (lanePart w (operand g [a] 0 l) k, {}) else none))

/-! ## Clauses and control -/

/-- R158: NOP, whose word has every field zero, is consumed and folded into SIG, and has no other effect. -/
def Obligations.NopIsConsumedAndHasNoOtherEffect : Prop :=
  decodeC 0xB000000F#32 = some .cNop ∧
  ∀ (s : State) (gid : Nat) (e : QEntry) (slot : Nat) (c : Clause), CTurn s gid e slot [] → (s.grp gid).clause = some c →
    ∃ t, exec .cNop s = .next t ∧ t = s.finish gid e 0 ∧
      let g := s.grp gid
      let k := t.grp gid
      (c.esns.length ≤ c.pos → k.sig = sigFold g.sig e.word ∧ k.queue = consumeHead g.queue ∧ k.esn = g.esn + 1) ∧
      k.v = g.v ∧ k.p = g.p ∧ k.mode = g.mode ∧ k.ab = g.ab ∧ k.cf = g.cf ∧ k.fpx = g.fpx ∧ k.stack = g.stack ∧
      kWaiting k = kWaiting g ∧ k.rq = g.rq ∧ k.pend = g.pend ∧ (g.loopOn = false → k.active = g.active) ∧
      (∀ j, j ≠ gid → t.grp j = s.grp j) ∧ t.ctxs = s.ctxs ∧ SameBytes s t

/-- R63 to R66, R68, R71, R388: a clause header at a boundary waits for its body words and then for its flags, as the last
core-clock edge saw them, and opens the clause of those words, consumed like any word; inside a clause it raises
C_HEADER_IN_CLAUSE. A word that is no C instruction raises C_ILLEGAL in a clause, C_HEADER_IN_CLAUSE if it has a header's
major, and at a boundary C_MISSING_HEADER, or C_ILLEGAL for a header's major and for the exact word of REGION without its
marker, a word of REGION's with other bits set being none (log entry 23). -/
def Obligations.ClauseHeadersOpenClauses : Prop :=
  ∀ (s : State) (gid : Nat) (e : QEntry) (slot : Nat) (w : BitVec 12) (a b n : BitVec 4) (v : W32),
    s.cur = .grp gid e slot →
    let g := s.grp gid
    let i : Instr := .cClauseHeader w a b n
    let body := ((g.queue.filter (fun x => !x.consumed)).drop 1).take (n.toNat + 1)
    let flag (x : BitVec 4) : Option Nat := if x.toNat < 12 then some x.toNat else none
    let complete := body.length = n.toNat + 1 ∧ ∀ x ∈ body, x.at_ / 2 < s.clk / 2
    let clear := ∀ k, k < 12 → w.getLsbD k = true → spGet g.edge.cf k = 0
    (g.clause = none →
      (¬ complete → exec i s = .next (s.setGrp gid { g with wait := .clause })) ∧
      (complete → ¬ clear → exec i s = .next (s.setGrp gid { g with wait := .flag })) ∧
      (complete → clear → ∃ t c, exec i s = .next t ∧ t = s.setGrp gid { g with
          esn := g.esn + 1, sig := sigFold g.sig e.word, queue := consumeHead g.queue, clause := some c, wait := .ready
          heldWord := none, heldCode := 0, skip := false } ∧
        c.words = body ∧ c.esns = [] ∧ c.pos = 0 ∧ c.first = true ∧ c.flagA = flag a ∧ c.flagB = flag b) ∧
      RaisesC s (exec (.eIllegalCWord v) s) gid e
        (if v.toNat / 2 ^ 28 = 15 ∨ v = 0xB000000C#32 then 0x101 else 0x102) 0 0) ∧
    (∀ c, g.clause = some c →
      RaisesC s (exec i s) gid e 0x103 (BitVec.ofNat 64 (c.pos + 1)) 0 ∧
      (v.toNat / 2 ^ 28 = 15 → RaisesC s (exec (.eIllegalCWord v) s) gid e 0x103 (BitVec.ofNat 64 (c.pos + 1)) 0) ∧
      (v.toNat / 2 ^ 28 ≠ 15 → RaisesC s (exec (.eIllegalCWord v) s) gid e 0x101 0 0))

/-- R45, R48, R150 to R153, R155 to R157, R159: what IF, ELSE, ENDIF, REPEAT, BRKIF, SETMODE, SIGCHK, TRAPG and EXITG make of
their group before they are consumed, and where they trap. REPEAT notes the place of its loop's first word, counted from 0
(log entry 97), and an ELSE behind a BRKIF that has emptied the mask acts as any other (log entry 112). -/
def Obligations.ControlWordsOfGroups : Prop :=
  ∀ (s : State) (gid : Nat) (e : QEntry) (slot : Nat) (p : BitVec 3) (a : BitVec 7),
    let g := s.grp gid
    let n := [a].count 127
    let v := operand g [a] 0 (uniformLane g)
    let x := spGet g.p p.toNat
    let depth : W64 := BitVec.ofNat 64 g.stack.length
    let folded (t : State) (m : W32) : State := t.setGrp gid { t.grp gid with sig := sigFold (t.grp gid).sig m }
    (CTurn s gid e slot [] →
      (g.stack.length < 16 → exec (.cIf p) s = .next (folded ((s.setGrp gid { g with
        stack := { mask := g.active, mode := g.mode, els := g.active &&& ~~~x } :: g.stack
        active := g.active &&& x }).finish gid e 0) 0xFFFF0001#32)) ∧
      (16 ≤ g.stack.length → RaisesC s (exec (.cIf p) s) gid e 0x107 depth 0) ∧
      (g.stack = [] → RaisesC s (exec .cElse s) gid e 0x107 0 0 ∧ RaisesC s (exec .cEndif s) gid e 0x107 0 0) ∧
      (∀ r l, g.stack = r :: l →
        CDone s (exec .cElse s) gid e 0 { g with active := r.els, mode := r.mode, stack := { r with els := 0 } :: l } ∧
        exec .cEndif s = .next (folded ((s.setGrp gid { g with active := r.mask, mode := r.mode, stack := l }).finish
          gid e 0) 0xFFFF0002#32)) ∧
      (g.loopOn = false → RaisesC s (exec (.cBrkif p) s) gid e 0x108 0 0) ∧
      (g.loopOn = true → ∃ st, CDone s (exec (.cBrkif p) s) gid e 0 { g with
          active := g.active &&& ~~~x, stack := st
          loopLeft := if g.active &&& ~~~x = 0 then 0 else g.loopLeft } ∧
        st.length = g.stack.length ∧ ∀ k r, g.stack[k]? = some r → st[k]? = some (
          let gone := if g.active &&& ~~~x = 0 then 0xFFFFFFFF#32 else g.active &&& x
          if k + g.loopDepth.toNat < g.stack.length then { r with mask := r.mask &&& ~~~gone, els := r.els &&& ~~~gone }
          else r)) ∧
      (∃ t, exec .cExitg s = .next t ∧ SameBytes s t ∧ (∀ j, j ≠ gid → t.grp j = s.grp j) ∧
        let k := t.grp gid
        k.armed = false ∧ k.clause = none ∧ k.loopOn = false ∧ k.pend = g.pend ∧ k.v = g.v ∧ k.rq = g.rq ∧
          k.queue.filter (fun y => !y.consumed) = [] ∧ ∀ b, b < (s.team (gid / 16)).bars → ∀ m r d ph,
            BarIs ((s.team (gid / 16)).bar b) m r d ph →
              if m.testBit (gid % 16) then BarArrival ((s.team (gid / 16)).bar b) ((t.team (gid / 16)).bar b) (gid % 16) true
              else (t.team (gid / 16)).bar b = (s.team (gid / 16)).bar b)) ∧
    (CTurn s gid e slot [a] →
      (g.loopOn = true → RaisesC s (exec (.cRepeat a) s) gid e 0x108 1 0) ∧
      (∀ c, g.loopOn = false → g.clause = some c →
        (c.words.length ≤ c.pos + 1 → CDone s (exec (.cRepeat a) s) gid e n g) ∧
        (c.pos + 1 < c.words.length → let m := v.extractLsb' 0 16
          CDone s (exec (.cRepeat a) s) gid e n { g with
            loopOn := true, loopLeft := if m = 0 then 0 else m - 1, loopStart := BitVec.ofNat 4 (c.pos + 1)
            loopMask := g.active, loopDepth := BitVec.ofNat 5 g.stack.length, active := if m = 0 then 0 else g.active })) ∧
      (let ok := v.toNat % 16 ≤ 8 ∧ v.toNat / 32 % 16 ≤ 10 ∧ v.toNat / 512 % 8 ≤ 4 ∧ v.toNat / 2 ^ 13 % 8 ≤ 4
       (ok → CDone s (exec (.cSetmode a) s) gid e n { g with mode := v }) ∧
       (¬ ok → RaisesC s (exec (.cSetmode a) s) gid e 0x104 (v.zeroExtend 64) 0)) ∧
      RaisesC s (exec (.cTrapg a) s) gid e 0x10B (v.zeroExtend 64) 0) ∧
    (CTurn s gid e slot [127] → let y := (kWaiting g).headD 0
      (y = g.sig → CDone s (exec .cSigchk s) gid e 1 g) ∧
      (y ≠ g.sig → RaisesC s (exec .cSigchk s) gid e 0x10A (y.zeroExtend 64) (g.sig.zeroExtend 64)))

/-! ## Memory words of groups -/

/-- R67, R68, R176, R225, R248, R249, R251, R259, R260, R262, R263: LD, LD64, LDP and GATHER of addresses that the lanes may
read issue: their lanes' accesses, one per page copy for GATHER and the lanes whose pages are there for LDP, are kept with the
pending word, and nothing that software sees changes; a misaligned lane raises C_ALIGN, one without permission C_PERM, and one
whose page is not there parks the group. That a pending promoted acquire keeps a later word from issuing is log entry 82. -/
def Obligations.GlobalLoadsOfGroupsIssue : Prop :=
  ∀ (s u : State) (gid : Nat) (e : QEntry) (slot : Nat) (i : Instr) (d b : BitVec 7) (nb p : BitVec 3) (z o : BitVec 2)
    (t : BitVec 4) (k : Nat) (probe all : Bool) (op : LongOp) (ls : List LaneOk),
    CTurn s gid e slot [b] → LongFree s gid →
    ((i = .cLd d z nb b o ∧ k = (if z = 0 then 2 else if z = 1 then 0 else 1) ∧ z ≠ 3 ∧ op = .load (2 ^ k) ∧
        probe = false ∧ all = false) ∨
      (i = .cLd64 d nb b o ∧ k = 3 ∧ op = .load 8 ∧ probe = false ∧ all = false) ∨
      (i = .cLdp d p nb b o ∧ k = 2 ∧ op = .probe p.toNat ∧ probe = true ∧ all = false) ∨
      (i = .cGather d t nb b o ∧ k = 2 ∧ op = .gather (t == 1) ∧ probe = false ∧ all = true)) →
    let g := s.grp gid
    let vas := laneAddrs g nb [b]
    ((∀ x ∈ vas, x.2.toNat % 2 ^ k = 0) →
      LanesStop s gid e .load probe vas (accessCode k o.toNat false false) (exec i s)) ∧
    ((∀ x ∈ vas, x.2.toNat % 2 ^ k = 0) → LanesFound s gid .load probe vas u ls →
      ∃ v q, LongIssued s v (exec i s) gid e ([b].count 127) q ∧ Unseen s { v with groups := s.groups } ∧ q.op = op ∧ q.d = d ∧
        q.data = none ∧ q.acquire = o.getLsbD 0 ∧ q.floor = 48 ∧ q.accs.map (fun a => (a.lane, a.va, a.pas)) =
          ls.map (fun a => (a.lane, a.va, if all then a.pls else [a.near (gid / 64)]))) ∧
    ((∃ x ∈ vas, x.2.toNat % 2 ^ k ≠ 0) →
      RaisesLanes s (exec i s) gid e 0x10D (accessCode k o.toNat false false) 0 vas (fun x => x.toNat % 2 ^ k ≠ 0))

/-- R176, R186, R216, R233, R248, R251, R256, R260, R261: ST and ST64 put one entry for each line that they write into their
core's hold-back, and write no memory; AMO, once hold-back holds no store of its team nor one to its lines and no other core's
lease keeps them, acts on memory lane by lane, seals the region and keeps the old values with the pending word; lanes without
permission raise C_PERM, and a page that is not there parks the group. -/
def Obligations.StoresAndAtomicsOfGroupsIssue : Prop :=
  ∀ (s u : State) (gid : Nat) (e : QEntry) (slot : Nat) (d b : BitVec 7) (nb : BitVec 3) (z o : BitVec 2) (l : BitVec 1)
    (p : BitVec 4) (ls : List LaneOk), LongFree s gid →
    let g := s.grp gid
    let c := gid / 64
    let tid := gid / 16
    let t0 := s.team tid
    let scope := g.mode.toNat / 2 ^ 13 % 8
    (∀ i fs k, ((i = .cSt d l z nb b o ∧ k = (if z = 0 then 2 else if z = 1 then 0 else 1) ∧ z ≠ 3 ∧ fs = [b, d]) ∨
        (i = .cSt64 d l nb b o ∧ k = 3 ∧ fs = b :: dataPair d)) → CTurn s gid e slot fs →
      let vas := laneAddrs g nb fs
      ((∃ x ∈ vas, x.2.toNat % 2 ^ k ≠ 0) →
        RaisesLanes s (exec i s) gid e 0x10D (accessCode k o.toNat true false) 0 vas (fun x => x.toNat % 2 ^ k ≠ 0)) ∧
      ((∀ x ∈ vas, x.2.toNat % 2 ^ k = 0) →
        LanesStop s gid e .store false vas (accessCode k o.toNat true false) (exec i s)) ∧
      ((∀ x ∈ vas, x.2.toNat % 2 ^ k = 0) → LanesFound s gid .store false vas u ls →
        let es := holdEntries {
            order := o, scope := BitVec.ofNat 3 scope, colour := g.mode.extractLsb' 17 3, team := tid, lid := t0.lid
            agent := .grp (gid % 16), region := t0.regCommitted, asid := t0.asid.toNat }
          (ls.map (fun a => {
            pls := if l = 1 then [a.near c] else a.pls, os := a.os.os, va := a.va
            bytes := natLe (2 ^ k) ((operand g fs 1 a.lane).toNat + (operand g fs 2 a.lane).toNat * 2 ^ 32) }))
        ((s.core c).hold.length + es.length ≤ 128 → ∃ v q, LongIssued s v (exec i s) gid e (fs.count 127) q ∧ SameBytes s v ∧
          v.teams = s.teams ∧ HoldGrown (s.core c).hold (v.core c).hold es ∧
          (∀ j, j ≠ c → (v.core j).hold = (s.core j).hold) ∧ q.op = .store (o.getLsbD 1) scope) ∧
        (128 < (s.core c).hold.length + es.length → (s.core c).hold.length ≤ 128 → ∃ t, exec i s = .next t ∧
          t.grp gid = { g with wait := .holdBack } ∧ SameBytes s t))) ∧
    (let fs := atomicSources b d p
     let vas := laneAddrs g nb fs
     p.toNat ≤ 9 → CTurn s gid e slot fs → (∀ x ∈ vas, x.2.toNat % 4 = 0) →
     LanesStop s gid e .amo false vas (accessCode 2 o.toNat true false) (exec (.cAmo d p nb b o) s) ∧
     (LanesFound s gid .amo false vas u ls →
     ((∃ h ∈ (u.core c).hold, h.team = tid) → (∀ n, g.wait ≠ .irrevocable n) → ∃ t, exec (.cAmo d p nb b o) s = .next t ∧
       t.grp gid = { g with wait := .irrevocable (s.core c).hbSerial } ∧ SameBytes s t) ∧
     ((∀ a ∈ ls, isFar a.home = false ∧ isMmio a.home = false ∧ u.poisoned a.home = false ∧ u.blockErrs (a.home / 64) ≤ 64 ∧
       (∀ x ∈ a.home :: a.pls, u.leaseBlocks c (x / 128) = false) ∧ u.egressRoom (coreDie c) (a.home :: a.pls) = true ∧
       (o.getLsbD 0 = true → u.promoted c scope (g.mode.getLsbD 16) (a.home :: a.pls) = true)) →
     (∀ h ∈ (u.core c).hold, h.team ≠ tid ∧ ∀ a ∈ ls, ∀ x ∈ a.home :: a.pls, x / 128 ∉ h.lines) →
     (o.getLsbD 1 = true → ReleaseFree u tid scope) →
     ∃ v q r, LongIssued s v (exec (.cAmo d p nb b o) s) gid e (fs.count 127) q ∧
       v.team tid = t0.seal ∧ (∀ j, j ≠ tid → v.team j = s.team j) ∧
       (∀ j, (v.core j).hold = (s.core j).hold) ∧ q.op = .result false ∧ q.d = d ∧ q.data = some r ∧
       AtomicLanes s.populated p.toNat (atomicArgs g fs p) ls s.byte v.byte r)))

/-- R198, R225, R264, R266, R268: LDS, LDS64, STS, STS64, STSF, SPTAG and AMOS act on the team's share lane by lane, in
ascending order, and change nothing else that software sees; an offset outside the share raises C_SCRATCH, and a misaligned
one C_ALIGN. -/
def Obligations.ScratchpadWordsOfGroups : Prop :=
  ∀ (s : State) (gid : Nat) (e : QEntry) (slot : Nat) (d a b : BitVec 7) (p : BitVec 4) (x : BitVec 3),
    LongFree s gid →
    let g := s.grp gid
    let t0 := s.team (gid / 16)
    let code (k : Nat) (st : Bool) := accessCode k 0 st true
    (∀ i fs k st, ((i = .cLds d a b ∧ fs = [a, b] ∧ k = 2 ∧ st = false) ∨ (i = .cLds64 d a b ∧ fs = [a, b] ∧ k = 3 ∧ st = false) ∨
        (i = .cSts d a b ∧ fs = [a, b, d] ∧ k = 2 ∧ st = true) ∨ (i = .cStsf d a b ∧ fs = [a, b, d] ∧ k = 2 ∧ st = true) ∨
        (i = .cSptag d a b ∧ fs = [a, b, d] ∧ k = 2 ∧ st = true) ∨
        (i = .cSts64 d a b ∧ fs = [a, b] ++ dataPair d ∧ k = 3 ∧ st = true)) → CTurn s gid e slot fs →
      let offs := laneOffs g fs
      ((∃ y ∈ offs, t0.share ≤ y.2.toNat) → RaisesLanes s (exec i s) gid e 0x111 (code k st) (BitVec.ofNat 64 t0.share) offs
        (fun y => t0.share ≤ y.toNat)) ∧
      ((∀ y ∈ offs, y.2.toNat < t0.share) → (∃ y ∈ offs, y.2.toNat % 2 ^ k ≠ 0) →
        RaisesLanes s (exec i s) gid e 0x10D (code k st) 0 offs (fun y => y.toNat % 2 ^ k ≠ 0)) ∧
      (OffsOk t0 k offs →
        (st = false → (∀ y ∈ offs, t0.rangePoisoned y.2.toNat (2 ^ k) = false) → ∃ q,
          ShareWord s (exec i s) gid e (fs.count 127) q t0 ∧ q.op = .result (k == 3) ∧ q.d = d ∧
            q.data = some (offs.map (fun y => (y.1, BitVec.ofNat 64 (t0.spRead y.2.toNat (2 ^ k)))))) ∧
        (st = true → ∃ q, q.op = .plain ∧ ShareWord s (exec i s) gid e (fs.count 127) q (offs.foldl (fun t y =>
          let v := operand g fs 2 y.1
          match i with
          | .cSptag _ _ _ => t.setTag y.2.toNat (v.getLsbD 0)
          | .cStsf _ _ _ => (t.spWrite y.2.toNat (natLe 4 v.toNat)).setTag y.2.toNat true
          | _ => t.spWrite y.2.toNat (natLe (2 ^ k) (v.toNat + (operand g fs 3 y.1).toNat * 2 ^ 32))) t0)))) ∧
    (let fs := atomicSources b d p
     let offs := (runLanes g).map (fun l => (l, (spGet g.v (x.toNat * 32 + l) + operand g fs 0 l).toNat))
     p.toNat ≤ 9 → CTurn s gid e slot fs → (∀ y ∈ offs, y.2 < t0.share ∧ y.2 % 4 = 0 ∧ t0.spPoisoned y.2 = false) →
     let run := offs.foldl (fun (r : Team × List (Nat × W64)) y =>
       let old := r.1.spRead y.2 4
       let v := atomicArgs g fs p y.1
       (match amoNew p.toNat 32 old v.1 v.2 with | some n => r.1.spWrite y.2 (natLe 4 n) | none => r.1,
         r.2 ++ [(y.1, BitVec.ofNat 64 old)])) (t0, [])
     ∃ q, ShareWord s (exec (.cAmos d p x b) s) gid e (fs.count 127) q run.1 ∧ q.op = .result false ∧ q.d = d ∧
       q.data = some run.2)

/-- R200, R264, R265, R267: LDSF and LDSFK need every lane's word full, and LDSF leaves it empty; STSE needs it empty, writes
and fills it; the lowest lane whose tag is otherwise, by its own state or by a lower lane's change of the same word, makes the
word wait, with nothing changed, and poison read raises C_POISON. XST puts its words into hold-back under the names of the
teams it targets and seals the region. -/
def Obligations.TaggedAndExchangeWordsOfGroups : Prop :=
  ∀ (s : State) (gid : Nat) (e : QEntry) (slot : Nat) (d a b : BitVec 7), LongFree s gid →
    let g := s.grp gid
    let t0 := s.team (gid / 16)
    let c := gid / 64
    let off := laneOffs g [a, b]
    let alone := (off.map (fun y => y.2.toNat / 4)).Nodup
    let reads (t1 : Team) (i : Instr) := ∃ q, ShareWord s (exec i s) gid e ([a, b].count 127) q t1 ∧ q.op = .result false ∧
      q.d = d ∧ q.data = some (off.map (fun y => (y.1, BitVec.ofNat 64 (t0.spRead y.2.toNat 4))))
    (CTurn s gid e slot [a, b] → OffsOk t0 2 off →
      ((∀ y ∈ off, t0.spFull y.2.toNat = true ∧ t0.spPoisoned y.2.toNat = false) →
        reads t0 (.cLdsfk d a b) ∧ (alone → reads (off.foldl (fun t y => t.setTag y.2.toNat false) t0) (.cLdsf d a b))) ∧
      (∀ l1 l2 y, off = l1 ++ y :: l2 → (∀ x ∈ l1, t0.spFull x.2.toNat = true) →
        (t0.spFull y.2.toNat = false →
          exec (.cLdsfk d a b) s = .next (s.setGrp gid { g with wait := .tag y.2.toNat true })) ∧
        ((l1.map (fun x => x.2.toNat / 4)).Nodup → t0.spFull y.2.toNat = false ∨ y.2.toNat / 4 ∈ l1.map (fun x => x.2.toNat / 4) →
          exec (.cLdsf d a b) s = .next (s.setGrp gid { g with wait := .tag y.2.toNat true }))) ∧
      ((∀ y ∈ off, t0.spFull y.2.toNat = true) → (∃ y ∈ off, t0.spPoisoned y.2.toNat = true) →
        ∀ i ∈ [.cLdsfk d a b] ++ (if (off.map (fun y => y.2.toNat / 4)).Nodup then [.cLdsf d a b] else []),
          RaisesLanes s (exec i s) gid e 0x110 (accessCode 2 0 false true) 0 off (fun x => t0.spPoisoned x.toNat = true))) ∧
    (CTurn s gid e slot [a, b, d] → OffsOk t0 2 off →
      ((∀ y ∈ off, t0.spFull y.2.toNat = false) → alone → ∃ q, q.op = .plain ∧
        ShareWord s (exec (.cStse d a b) s) gid e ([a, b, d].count 127) q (off.foldl (fun t y =>
          (t.spWrite y.2.toNat (natLe 4 (operand g [a, b, d] 2 y.1).toNat)).setTag y.2.toNat true) t0)) ∧
      (∀ l1 l2 y, off = l1 ++ y :: l2 → (∀ x ∈ l1, t0.spFull x.2.toNat = false) → (l1.map (fun x => x.2.toNat / 4)).Nodup →
        t0.spFull y.2.toNat = true ∨ y.2.toNat / 4 ∈ l1.map (fun x => x.2.toNat / 4) →
        exec (.cStse d a b) s = .next (s.setGrp gid { g with wait := .tag y.2.toNat false }))) ∧
    (CTurn s gid e slot [a, b, d] →
      (t0.gang = none → off ≠ [] → let at_ := (runLanes g).map (fun l => (l, (operand g [a, b, d] 1 l).zeroExtend 64))
        RaisesLanes s (exec (.cXst d a b) s) gid e 0x112 (accessCode 2 0 true true) 0 at_ (fun _ => True)) ∧
      ∀ (k : Nat) (tg : Nat → List Nat), t0.gang = some k →
        (∀ l ∈ runLanes g, xstTargets (s.gang k) (operand g [a, b, d] 0 l) = some (tg l) ∧
          (operand g [a, b, d] 1 l).toNat < (s.gang k).xwin ∧ (operand g [a, b, d] 1 l).toNat % 4 = 0 ∧
          ∀ j ∈ tg l, (t0.gangIdx, j) ∉ (s.gang k).known) →
        (∀ h ∈ (s.core c).hold, h.team ≠ gid / 16) → (s.core c).hold.length + (runLanes g).length ≤ 128 →
        ∃ v q es, LongIssued s v (exec (.cXst d a b) s) gid e ([a, b, d].count 127) q ∧ q.op = .plain ∧ SameBytes s v ∧
          (v.core c).hold = (s.core c).hold ++ es ∧ (∀ j, j ≠ c → (v.core j).hold = (s.core j).hold) ∧
          v.team (gid / 16) = t0.seal ∧ (∀ j, j ≠ gid / 16 → v.team j = s.team j) ∧
          (∀ h ∈ es, h.team = gid / 16 ∧ h.gang = k ∧ h.lines = []) ∧
          ∀ l1 l2 l, runLanes g = l1 ++ l :: l2 → (∀ x ∈ l2, operand g [a, b, d] 1 x ≠ operand g [a, b, d] 1 l) →
            ∃ h ∈ es, h.xst = (tg l).map (fun j => ((s.gang k).tids.getD j 0, (operand g [a, b, d] 1 l).toNat / 128 * 128)) ∧
              ∀ i, i < 4 → kvFind h.bytes ((operand g [a, b, d] 1 l).toNat % 128 + i) =
                some (byteOf (operand g [a, b, d] 2 l).toNat i))

/-! ## Queues, barriers and waits of groups -/

/-- R228, R269, R271, R272, R351, R390, R392, R394: PUSHG pushes a doubleword or waits, and PUSHG.NB says whether it did;
FENCE keeps its group not ready until what its order, mask and engines name has been performed; MONW goes on at a value that
differs, and else arms a slot and waits, for the arming first where the line's home is another device's (log entry 95); MWAITB
waits for its batch; BARARV and BARDROP arrive, BARAW arrives and waits for the flip, BARWAIT waits for a phase, and a group
that waits for a phase that is there goes on. -/
def Obligations.QueueBarrierAndWaitWordsOfGroups : Prop :=
  ∀ (s : State) (gid : Nat) (e : QEntry) (slot : Nat) (p nb : BitVec 3) (o : BitVec 2) (a b d : BitVec 7) (n : BitVec 5),
    let g := s.grp gid
    let tid := gid / 16
    let t0 := s.team tid
    let x := t0.bar n.toNat
    let uni (fs : List (BitVec 7)) (j : Nat) : W32 := operand g fs j (uniformLane g)
    let pushed (k : Group) : Prop := k = { g with pend := k.pend, p := k.p, rq := g.rq ++ [{
      val := uni [a, b] 1 ++ uni [a, b] 0, popped := false, pushed := t0.regCommitted }] }
    (CTurn s gid e slot [a, b] →
      (16 ≤ g.rq.length → exec (.cPushg a b) s = .next (s.setGrp gid { g with wait := .returnQueue }) ∧
        ∃ g1, CDone s (exec (.cPushgNb p a b) s) gid e ([a, b].count 127) g1 ∧ PredWritten g g1 p (fun _ => false)) ∧
      (g.rq.length < 16 → ∃ u v : State, Unseen s { u with groups := s.groups } ∧ Unseen s { v with groups := s.groups } ∧
        (∀ j, j ≠ gid → u.grp j = s.grp j ∧ v.grp j = s.grp j) ∧
        exec (.cPushg a b) s = .next (u.finish gid e ([a, b].count 127)) ∧ pushed (u.grp gid) ∧ (u.grp gid).p = g.p ∧
        exec (.cPushgNb p a b) s = .next (v.finish gid e ([a, b].count 127)) ∧ pushed (v.grp gid) ∧
        spGet (v.grp gid).p p.toNat = 0xFFFFFFFF#32 ∧ ∀ q : Nat, q ≠ p.toNat → spGet (v.grp gid).p q = spGet g.p q)) ∧
    (CTurn s gid e slot [] → g.loopOn = false →
      let scope := g.mode.toNat / 2 ^ 13 % 8
      let eng := g.mode.toNat / 2 ^ 20 % 8
      let upTo := (s.core (gid / 64)).hbSerial
      let waits : GWait := .fence o.toNat scope eng upTo e.mark e.mws
      let f := s.finish gid e 0
      let u := f.setGrp gid { f.grp gid with wait := waits }
      let go := FenceMayC u gid o scope eng (g.mode.toNat / 2 ^ 23 % 256) upTo e.mark e.mws
      (u.fenceC gid = true ↔ go) ∧ ∃ t, exec (.cFence o) s = .next t ∧ SameBytes s t ∧ t.ctxs = s.ctxs ∧
        (∀ j, j ≠ gid → t.grp j = s.grp j) ∧ (o.getLsbD 1 = false → eng = 0 → go) ∧
        (go → t.grp gid = { f.grp gid with pend := (t.grp gid).pend }) ∧
        (¬ go → t.grp gid = { u.grp gid with pend := (t.grp gid).pend })) ∧
    (CTurn s gid e slot [b, d] → let va := spGet g.ab nb.toNat + (uni [b, d] 0).zeroExtend 64
      let out := exec (.cMonw d nb b) s
      let at_ := [(uniformLane g, va)]
      (∀ m, g.monitor = some m → m.src = none) →
      (va.toNat % 4 ≠ 0 → RaisesLanes s out gid e 0x10D (accessCode 2 0 false false) 0 at_ (fun _ => True)) ∧
      (va.toNat % 4 = 0 → LanesStop s gid e .load false at_ (accessCode 2 0 false false) out) ∧
      ∀ u w y l, va.toNat % 4 = 0 → LanesFound s gid .load false at_ u [l] →
        ((u.performBefore gid [l.near (gid / 64)]).touch (gid / 64) t0.lid (l.near (gid / 64)) va).readAt (gid / 64)
          (l.near (gid / 64)) 4 l.os = (w, some y) →
        let far := isPeerLine (l.home / 128)
        (leNat y ≠ (uni [b, d] 1).toNat → ∃ v, out = .next (v.finish gid e ([b, d].count 127)) ∧
          SameBytes s v ∧ v.grp gid = { g with pend := (v.grp gid).pend, monitor := none }) ∧
        (leNat y = (uni [b, d] 1).toNat → ∃ t, out = .next t ∧ SameBytes s t ∧
          (g.monitor.isNone = true → 16 ≤ s.waiters (gid / 64) → t.grp gid = { g with
            pend := (t.grp gid).pend, wait := .monRetry (s.clk + 512) }) ∧
          (g.monitor.isSome = true ∨ s.waiters (gid / 64) < 16 → ∃ m : Monitor, t.grp gid = { g with
            pend := (t.grp gid).pend, wait := if far then .room else .monitor, monitor := some m } ∧
            m = { line := l.home / 128, woken := false, die := coreDie (gid / 64), src := m.src } ∧ m.src.isSome = far))) ∧
    (CTurn s gid e slot [a] → let k := (uni [a] 0).toNat % 1024
      (t0.batchDone k = true → CDone s (exec (.cMwaitb a) s) gid e ([a].count 127) g) ∧
      (t0.batchDone k = false → exec (.cMwaitb a) s = .next (s.setGrp gid { g with wait := .batch k }))) ∧
    (CTurn s gid e slot [] → (t0.bars ≤ n.toNat → RaisesC s (exec (.cBararv n) s) gid e 0x101 0 0) ∧
      (n.toNat < t0.bars → g.pend ≠ [] → exec (.cBararv n) s = .next (s.setGrp gid { g with wait := .flag })) ∧
      (n.toNat < t0.bars → g.pend = [] → let f := s.finish gid e 0
        (¬ BarOpen x (gid % 16) → RaisesC s (exec (.cBararv n) s) gid e 0x10C (BitVec.ofNat 64 n.toNat)
          (BitVec.ofNat 64 (x.toNat / 2 ^ 18 % 2 ^ 18))) ∧
        (BarOpen x (gid % 16) → ∃ t u v, exec (.cBararv n) s = .next t ∧ exec (.cBardrop n) s = .next u ∧
          exec (.cBaraw n) s = .next v ∧ BarFrame f t tid n.toNat (fun _ => False) ∧
          BarFrame f u tid n.toNat (fun _ => False) ∧ BarFrame f v tid n.toNat (· = gid) ∧
          BarArrival x ((t.team tid).bar n.toNat) (gid % 16) false ∧ BarArrival x ((u.team tid).bar n.toNat) (gid % 16) true ∧
          BarArrival x ((v.team tid).bar n.toNat) (gid % 16) false ∧ ((f.grp gid).wait = .ready →
            (v.grp gid).wait = .barrier n.toNat (!x.getLsbD 54))))) ∧
    (∀ ph, g.wait = .barrier n.toNat ph → (g.releaseBar t0).wait = if x.getLsbD 54 = ph then .ready else g.wait) ∧
    (CTurn s gid e slot [b] → n.toNat < t0.bars → g.pend = [] → let f := s.finish gid e ([b].count 127)
      let ph := (uni [b] 0).getLsbD 0
      (x.getLsbD 54 = ph → exec (.cBarwait n b) s = .next f) ∧
      (x.getLsbD 54 ≠ ph → (f.grp gid).wait = .ready →
        exec (.cBarwait n b) s = .next (f.setGrp gid { f.grp gid with wait := .barrier n.toNat ph })))

/-! ## The matrix unit -/

/-- R70, R73, R164, R165, R280, R287, R301: MNOP has no effect but its MSN; MZERO, MSCALE and MRELEASE change one slot or
handle, a handle that is not valid raising M_SLOT; MBATCH arrives at its barrier if the unit is a member, and completes its
batch, or waits for the flip; a released slot returns at the commit; a word that is no M instruction raises M_ILLEGAL. A word
takes the core clocks of R301 and its MSN at its last; MZERO reads at its first and clears at its last (log entry 27). An
M-fault holds the unit at its word and puts a record with the MSN behind the team's. -/
def Obligations.MatrixWordsOnSlotsAndBatches : Prop :=
  ∀ (s : State) (tid : Nat) (e : QEntry) (h : BitVec 4) (o : BitVec 15) (b : BitVec 5) (n : BitVec 10) (w : W32) (x : Nat),
    s.cur = .mat tid e →
    let t0 := s.team tid
    let v := t0.slot x
    let at_ := o.toNat * 32
    let held := (t0.ah.filter (fun a => a.2.getLsbD 15)).length + t0.released.length
    (∃ t, exec .mMnop s = .next t ∧ MDone s t tid t0 ∧ t.ctxs = s.ctxs) ∧
    RaisesM s (exec (.eIllegalMWord w) s) tid e 0x201 0 0 0 ∧
    (∀ f : MFault, ∃ t, s.raiseM tid f e = t ∧ MRaised s t tid f e) ∧
    ((spGet t0.ah h.toNat).getLsbD 15 = false → ∀ i ∈ [.mMzero h, .mMscale h o, .mMrelease h],
      RaisesM s (exec i s) tid e 0x205 0 (BitVec.ofNat 64 h.toNat) (BitVec.ofNat 64 held)) ∧
    (HandleIs t0 h.toNat x →
      (∃ t t1, exec (.mMzero h) s = .next t ∧ MRuns s t tid t1 64 ∧ t1 = { t0 with slotState := t1.slotState } ∧
        ∀ y, t1.slot y = if y = x then { v with elems := [], e := 0, eset := false, ovf := false, renorms := 0 } else t0.slot y) ∧
      (t0.share < at_ + 4 → RaisesM s (exec (.mMscale h o) s) tid e 0x207
        (BitVec.ofNat 64 (if t0.share ≤ at_ then at_ else t0.share)) 16 (BitVec.ofNat 64 t0.share)) ∧
      (at_ + 4 ≤ t0.share → t0.spPoisoned at_ = false → ∃ t t1, exec (.mMscale h o) s = .next t ∧ MDone s t tid t1 ∧
        t1 = { t0 with slotState := t1.slotState } ∧
        ∀ y, t1.slot y = if y = x then { v with t := BitVec.ofNat 32 (t0.spRead at_ 4) } else t0.slot y) ∧
      (∃ t t1, exec (.mMrelease h) s = .next t ∧ MDone s t tid t1 ∧
        t1 = { t0 with ah := t1.ah, released := t1.released } ∧
        (spGet t1.ah h.toNat).getLsbD 15 = false ∧ (∀ k, k ≠ h.toNat → spGet t1.ah k = spGet t0.ah k) ∧
        t1.free = t0.free ∧ t1.released = t0.released ++ [(h.toNat, x)])) ∧
    (let y := t0.bar b.toNat
     let member := b.toNat < t0.bars ∧ y.getLsbD 17 = true
     (member → y.getLsbD 35 = true → exec (.mMbatch b n) s = .next s) ∧
     (¬ (member ∧ y.getLsbD 35 = true) → ∃ t, exec (.mMbatch b n) s = .next t ∧ SameBytes s t ∧
       (t.team tid).msn = t0.msn + 1 ∧ (t.team tid).mq = consumeHead t0.mq ∧ (t.core (tid / 4)).matSwitch = true ∧
       (member → BarArrival y ((t.team tid).bar b.toNat) 17 false) ∧ (¬ member → (t.team tid).bn = t0.bn) ∧
       (t.ctx tid).mwaits = (s.ctx tid).mwaits.filter (fun m => !(t.team tid).batchDone m.1) ∧
       ∀ m ∈ (s.ctx tid).mwaits, (t.team tid).batchDone m.1 = true → 0 < m.2.1 → m.2.1 < 64 →
         (t.ctx tid).token (BitVec.ofNat 6 m.2.1) = false ∧
           (t.ctx tid).get (BitVec.ofNat 6 m.2.1) = t0.msn.zeroExtend 64))

/-- R104 to R110, R285 to R290, R292, R294, R301: an MMA or MMAG that passes its checks gives each of its groups' slots its
products, first re-initialised with NEW, and changes no other slot, no other handle and no byte of the share; MLOADA replaces
one slot; MOUT writes the elements of its tile and with stat the status record, and no other byte, tag or slot. Each takes the
core clocks of R301 and ends with the last of them, the operands being read at its first (log entry 27), whole rows of mdA
(log entry 103), and the penalty counting a group's own rows (log entry 114). Products, k-steps, loads and conversions are
exact but for their one rounding. -/
def Obligations.MatrixWordsOnTiles : Prop :=
  (∀ (t : Tile) (ps : List (List FVal)), -1024 ≤ t.e → t.els.length = ps.length → MmaStepIs t (mmaStep t ps) ps) ∧
  (∀ (x y : Int) (a b : FVal), ProductIs none a b (product none a b) ∧ ProductIs (some (x, y)) a b (product (scaleSum x y) a b)) ∧
  (∀ (x : Slot) (vs : List (List FVal)) (i j mode : Nat) (sat : Bool), i < 64 → j < 64 → mode ≤ 4 →
    LoadIs x (x.load vs) (fun i j => (vs.getD i []).getD j fzero) ∧
    ∀ f ∈ [fp32, bf16, fp16, f8e4, f8e5], OutIs x i j f mode sat (x.out i j f mode sat)) ∧
  ∀ (s : State) (tid : Nat) (e : QEntry) (h a b : BitVec 4) (n : BitVec 12) (m : BitVec 8) (g : BitVec 4) (f r : BitVec 3)
    (w rb cb st sat : BitVec 1) (x : Nat), s.cur = .mat tid e →
    let t0 := s.team tid
    let da := t0.desc a.toNat
    let nib := if f = 0 then 8 else if f.toNat ≤ 2 then 4 else 2
    let tile := da.shapeOk nib = true ∧ da.rows ≤ 64 ∧ da.cols ≤ 64
    let rows := da.rowPieces da.rows nib
    let inside (l : List Piece) := ∀ p ∈ l, 0 ≤ p.off ∧ p.off + p.n ≤ (t0.share : Int)
    (∀ gs : List MGroup, gs = [{ h := h.toNat, b := t0.desc b.toNat, lo := 0, c := 64 }] → SlotsApart t0 gs →
      MmaReady t0 da gs (n.toNat + 1) 0 da.rows (w == 1) (rb == 1) (cb == 1) [] →
      ∃ t t1, exec (.mMma h a b n w rb cb) s = .next t ∧
        MRuns s t tid t1 (mmaClocks t0 da gs (n.toNat + 1)) ∧
        MmaSlots t0 t1 da gs (n.toNat + 1) (w == 1) (rb == 1) (cb == 1)) ∧
    (h.toNat + g.toNat ≤ 15 → b.toNat + g.toNat ≤ 15 → 32 ≤ da.base → da.base ≤ t0.share + 16 →
      let cs := (List.range (g.toNat + 1)).map (fun i => t0.spRead (da.base - 32 + i) 1)
      let gs : List MGroup := (List.range (g.toNat + 1)).filterMap (fun i => if cs.getD i 0 = 0 then none
        else some { h := h.toNat + i, b := t0.desc (b.toNat + i), lo := (cs.take i).sum, c := cs.getD i 0 })
      SlotsApart t0 gs → MmaReady t0 da gs (m.toNat + 1) cs.sum cs.sum (w == 1) (rb == 1) (cb == 1) [da.below 32] →
      ∃ t t1, exec (.mMmag h a b g m w rb cb) s = .next t ∧
        MRuns s t tid t1 (mmaClocks t0 da gs (m.toNat + 1)) ∧
        MmaSlots t0 t1 da gs (m.toNat + 1) (w == 1) (rb == 1) (cb == 1)) ∧
    (f.toNat ≤ 4 → HandleIs t0 h.toNat x → tile → inside rows → t0.poisonIn rows = none →
      let el (i j : Nat) : FVal := (accFmt f.toNat).val
        (leNat ((List.range (nib / 2)).map (fun k => spGet t0.sp (t0.place (da.byteAt i (j * (nib / 2) + k))))))
      ∃ t t1, exec (.mMloada h a f) s = .next t ∧ MRuns s t tid t1 64 ∧ t1 = { t0 with slotState := t1.slotState } ∧
        ∀ y, t1.slot y = if y = x then (t0.slot x).load ((List.range da.rows).map (fun i => (List.range da.cols).map (el i)))
          else t0.slot y) ∧
    (f.toNat ≤ 4 → r.toNat ≤ 4 → HandleIs t0 h.toNat x → tile → inside (rows ++ if st = 1 then [da.below 16] else []) →
      2 * t0.xwin ≤ t0.share → t0.xwin % 4 = 0 → t0.share % 4 = 0 →
      let own (k : Nat) : Prop := (∃ i j c, i < da.rows ∧ j < da.cols ∧ c < nib / 2 ∧ k = da.byteAt i (j * (nib / 2) + c)) ∨
        (st = 1 ∧ da.base ≤ k + 16 ∧ k < da.base)
      ∃ t t1, exec (.mMout h a f r sat st) s = .next t ∧ MRuns s t tid t1 (64 + da.rows) ∧
        t1 = { t0 with sp := t1.sp, spPoison := t1.spPoison } ∧
        (∀ i j, i < da.rows → j < da.cols → ∀ c, c < nib / 2 → t1.spBytesAt (da.byteAt i (j * (nib / 2) + c)) 1 =
          [byteOf ((t0.slot x).out i j (accFmt f.toNat) r.toNat (sat == 1)) c]) ∧
        (st = 1 → t1.spBytesAt (da.base - 16) 16 = (t0.slot x).status) ∧
        ∀ k, ¬ own k → t1.spBytesAt k 1 = t0.spBytesAt k 1)

/-! ## Packets -/

/-- R307, R310, R313, R325, R327, R328, R330, R333: every packet is checked in one order and skipped where a PRED says so;
NOP, FETCHFENCE, DRAIN, SETPRIO, CALLIB, LOOP and ENDLOOP then complete with the effects given here; a buffer that has been
parsed is left for the level below, unless a loop of it is open. A packet's error, of an unassigned type too, stops its queue,
with the error field, the record and QERRS. CALLIB judges no mapping: a buffer that is not mapped errs at the fetch from it
(log entry 54). -/
def Obligations.PacketsAreCheckedAndControlTheirLane : Prop :=
  ∀ (s : State) (i l : Nat) (p : Packet),
    let q := (s.lane i l).q
    let x := s.laneQueue i l
    let k := s.lane i l
    let level (y : Queue) (n : Nat) (f : List (List (W64 × Nat))) : State := (s.setQueue i q y).setLane i l { k with
      wait := .none, skip := false, parsed := k.parsed + n, fetched := f, waitSince := s.clk }
    (∀ (y : Instr) (n : Nat) (m : BitVec 48) (ok : Bool), s.cur = .lane i l p → packetShape y p = some (n, m, ok) →
      (p.len = 0 ∨ p.len.toNat ≠ n → PError s (exec y s) i l 0x11) ∧
      (p.len.toNat = n → n ≠ 0 →
        (p.hdr &&& ~~~m ≠ 0 ∨ ok = false → PError s (exec y s) i l 0x12) ∧
        (p.hdr &&& ~~~m = 0 → ok = true → x.level ≠ 0 → x.lv.left < n → PError s (exec y s) i l 0x13) ∧
        (p.hdr &&& ~~~m = 0 → ok = true → (x.level ≠ 0 → n ≤ x.lv.left) → k.skip = true →
          exec y s = .next (s.passPacket i l n false)))) ∧
    (∀ n, PTurn s i l p .pNopPacket n → exec .pNopPacket s = .next (s.passPacket i l n false)) ∧
    (kvFind (s.pewter i).queues q = some x → s.laneOf i q = some l → x.levels.length ≤ 4 →
      (∀ code, code < 64 → ∃ t, s.packetError i l code = t ∧ QueueStopped s t i l code x.offset (x.unitVa 0)) ∧
      (∀ h f, s.window i l = (h, 0) :: f → 0x0E ≤ h.toNat / 2 ^ 56 → ∃ t, s.runLane i l = .next t ∧
        QueueStopped s t i l 0x10 x.offset (x.unitVa 0)) ∧
      (∀ n, k.stop = none → 1 ≤ x.level → x.level ≤ x.levels.length → x.lv.left = n →
        (∃ e ∈ x.loops, e.level = x.level) → ∃ t, s.passPacket i l n false = t ∧
          QueueStopped s t i l 0x17 (x.skip n).offset ((x.skip n).unitVa 0))) ∧
    (∀ n, k.stop = none → 1 ≤ x.level → x.level ≤ x.levels.length → x.lv.left = n → (∀ e ∈ x.loops, e.level ≠ x.level) →
      (x.level = 1 ∧ x.wa ≠ x.ri) ∨ (2 ≤ x.level ∧ (x.levels.getD (x.level - 2) {}).left ≠ 0) →
      s.passPacket i l n false = level { x with
        lastOff := some x.offset, level := x.level - 1, levels := x.levels.set (x.level - 1) {} } 1
        ((k.fetched.modify x.level (fun f => f.drop n)).set x.level [])) ∧
    (k.stop = none → x.level = 0 → ∀ n, x.wa ≠ x.ri + BitVec.ofNat 32 n → s.passPacket i l n false =
      level { x with ri := x.ri + BitVec.ofNat 32 n, lastOff := some x.ri } 1 (k.fetched.modify 0 (fun f => f.drop n))) ∧
    (PTurn s i l p .pFetchfence 1 → ∃ u, exec .pFetchfence s = .next (u.passPacket i l 1 false) ∧
      u.lane i l = { k with fetched := [[], [], [], [], []] } ∧ u.laneQueue i l = x ∧ SameBytes s u) ∧
    (PTurn s i l p .pDrain 1 →
      ((∃ y ∈ s.launches, y.2.iod = i ∧ y.2.q = q) → exec .pDrain s = .next (s.setLane i l { k with wait := .drain })) ∧
      ((∀ y ∈ s.launches, ¬ (y.2.iod = i ∧ y.2.q = q)) → exec .pDrain s = .next (s.passPacket i l 1 false))) ∧
    (PTurn s i l p .pSetprio 1 →
      exec .pSetprio s = .next ((s.setQueue i q { x with prio := p.hdr.toNat % 8 }).passPacket i l 1 false)) ∧
    (PTurn s i l p .pCallib 3 →
      let a := p.body.getD 0 0
      let n := (p.body.getD 1 0).toNat
      (4 ≤ x.level ∨ n = 0 → PError s (exec .pCallib s) i l 0x14) ∧
      (x.level < 4 → n ≠ 0 → a.toNat % 8 ≠ 0 → PError s (exec .pCallib s) i l 0x19) ∧
      (x.level < 4 → x.levels.length = 4 → k.fetched.length = 5 → n ≠ 0 → a.toNat % 8 = 0 → k.stop = none →
        ∃ t y, exec .pCallib s = .next t ∧ t = (s.setQueue i q y).setLane i l (t.lane i l) ∧
          y = { x.skip 3 with
            lastOff := some x.offset, level := x.level + 1
            levels := (x.skip 3).levels.set x.level { addr := a, left := n, used := 0 } } ∧
          y.unitVa 0 = a ∧ y.avail = n ∧ (t.lane i l).parsed = k.parsed + 1 ∧ t.window i l = [])) ∧
    (PTurn s i l p .pLoop 1 → let n := p.hdr.toNat % 65536
      (n = 0 ∨ 2 ≤ x.loops.length → PError s (exec .pLoop s) i l 0x15) ∧
      (n ≠ 0 → x.loops.length < 2 → exec .pLoop s = .next ((s.setQueue i q { x with
        loops := x.loops ++ [{ start := (x.skip 1).unitVa 0, left := n - 1, level := x.level }] }).passPacket i l 1 false))) ∧
    (PTurn s i l p .pEndloop 1 →
      (x.loops = [] → PError s (exec .pEndloop s) i l 0x16) ∧
      (∀ f z, x.loops = f ++ [z] →
        (z.level ≠ x.level → PError s (exec .pEndloop s) i l 0x16) ∧
        (z.level = x.level → z.left = 0 →
          exec .pEndloop s = .next ((s.setQueue i q { x with loops := f }).passPacket i l 1 false)) ∧
        (z.level = x.level → z.left ≠ 0 → k.stop = none → x.level ≠ 0 → x.level ≤ x.levels.length →
          x.lv.left + (x.lv.addr - z.start).toNat / 8 ≠ 0 →
          ∃ t, exec .pEndloop s = .next t ∧ SameBytes s t ∧ (t.laneQueue i l).lv.addr = z.start ∧
            (t.laneQueue i l).loops = f ++ [{ z with left := z.left - 1 }] ∧
            t.window i l = []) ∧
        (z.level = 0 → x.level = 0 → z.left ≠ 0 → k.stop = none → 3 ≤ x.lsize → x.lsize ≤ 35 → ∃ t y,
          exec .pEndloop s = .next t ∧ y = { x with
            ri := y.ri, lastOff := some x.ri, loops := f ++ [{ z with left := z.left - 1 }] } ∧
          y.ri.toNat % x.capacity = (z.start - x.base).toNat / 8 % x.capacity ∧ (x.ri - y.ri).toNat < x.capacity ∧
          (x.wa ≠ y.ri → SameBytes s t ∧ t.laneQueue i l = y ∧ t.window i l = []))))

/-- R315, R325, R329, R331 to R336: PRED skips the next packet when its condition fails, WAITMEM waits while it does, SIGNAL
stores or adds at every copy of its location, TIMESTAMP stores the time, each going on once it has written within the device
and else waiting for the write to leave quarantine, and COPY, LAUNCH and LAUNCHI join the task range table, a launch once its
fields, its rectangle and its shape pass the checks of R336. -/
def Obligations.PacketsReadWriteAndLaunch : Prop :=
  ∀ (s u v : State) (i l : Nat) (p : Packet) (pls : List Nat) (home : Nat) (os : PageKind) (bs : List Byte),
    let q := (s.lane i l).q
    let x := s.laneQueue i l
    let h := p.hdr.toNat
    let a := p.body.getD 0 0
    let z := if p.hdr.getLsbD 3 then 8 else 4
    let mask := p.body.getD 2 0
    let holds := condHolds (h % 8) (BitVec.ofNat 64 (leNat bs) &&& mask) (p.body.getD 1 0 &&& mask)
    let sz := 2 ^ (h / 64 % 4)
    let y := (p.body.getD 1 0).toNat % 2 ^ (8 * sz)
    (PTurn s i l p .pPred 4 ∨ PTurn s i l p .pWaitmem 4 → h % 8 ≤ 5 → a.toNat % z = 0 → PFound s i l a .load u pls home os →
      u.dieRead (8 + i) (readPlace (8 + i) pls) z os = (v, some bs) →
      (PTurn s i l p .pPred 4 → (x.avail ≤ 4 ∨ ∃ w, (s.window i l)[4]? = some w ∧ w.1.toNat / 2 ^ 56 ∉ [5, 6, 7]) →
        PDone v (exec .pPred s) i l 4 (!holds)) ∧
      (PTurn s i l p .pWaitmem 4 → (holds = true → PDone v (exec .pWaitmem s) i l 4 false) ∧
        (holds = false → exec .pWaitmem s = .next (v.setLane i l { v.lane i l with wait := .waitmem (home / 128) v.clk false })))) ∧
    (∀ w ∈ [.pSignalWrite, .pSignalAdd], PTurn s i l p w 3 →
      let op := h % 8
      let sc := h / 8 % 8
      (1 < op ∨ sc < 2 ∨ 4 < sc ∨ h / 64 % 4 < 2 → PError s (exec w s) i l 0x1A) ∧
      (op ≤ 1 → 2 ≤ sc → sc ≤ 4 → 2 ≤ h / 64 % 4 →
        (a.toNat % sz ≠ 0 → PError s (exec w s) i l 0x19) ∧
        (a.toNat % sz = 0 →
          (op = 0 → PFound s i l a .store u pls home os → u.egressRoom (8 + i) pls = true →
            ∃ t, PWrote t (exec w s) i l 3 pls ∧ PewtersStand s t ∧ Stored s t pls a sz y) ∧
          (op = 1 → PFound s i l a .amo u pls home os → isFar home = false → isMmio home = false → u.poisoned home = false →
            u.egressRoom (8 + i) pls = true → ∃ t, PWrote t (exec w s) i l 3 pls ∧ PewtersStand s t ∧
              Stored s t (home :: pls) a sz ((leNat (s.bytes home sz) + y) % 2 ^ (8 * sz)))))) ∧
    (PTurn s i l p .pTimestamp 2 → let sc := h / 8 % 8
      (sc < 2 ∨ 4 < sc → PError s (exec .pTimestamp s) i l 0x1A) ∧
      (2 ≤ sc → sc ≤ 4 → a.toNat % 8 = 0 → PFound s i l a .store u pls home os → u.egressRoom (8 + i) pls = true →
        ∃ t, PWrote t (exec .pTimestamp s) i l 2 pls ∧ PewtersStand s t ∧ Stored s t pls a 8 (s.clk * 5 / 8))) ∧
    (PTurn s i l p .pCopyPacket 4 → s.tableRoom i x.asid = true → ∃ t e, PewtersStand s t ∧
      t.launches = kvSet s.launches s.nextLid e ∧
      t.nextLid = s.nextLid + 1 ∧ SameBytes s t ∧ e.iod = i ∧ e.q = q ∧ e.asid = x.asid ∧ e.stage = .table_ ∧
      e.copy = some { src := a, dst := p.body.getD 1 0, len := (p.body.getD 2 0).toNat % 2 ^ 32, loc := p.hdr.getLsbD 1
                      wait := p.hdr.getLsbD 0 } ∧
      (p.hdr.getLsbD 0 = true → exec .pCopyPacket s = .next (t.setLane i l { t.lane i l with wait := .copy s.nextLid })) ∧
      (p.hdr.getLsbD 0 = false → PDone t (exec .pCopyPacket s) i l 4 false)) ∧
    (∀ ind : Bool, let w : Instr := if ind then .pLaunchi else .pLaunch
      let n := 15 + 2 * (h % 16 + h / 16 % 16 + h / 256 % 16)
      let e := launchOf i q x p
      PTurn s i l p w n →
        (∀ c, launchCode p ind = some c → PError s (exec w s) i l c) ∧
        (launchCode p ind = none → ∀ c, LaunchRejected s p c →
          (∀ n, c = some n → PError s (exec w s) i l n) ∧
          (c = none →
            (s.tableRoom i x.asid = false → exec w s = .next (s.setLane i l { s.lane i l with wait := .table_ p })) ∧
            (s.tableRoom i x.asid = true → ∃ t, PDone t (exec w s) i l n false ∧ PewtersStand s t ∧ SameBytes s t ∧
              t.launches = kvSet s.launches s.nextLid e ∧ t.nextLid = s.nextLid + 1))))

/-! ## Events -/

/-- R6, R7, R26, R50, R187, R207, R210, R218, R372, R382, R384, R402 to R407, R414, R416, R417, R424 to R434: each event of
the module, its dies, links and ports has its effect where its condition holds, and else none. Cold reset leaves nothing
resident and time at 0; a store to a core's TSWAP or TMAX reads back its low 16 bits; a DRAM error adds to the erroneous bytes
of its sector; a strike rolls each team of its core back to REGPC, or kills it where its regions are sealed; a die that fails
ends the launches with a team on it, and its pages have their lowest surviving copy as home. The model's choices: that an
event whose condition fails does nothing, and its operands (log entries 9, 37), memory after reset (1), and what the rules
leave open of each event's effect (27, 36, 38, 68, 70, 72, 73, 79, 95, 106, 109, 110, 122). -/
def Obligations.ModuleEventsHaveTheirConditionAndEffect : Prop :=
  ∀ (s : State) (i : Instr) (x : EvArg), Happens s i x (moduleEvent i x s) ∧
    (s.cur = .event x → i = .eColdReset → ∃ t, exec i s = .next t ∧ t.clk = 0 ∧ t.released = false ∧ t.ctxs = [] ∧
      t.teams = [] ∧ t.groups = [] ∧ t.launches = [] ∧ t.copies = [] ∧ t.mem = [] ∧
      (∀ c, t.core c = { spare := (s.core c).spare }) ∧ ∀ p, t.pewter p = {}) ∧
    (s.cur = .event x → i = .eRegisterWrite → x.size = .aligned64 → x.a < 8 → 0x100000 ≤ x.b → x.b < 0x180000 →
      x.b % 0x1000 = 0x10 ∨ x.b % 0x1000 = 0x18 → ∃ t, exec i s = .next t ∧
        t.mmioRead x.a x.b = (x.val.extractLsb' 0 16).zeroExtend 64 ∧ SameBytes s t) ∧
    (s.cur = .event x → i = .eDramScrub → x.flag = true → s.populated x.val.toNat = true → 1 ≤ x.b → x.b ≤ 64 →
      ∃ t, exec i s = .next t ∧ SameBytes s t ∧
        kvGet 0 t.errs (x.val.toNat / 64) = min 64 (kvGet 0 s.errs (x.val.toNat / 64) + x.b)) ∧
    (s.cur = .event x → i = .eModuleRelease → s.smify.stage = 3 → s.released = false →
      exec i s = .next { s with released := true, clk := 0 }) ∧
    (s.cur = .event x → i = .eStrike → (∀ j, (s.team j).groups ≤ 16) → ∃ t, exec i s = .next t ∧
      ∀ k < 4, s.hasTeam (x.a * 4 + k) = true → ((s.team (x.a * 4 + k)).sealed = true → TeamGone t (x.a * 4 + k)) ∧
        ((s.team (x.a * 4 + k)).sealed = false → RolledBack s t (x.a * 4 + k))) ∧
    (s.cur = .event x → i = .eDieFailure → x.a < 8 → ∃ t, exec i s = .next t ∧ DieFailed s t x.a ∧ Rehomed t x.a)

/-- R30, R173, R174, R306 to R319, R322, R325, R329, R332, R338, R356, R457: each event of the queues, lanes, launches and
their placement, and of fault records, has its effect where its condition holds, and else none. A kick that R308 accepts sets
the queue's write index; one that does not move it is counted; one with a wrong generation stops the queue. A team that is
admitted takes its core's lowest free slot and stands at its entry with the values of R30. The model's choices: that an event
whose condition fails does nothing, and its operands (log entries 9, 37), and what the rules leave open of an event's effect
(48, 49, 53, 58, 94, 104). -/
def Obligations.QueueAndLaunchEventsHaveTheirConditionAndEffect : Prop :=
  ∀ (s : State) (i : Instr) (x : EvArg), Happens s i x (queueEvent i x s) ∧
    (∀ q, s.cur = .event x → i = .eKick → x.a < 4096 →
      let io := x.a / 2048
      let wi : W32 := x.val.extractLsb' 0 32
      let d := (wi - q.ri).toNat
      (s.pewter io).qctl = true → x.size = .aligned64 → kvFind (s.pewter io).queues x.a = some q → q.fresh = true →
      x.val.toNat / 2 ^ 48 = 0 →
        (x.val.toNat / 2 ^ 32 = q.gen → (q.wa - q.ri).toNat < d → d ≤ q.capacity → d < 2 ^ 31 →
          ∃ t, exec i s = .next t ∧ SameBytes s t ∧ (t.queue io x.a).wa = wi ∧
            ∀ j, j ≠ x.a → t.queue io j = s.queue io j) ∧
        (x.val.toNat / 2 ^ 32 = q.gen → d ≤ (q.wa - q.ri).toNat → d < 2 ^ 31 →
          ∃ t, exec i s = .next t ∧ SameBytes s t ∧ t.queue io x.a = q ∧
            (t.pewter io).qign = (s.pewter io).qign + 1) ∧
        (x.val.toNat / 2 ^ 32 ≠ q.gen →
          ∃ t, exec i s = .next t ∧ kvFind (t.pewter io).queues x.a = none ∧
            (t.pewter io).qerrs = (s.pewter io).qerrs + 1)) ∧
    (∀ w c k, s.cur = .event x → i = .eTeamAdmission → s.nextWaiting x.a x.b = some w → w.swapped = none →
      s.pickCore x.a w = some c → k < 4 → s.hasTeam (c * 4 + k) = false → (∀ j < k, s.hasTeam (c * 4 + j) = true) →
      ∃ t, exec i s = .next t ∧ SameBytes s t ∧ Admitted t (s.launch w.lid) w.num c (c * 4 + k))

/-- R28, R131, R164, R167, R170, R171, R176 to R184, R192, R193, R204, R217, R249, R267, R270 to R278, R282, R321, R350, R379
to R382, R398: each event of teams, contexts and groups has its effect where its condition holds, and else none. The oldest
held store leaves to its lines and to nothing else; a region's commit moves every armed group past its marker, returns the
slots released in it and leaves a seal to the region that it belongs to, and an arrival that the team owes then follows; a
group's memory word that completes writes its lanes and its flag falls, or with poison is recorded and holds its group; the
oldest fault of a team's agents goes to level two, queues, is delivered or overflows its queue; swap-out places the registers
in the image at their offsets and swap-in takes them from there; a copy moves the bytes of its next line, ends with a status,
or is refused; a reply to a park releases what is parked on the page, in the order of parking, kills the team, or raises
UNMAPPED; a team that retires leaves nothing. The model's choices: that an event whose condition fails does nothing, and its
operands (log entries 9, 37), and what the rules leave open of an event's effect (21, 63 to 67, 78, 92). -/
def Obligations.TeamAndGroupEventsHaveTheirConditionAndEffect : Prop :=
  ∀ (s : State) (i : Instr) (x : EvArg), Happens s i x (teamEvent i x s) ∧
    (∀ h l, s.cur = .event x → i = .eHoldBackLeave → s.mayLeave x.a = true → (s.core x.a).hold = h :: l → h.xst = [] →
      (h.bytes.map Prod.fst).Nodup → (∀ e ∈ h.bytes, e.1 < 128) →
      ∃ t, exec i s = .next t ∧ (t.core x.a).hold = l ∧ ∀ p, t.byte p =
        if p / 128 ∈ h.lines ∧ s.populated p = true then (kvFind h.bytes (p % 128)).getD (s.byte p) else s.byte p) ∧
    (s.cur = .event x → i = .eRegionCommit → s.mayCommit x.a = true → 
      let n := (s.team x.a).regCommitted + 1
      ∃ t, exec i s = .next (t.gangArrival x.a) ∧ SameBytes s t ∧ (t.team x.a).regCommitted = n ∧
      (t.team x.a).sealed = ((s.team x.a).sealed && decide (n < (s.team x.a).sealEnd)) ∧ (t.team x.a).released = [] ∧
      (∀ r ∈ (s.team x.a).released, r.2 ∈ (t.team x.a).free) ∧ (t.team x.a).msn = (s.team x.a).msn + 1 ∧
        (t.ctx x.a).regpc = (s.ctx x.a).pendEntry ∧
      ∀ k < (s.team x.a).groups, let g := s.grp (groupId x.a k)
        let u := t.grp (groupId x.a k)
        u.v = g.v ∧ u.p = g.p ∧ u.ab = g.ab ∧ u.mode = g.mode ∧ (g.armed = true → u.esn = g.esn + 1 ∧ u.sig = sigInit ∧
          u.resn = g.esn ∧ u.rmode = g.mode)) ∧
    (∀ p ds, s.cur = .event x → i = .eCMemoryComplete → (s.grp x.a).pend[x.b]? = some p → p.dead = false → p.accs = [] →
      p.poison = none → p.data = some ds → p.issued + p.floor ≤ s.clk → p.op = .load 4 ∨ p.op = .result false →
      (ds.map Prod.fst).Nodup → (∀ e ∈ ds, e.1 < 32) → ∃ t, exec i s = .next t ∧ SameBytes s t ∧
        let g := s.grp x.a
        let u := t.grp x.a
        u.pend = g.pend.eraseIdx x.b ∧ (∀ f, spGet u.cf f = spGet g.cf f - (if p.flag = some f then 1 else 0)) ∧ u.p = g.p ∧
        ∀ d l, l < 32 → u.vget d l = if d = p.d.toNat ∧ d ≠ 127 then (match kvFind ds l with
          | some y => y.extractLsb' 0 32
          | none => g.vget d l) else g.vget d l) ∧
    (s.cur = .event x → i = .eTeamRetirement → s.hasTeam x.a = true → (s.ctx x.a).wait = .exit → MayExit s x.a →
      ∃ t, exec i s = .next t ∧ TeamGone t x.a ∧ SameBytes s t) ∧
    (∀ p va, s.cur = .event x → i = .eCMemoryComplete → (s.grp x.a).pend[x.b]? = some p → p.dead = false → p.accs = [] →
      p.poison = some va → p.issued + p.floor ≤ s.clk → (∀ k, p.op ≠ .store true k) → ∃ t, exec i s = .next t ∧ SameBytes s t ∧
        let g := s.grp x.a
        let u := t.grp x.a
        u.wait = .held ∧ u.late = g.late ++ [p.esn] ∧ u.v = g.v ∧ u.p = g.p ∧ u.pend = g.pend.eraseIdx x.b ∧
        ∃ f ∈ (t.team (x.a / 16)).faults, f.agent = .grp (x.a % 16) ∧
          f.trec.t0.toNat = 0x110 + x.a % 16 * 2 ^ 24 + 2 ^ 28 + p.esn.toNat * 2 ^ 32 ∧ f.trec.t1 = p.pc.zeroExtend 64 ∧
          f.trec.t2 = p.bad.zeroExtend 64 ∧ f.trec.t3 = va ∧ f.trec.t4 = p.code ∧ f.trec.t7 = p.word.zeroExtend 64) ∧
    (let id := x.a
     let c := s.ctx id
     let at_ := fun (k : Ctx) r l => Delivered c k r l c.pc (some (s.now + 50000)) s.now
     s.cur = .event x → i = .eTrapDelivery → id < 4096 → s.hasTeam id = true → c.pended = none →
      (∀ p l, (s.team id).faults = p :: l → (∀ g, p.agent = .grp g → (s.grp (id * 16 + g)).pend = []) →
        (c.trapen = false → c.tq = [] → ∃ t r, exec i s = .next t ∧ SameBytes s t ∧ t.ctx id = c ∧ (t.team id).faults = l ∧
          t.records = s.records ++ [r] ∧ r.kind = 1 ∧ r.body = p.trec ∧ r.src = .agent id p.trec.agent) ∧
        (c.trapen = true → c.mask = true ∨ c.wait = .held ∨ c.wait = .reply ∨ c.wait = .watchdog → c.tq.length < 4 →
          ∃ t, exec i s = .next t ∧ SameBytes s t ∧ t.ctx id = { c with tq := c.tq ++ [p.trec] } ∧ (t.team id).faults = l) ∧
        (c.trapen = true → c.mask = true → 4 ≤ c.tq.length → ∃ t, exec i s = .next t ∧ TeamGone t id ∧ SameBytes s t ∧
          QueueFullSent t p.trec.code p.trec.kind (if p.trec.kind = 1 then p.trec.group else 0)) ∧
        (c.trapen = true → c.mask = false → c.wait ≠ .held → c.wait ≠ .reply → c.wait ≠ .watchdog → c.trec.code = 0 → c.tq = [] →
          c.pastArrival = false → ∃ t, exec i s = .next t ∧ SameBytes s t ∧ at_ (t.ctx id) p.trec [] ∧ (t.team id).faults = l)) ∧
      (∀ r l, (s.team id).faults = [] → c.tq = r :: l → c.mask = false → c.wait ≠ .held → c.wait ≠ .reply → c.wait ≠ .watchdog →
        c.trec.code = 0 → c.pastArrival = false → ∃ t, exec i s = .next t ∧ SameBytes s t ∧ at_ (t.ctx id) r l)) ∧
    (∀ ps : List (List Nat × PageKind), s.cur = .event x → i = .eSwapOut → s.mayPreempt x.a = true →
      (s.team x.a).slotPages.map (fun va =>
        s.slotPage (x.a / 4) (s.team x.a).asid.toNat .store va) = ps.map some →
      ImageHolds (s.slotBytes x.a) s x.a ∧ ∃ t, exec i s = .next t ∧ TeamGone t x.a ∧
        (∃ w ∈ (t.die (coreDie (x.a / 4))).pending, ∃ y, w.swapped = some y ∧ w.lid = (s.team x.a).lid ∧ y.core = x.a / 4 ∧
          y.team = s.team x.a ∧ y.groups = (List.range (s.team x.a).groups).map (fun g => (g, s.grp (x.a * 16 + g)))) ∧
        ((ps.flatMap Prod.fst).Nodup → (∀ q ∈ ps.flatMap Prod.fst, q % 65536 = 0 ∧ ∀ o < 65536, s.populated (q + o) = true) →
          ∀ k p, ps[k]? = some p → ∀ q ∈ p.1, ∀ o < 65536, t.byte (q + o) = (s.slotBytes x.a).getD (k * 65536 + o) 0)) ∧
    (∀ (y : Swapped) m, y.groups.map Prod.fst = List.range y.team.groups → y.team.groups ≤ 16 →
      let r := s.restore y m
      r.1.hasTeam r.2 = true ∧ ImageTaken (m.map Prod.fst) r.1 r.2 y.team.groups y.team.accs y.team.share) ∧
    (∀ o pls, s.cur = .event x → i = .eCopyOperationEnd → CopyTurn s x.a x.b o → o.done < o.total →
      (o.done = 0 → o.refused = none) → o.dstSp = false →
      EngineFinds s x.a o (o.dst + BitVec.ofNat 64 o.done) .store pls → (∀ q ∈ pls, isFar q = false ∧ isMmio q = false) →
      let to_ := if o.loc then [readPlace (x.a / 8) pls] else pls
      let wrote (y : Nat) : Prop := ∃ t, exec i s = .next t ∧ CopyWent s t x.a x.b o ∧
        Stored s t to_ (o.dst + BitVec.ofNat 64 o.done) o.step y
      (o.kind = .zero → wrote 0) ∧
      (∀ id sd, o.kind = .copy → o.srcSp = true → o.by_ = .ctx id sd →
        (∀ k < o.step, (s.team id).spPoisoned (o.src.toNat + o.done + k) = false) →
        wrote (leNat ((List.range o.step).map (fun k => spGet (s.team id).sp ((s.team id).place (o.src.toNat + o.done + k)))))) ∧
      (∀ f : Nat → Nat, o.kind = .copy → o.srcSp = false → s.errs = [] →
        (∀ k < o.step, let va := o.src + BitVec.ofNat 64 (o.done + k)
          isFar (f k) = false ∧ isMmio (f k) = false ∧ s.poisoned (f k) = false ∧
          (if k = 0 ∨ va.toNat % 64 = 0 then ∃ l, EngineFinds s x.a o va .load l ∧ f k = readPlace (x.a / 8) l
            else f k = f (k - 1) + 1)) →
        wrote (leNat ((List.range o.step).map (fun k => s.byte (f k)))))) ∧
    (∀ o id sd, s.cur = .event x → i = .eCopyOperationEnd → CopyTurn s x.a x.b o → o.done = 0 →
      o.by_ = .ctx id sd → sd ≠ 0 →
      let ended (code : Nat) : Prop := ∃ t, exec i s = .next t ∧ SameBytes s t ∧ t.engine x.a = (s.engine x.a).eraseIdx x.b ∧
        t.ctx id = ((s.ctx id).put (BitVec.ofNat 6 sd) (BitVec.ofNat 64 (code * 2 ^ 56))).setTok sd false
      (o.badFlags = true ∨ (o.kind = .shape ∧ ¬ ShapeOk o.shape) → ended 5) ∧
      (o.badFlags = false → o.kind ≠ .shape → o.len = 0 → ended 0) ∧
      (o.badFlags = false → o.kind ≠ .shape → o.len ≠ 0 → o.overlap = true → ended 4)) ∧
    (∀ r id a, s.cur = .event x → i = .eFqrel → x.size = .aligned64 → s.records = [] →
      let n := x.val.toNat % 256
      let at_ := ((s.die x.a).fqbase.toNat / 2 ^ 15 % 2 ^ 27) * 2 ^ 15 + n * 128 + 0x18
      let v := leNat (s.bytes at_ 8)
      kvFind (s.die x.a).fq n = some r → r.kind = 2 → r.src = .agent id a → s.hasTeam id = true → s.readsBad at_ = false →
        (v = 0 → (s.team id).replay = [] → ∃ t l, exec i s = .next t ∧ SameBytes s t ∧ (t.team id).replay = l ∧ l.Nodup ∧
          (∀ b, b ∈ l ↔ ∃ k, ParkedOn s id b r.page r.pageSize k) ∧ (∀ b ∈ l, Unparked s t id b) ∧
          l.Pairwise (fun b d => ∀ k m, ParkedOn s id b r.page r.pageSize k → ParkedOn s id d r.page r.pageSize m → k ≤ m) ∧
          (Agent.gen ∉ l → t.ctx id = s.ctx id) ∧ ∀ g, Agent.grp g ∉ l → t.grp (id * 16 + g) = s.grp (id * 16 + g)) ∧
        (2 ≤ v → ∃ t, exec i s = .next t ∧ TeamGone t id ∧ SameBytes s t) ∧
        (v = 1 → (s.ctx id).wait = .parked → (s.ctx id).parkPi = false → onPage r.page r.pageSize (s.ctx id).parkVa = true →
          (∀ g < (s.team id).groups, (s.grp (id * 16 + g)).wait ≠ .parked) → ∃ u, SameBytes s u ∧
          u.ctx id = { s.ctx id with wait := .ready, pstat := (s.ctx id).pstat &&& 0xFFFFFFFE#32 } ∧
          exec i s = .next (u.raiseG id { code := 0xC, t3 := (s.ctx id).parkVa, t4 := (s.ctx id).parkCode } (s.ctx id).parkWord)) ∧
        (∀ g e, v = 1 → (s.ctx id).wait ≠ .parked → g < (s.team id).groups →
          (∀ j < (s.team id).groups, (s.grp (id * 16 + j)).wait = .parked ↔ j = g) →
          (s.grp (id * 16 + g)).heldWord = some e → (s.grp (id * 16 + g)).park.getLsbD 1 = false →
          onPage r.page r.pageSize (s.grp (id * 16 + g)).parkVa = true → ∃ u, SameBytes s u ∧
          u.grp (id * 16 + g) = { s.grp (id * 16 + g) with wait := .ready, park := 0 } ∧
          exec i s = .next (u.raiseC (id * 16 + g) { code := 0x10F, lanes := (s.grp (id * 16 + g)).parkLanes
                                                     t3 := (s.grp (id * 16 + g)).parkVa, t4 := (s.grp (id * 16 + g)).parkCode } e)))

/-! ## The machine -/

/-- R7, R50, R306: reset leaves no team, context, group, launch or gang, time is 0, and the registers of a core's and of a
Pewter's control block read the reset values that the spec gives them. Memory lists nothing and has its canonical form; that
memory reads zero then is the model's choice (assumption 1). -/
def Obligations.ResetLeavesTheGivenValues : Prop :=
  Memory.wf State.reset.mem = true ∧ (∀ a, State.reset.byte a = 0) ∧ State.reset.clk = 0 ∧ State.reset.released = false ∧
  State.reset.ctxs = [] ∧ State.reset.teams = [] ∧ State.reset.groups = [] ∧ State.reset.launches = [] ∧
  State.reset.gangs = [] ∧ State.reset.records = [] ∧
  (∀ c, State.reset.coreRead c 0x010 = 20 ∧ State.reset.coreRead c 0x018 = 200 ∧ State.reset.coreRead c 0x020 = 0x100 ∧
    State.reset.coreRead c 0x028 = 0 ∧ State.reset.coreRead c 0x030 = 0 ∧ State.reset.coreRead c 0x038 = 4 ∧
    State.reset.coreRead c 0x040 = 0 ∧ State.reset.coreRead c 0x048 = 0) ∧
  ∀ i, State.reset.pewterRead i 0x000 = 0 ∧ State.reset.pewterRead i 0x008 = 0 ∧ State.reset.pewterRead i 0x010 = 0 ∧
    State.reset.pewterRead i 0x018 = 0

/-- R207, R209: the memory keeps its canonical form, addresses strictly rising and no zero byte listed, in every step of every
agent. -/
def Obligations.EveryStepKeepsMemoryCanonical : Prop :=
  ∀ (s t : State), Memory.wf s.mem = true → step s = .next t → Memory.wf t.mem = true

/-- R22, R71: no step of any agent stops the machine: every word, packet and event that a turn meets has an effect, an
exception or a wait, in every state. -/
def Obligations.EveryStepAnswersANextState : Prop := ∀ s : State, ∃ t, step s = .next t

/-- R17, R22, R31, R54, R59, R70, R321: a turn runs the instruction of the word that stands at its place: a context's in the
four bytes at its pc, of the first context in the order of its core whose word issues; a group's at the head of its clause, of
the first group that goes on; a matrix unit's at the head of the chosen team's queue; a lane's head packet; an event. -/
def Obligations.StepRunsTheWordOfItsTurn : Prop :=
  ∀ s : State,
    (∀ id u v pls home pk b, let va := (s.ctx id).va
      let pl := readPlace (ctxDie id) pls
      Found s id va .fetch u pls home pk → u.hostWaits [pl] = false →
      (if id < 4096 then u.touch (id / 4) (s.team id).lid pl va else u).ctxRead id pl 4 pk = (v, some b) →
        s.fetchG id = (v, some (BitVec.ofNat 32 (leNat b)))) ∧
    (∀ t id w i, s.fetchG id = (t, some w) → decodeG w = some i →
      s.runG id = onNext (exec i { t with cur := .gen id w }) (State.afterG (s.ctx id) id)) ∧
    (∀ t id w, s.fetchG id = (t, some w) → decodeG w = none →
      s.runG id = onNext (exec (.eIllegalGWord w) { t with cur := .gen id w }) (State.afterG (s.ctx id) id)) ∧
    (∀ t id, s.fetchG id = (t, none) → s.runG id = .next (t.afterG (s.ctx id) id)) ∧
    (∀ gid slot e, let v := s.updGrp gid (fun g => g.applyGsetbs 64 s.clk)
      (v.grp gid).skip = false → (v.grp gid).turnEntry v.clk = some e → e.kind = .word →
      ((v.grp gid).clause.isSome = true ∨ e.isHeader = false) → (s.tryGroup gid slot).1 = v.runC gid slot e) ∧
    (∀ gid slot e i, decodeC e.word = some i → s.runC gid slot e =
      onNext (exec i { s with cur := .grp gid e slot }) (State.afterC (s.grp gid) gid slot i)) ∧
    ∀ (t : Turn) (r : List Turn), s.turns = t :: r → let u : State := { s with turns := r }
      (∀ c id l1 l2 v, t = .gen c → u.coreRuns c = true → (u.core c).genFree ≤ s.clk → u.genOrder c = l1 ++ id :: l2 →
        (∀ j ∈ l1, u.hasTeam j = false ∨ u.mayRun j = false) → u.hasTeam id = true → u.mayRun id = true →
        u.runG id = .next v → v.genWent id (u.ctx id).issues = true → step s = .next v) ∧
      (∀ c k gid w, t = .issue c k → k < 2 → let v := u.endFences c
        v.coreRuns c = true → v.ungatedNow c = true → (if k = 0 then (v.core c).slot0 else (v.core c).slot1) ≤ v.clk →
        leastBy v.issueKey (v.tryers c) = some gid → v.tryGroup gid k = (.next w, true) → step s = .next w) ∧
      (∀ id, t = .solo id → s.released = true → isSup id = true → (u.die (ctxDie id)).hole = false →
        u.mayRun id = true → step s = u.runG id) ∧
      (∀ gid slot c e, t = .body gid slot → (u.grp gid).clause = some c → c.words[c.pos]? = some e →
        u.hasTeam (groupTeam gid) = true → step s = u.runC gid slot e) ∧
      (∀ c tid e i, t = .matrix c → let v := u.applyDescs c
        v.coreRuns c = true → v.ungatedNow c = true → (v.core c).matJob = [] → v.mChoose c = some tid →
          (v.team tid).mLive.head? = some e → decodeM e.word = some i →
            step s = exec i { v.updCore c (fun k => { k with
              served := tid % 4, matSwitch := false, matWord := some e.word }) with cur := .mat tid e }) ∧
      (∀ c, t = .matrix c → let v := u.applyDescs c
        v.coreRuns c = true → v.ungatedNow c = true → (v.core c).matJob ≠ [] → step s = .next (v.matClock c)) ∧
      (∀ io l ls, t = .pewter io → s.released = true → io < 2 → (u.die (8 + io)).hole = false →
        (u.pewter io).mask = l :: ls → step s = u.runLane io l) ∧
      (∀ io l p rest i, (u.window io l) = (p, 0) :: rest → packetInstr p = some i →
        u.runLane io l = onNext (exec i { u.countPewter io 1 1 with cur := .lane io l (packetOf (u.window io l)) })
          (fun x => (x.updPewter io (fun q => { q with mask := natDel q.mask l })).stopWaiting io l)) ∧
      (∀ i x, t = .event i x → isEvent i = true → step s = exec i { s with turns := r, cur := .event x }) ∧
      (t = .tick → step s = .next u.tick)

/-- R54 to R63, R70, R324: the word of a well-formed instruction decodes to it by the decoder of its kind, with every field,
and a word that decodes is the word of the instruction, which is well-formed; a packet's doublewords give its fields and its
type back. -/
def Obligations.EncodingAndDecodingAgree : Prop :=
  (∀ (i : Instr) (w : W32), i.wf = true → encodeWord i = some w →
    decodeG w = some i ∨ decodeM w = some i ∨ decodeC w = some i) ∧
  (∀ (i : Instr) (w : W32), decodeG w = some i ∨ decodeM w = some i ∨ decodeC w = some i →
    i.wf = true ∧ encodeWord i = some w) ∧
  (∀ (i : Instr) (k : Packet) (h : W64) (b : List W64), encodePacket i k = some (h :: b) → packetOf h b = k ∧
    (decodePacket h = some i ↔ (i = .pSignalAdd → k.hdr.toNat % 8 = 1) ∧ (i = .pSignalWrite → k.hdr.toNat % 8 ≠ 1)))

/-- R54 to R63, R70, R71: words written out field by field from the spec's formats decode to the instructions they stand for,
and words that the spec reserves decode to none. -/
def Obligations.WordsOfTheSpecDecode : Prop :=
  (∀ x ∈ ([(0x00000000#32, some (.gAdd 0 0 0)), (0x00518701#32, some (.gSub 5 6 7)), (0x04108303#32, some (.gDiv 1 2 3)),
      (0x08417FFF#32, some (.gAddi 4 5 0x3FFF)), (0x18416021#32, some (.gShi 4 5 2 33)), (0x18414040#32, none),
      (0x28980001#32, some (.gLui 9 0x80001)), (0x30304204#32, some (.gCmp 3 1 2 4)), (0x30304206#32, none),
      (0x3691C009#32, some (.gCmpi 5 1 7 9)), (0x3D7FFFFF#32, some (.gBc 2 1 0x3FFFFF)),
      (0x42000000#32, some (.gBa 0x2000000)), (0x480FC000#32, some (.gBrr 63)),
      (0x4C825FFF#32, some (.gLd 8 9 1 3 0x3FF)), (0x4C826C00#32, none), (0x54826001#32, some (.gSt 8 9 2 0 1)),
      (0x5810839E#32, some (.gAmo 1 2 3 9 3 1)), (0x58108301#32, none), (0x5C000040#32, none),
      (0x5C310507#32, some (.gCopy 3 4 5)), (0x64FFFFFF#32, some (.gEmitl 3 1 15 0x1FFFF)),
      (0x6820C400#32, some (.gMdset 2 3 4)), (0x6DF14003#32, some (.gBarwait 31 5)),
      (0x70004204#32, some (.gTrap 1 2)), (0x70000006#32, some .gExit), (0x74108300#32, some (.gTlbi 1 2 3)),
      (0x78000004#32, some .gLgo), (0x7C000000#32, none), (0xFFFFFFFF#32, none)] : List (W32 × Option Instr)),
      decodeG x.1 = x.2) ∧
  (∀ x ∈ ([(0xF0240140#32, some (.cClauseHeader 0x024 0 1 4)), (0xF000C000#32, none), (0xF000F100#32, none),
      (0x00208184#32, some (.cFma 1 2 3 4)), (0x50208187#32, some (.cSelv 1 2 3 7)), (0x50208188#32, none),
      (0x80208181#32, some (.cFsub 1 2 3)), (0x80E08192#32, some (.cFcmpUn 7 2 3)), (0x81008192#32, none),
      (0x80000014#32, none), (0x90208197#32, some (.cIbfx 1 2 3)), (0xAFDFC186#32, some (.cShfl 126 127 3)),
      (0xB000C006#32, some (.cIf 3)), (0xB000000F#32, some .cNop), (0xB000000C#32, none),
      (0xC0614304#32, some (.cLd 3 0 5 6 1)), (0xC0614308#32, none), (0xC092434C#32, some (.cAmo 4 9 1 6 3)),
      (0xC0944340#32, none), (0xC0000070#32, none), (0xD040C201#32, some (.cLds64 2 3 4)), (0xD060C201#32, none),
      (0xE007C002#32, some (.cBararv 31)), (0xE0080002#32, none)] : List (W32 × Option Instr)),
      decodeC x.1 = x.2) ∧
  (∀ x ∈ ([(0x00000000#32, some .mMnop), (0x088083FE#32, some (.mMma 1 0 1 127 1 1 0)),
      (0x40000C01#32, some (.mMbatch 3 1)), (0x1A800000#32, some (.mMzero 5)), (0x48000000#32, none),
      (0x00000001#32, none)] : List (W32 × Option Instr)),
      decodeM x.1 = x.2)
end

