-- ==== Sys2Proof/Laws/Bits.lean ====
section
/-! SUPPORT. Laws/Bits.lean: the bit-field, counting and dividing helpers of the generator's arithmetic, in the terms of
Safety.lean, and the count of core clocks that issue gating leaves open. -/

namespace Sys2Proof.Machine

theorem zext64_eq (a : W64) (n : Nat) (h : n ≤ 64) : zext64 a n = zeroLow a n := by
  apply BitVec.eq_of_getLsbD_eq
  intro i hi
  by_cases hn : i < n
  · simp [zext64, zeroLow, hi, hn]; intro _; omega
  · simp [zext64, zeroLow, hi, hn]; intro _; omega

theorem sext64_eq (a : W64) (n : Nat) (h : n ≤ 64) (p : 0 < n) : sext64 a n = signLow a n := by
  apply BitVec.eq_of_getLsbD_eq
  intro i hi
  rw [sext64, signLow, BitVec.getLsbD_sshiftRight, BitVec.getLsbD_signExtend]
  by_cases hn : i < n
  · have e1 : 64 - n + i < 64 := by omega
    have e2 : ¬ 64 - n + i < 64 - n := by omega
    have e3 : ¬ 64 ≤ i := by omega
    simp [hi, hn, e1, e2, e3]
  · have e1 : ¬ 64 - n + i < 64 := by omega
    have e3 : 63 - (64 - n) = n - 1 := by omega
    have e4 : ¬ 63 < 64 - n := by omega
    have e5 : i < 64 ↔ True := by simp [hi]
    simp only [hi, hn, e1, BitVec.msb_eq_getLsbD_last, BitVec.getLsbD_shiftLeft, BitVec.getLsbD_extractLsb']
    have e6 : n - 1 < n := by omega
    have e7 : 64 - 1 - (64 - n) = n - 1 := by omega
    simp only [if_false, e6, e7]
    simp [e4, hi]

theorem pcOk_iff (t : W64) : pcOk t = true ↔ targetOk t := by
  have h1 : (t.extractLsb' 0 2 == 0) = decide (t.toNat % 4 = 0) := by
    rw [Bool.eq_iff_iff]; simp [BitVec.toNat_eq]
  have h2 : ((t.extractLsb' 0 48).signExtend 64 == t) = decide (t.toNat < 2 ^ 47 ∨ 2 ^ 64 - 2 ^ 47 ≤ t.toNat) := by
    rw [Bool.eq_iff_iff]
    simp only [beq_iff_eq, decide_eq_true_eq, BitVec.toNat_eq, BitVec.toNat_signExtend, BitVec.extractLsb'_toNat,
      BitVec.msb_eq_decide, BitVec.toNat_setWidth]
    have := t.isLt
    split <;> simp at * <;> omega
  rw [pcOk, h1, h2]; simp [targetOk]

theorem slt_eq (a b : W64) : (a.slt b) = decide (a.toInt < b.toInt) := rfl
theorem ult_eq (a b : W64) : (a.ult b) = decide (a.toNat < b.toNat) := rfl

theorem divS_eq (a b : W64) : divS a b = if b = 0 then BitVec.allOnes 64 else a.sdiv b := by
  unfold divS
  split
  · rfl
  · apply BitVec.eq_of_toInt_eq
    rw [BitVec.toInt_sdiv, BitVec.toInt_ofInt]

theorem remS_eq (a b : W64) : remS a b = if b = 0 then a else a.srem b := by
  unfold remS
  split
  · rfl
  · apply BitVec.eq_of_toInt_eq
    rw [← BitVec.toInt_srem, BitVec.ofInt_toInt]

theorem shAmt_eq (b : W64) : shAmt b = b.toNat % 64 := by
  simp [shAmt, fieldOf]

/-- The number of zero bits below the lowest one bit. -/
theorem ctzN_of (n x k : Nat) (hk : k ≤ n) (lo : ∀ i, i < k → x.testBit i = false) (hi : k < n → x.testBit k = true) :
    ctzN n x = k := by
  induction n generalizing x k with
  | zero => simp [ctzN]; omega
  | succ n ih =>
    unfold ctzN
    cases k with
    | zero =>
      have := hi (by omega)
      rw [Nat.testBit_zero] at this
      simp_all
    | succ k =>
      have h0 := lo 0 (by omega)
      rw [Nat.testBit_zero] at h0
      have h1 : x % 2 ≠ 1 := by simpa using h0
      rw [if_neg h1, ih (x / 2) k (by omega) (fun i h => ?_) (fun h => ?_)]
      · omega
      · have := lo (i + 1) (by omega); rwa [Nat.testBit_succ] at this
      · have := hi (by omega); rwa [Nat.testBit_succ] at this

theorem ctzN_eq (a : W64) : BitVec.ofNat 64 (ctzN 64 a.toNat) = a.ctz := by
  have h : ctzN 64 a.toNat = a.ctz.toNat := by
    refine ctzN_of _ _ _ ?_ (fun i h => ?_) (fun h => ?_)
    · have : a.ctz ≤ 64#64 := by rw [BitVec.ctz]; exact BitVec.clz_le
      simpa [BitVec.le_def] using this
    · rw [BitVec.testBit_toNat]; exact BitVec.getLsbD_false_of_lt_ctz h
    · rw [BitVec.testBit_toNat]
      refine BitVec.getLsbD_true_ctz_of_ne_zero (BitVec.ctz_lt_iff_ne_zero.mp ?_)
      simpa [BitVec.lt_def] using h
  rw [h]; simp

theorem popN_succ (n x : Nat) : popN (n + 1) x = popN n x + (x.testBit n).toNat := by
  induction n generalizing x with
  | zero => simp [popN, Nat.testBit_zero]; rcases Nat.mod_two_eq_zero_or_one x with h | h <;> simp [h]
  | succ n ih =>
    rw [popN, ih, Nat.testBit_succ]
    conv => rhs; rw [popN]
    omega

theorem popN_rec (a : W64) (n acc : Nat) : a.cpopNatRec n acc = acc + popN n a.toNat := by
  induction n generalizing acc with
  | zero => simp [popN]
  | succ n ih => rw [BitVec.cpopNatRec_succ, ih, popN_succ, BitVec.testBit_toNat]; omega

theorem popN_eq (a : W64) : BitVec.ofNat 64 (popN 64 a.toNat) = a.cpop := by
  rw [BitVec.cpop, popN_rec]; simp

theorem revN_lt (n x : Nat) : revN n x < 2 ^ n := by
  induction n generalizing x with
  | zero => simp [revN]
  | succ n ih =>
    have := ih (x / 2)
    have h2 : x % 2 < 2 := Nat.mod_lt _ (by omega)
    rw [revN, Nat.pow_succ]
    rcases Nat.mod_two_eq_zero_or_one x with h | h <;> rw [h] <;> omega

theorem revN_bit (n x i : Nat) : (revN n x).testBit i = (decide (i < n) && x.testBit (n - 1 - i)) := by
  induction n generalizing x i with
  | zero => simp [revN]
  | succ n ih =>
    have e : revN (n + 1) x = 2 ^ n * (x % 2) + revN n (x / 2) := by rw [revN, Nat.mul_comm]
    rw [e, Nat.testBit_two_pow_mul_add _ (revN_lt n _)]
    by_cases h : i < n
    · have h1 : i < n + 1 := by omega
      have h2 : n + 1 - 1 - i = n - 1 - i + 1 := by omega
      rw [if_pos h, ih, h2, Nat.testBit_succ]; simp [h, h1]
    · rw [if_neg h]
      by_cases h1 : i = n
      · subst h1; simp [Nat.testBit_zero]
      · have h3 : ¬ i < n + 1 := by omega
        have h4 : i - n = i - n - 1 + 1 := by omega
        rw [h4, Nat.testBit_succ]
        have : x % 2 / 2 = 0 := by omega
        simp [h3, this]

theorem revN_eq (a : W64) : BitVec.ofNat 64 (revN 64 a.toNat) = a.reverse := by
  apply BitVec.eq_of_getLsbD_eq
  intro i hi
  rw [BitVec.getLsbD_ofNat, revN_bit, BitVec.getLsbD_reverse, BitVec.getMsbD, BitVec.testBit_toNat]
  simp [hi]

theorem clzN_eq (a : W64) : BitVec.ofNat 64 (clzN 64 a.toNat) = a.clz := by
  have h : clzN 64 a.toNat = a.clz.toNat := by
    by_cases z : a = 0
    · subst z; decide
    · have lo := BitVec.two_pow_sub_clz_le_toNat_of_ne_zero (by omega) z
      have hi := @BitVec.toNat_lt_two_pow_sub_clz 64 a
      have lt : a.clz.toNat < 64 := by
        have := BitVec.clz_lt_iff_ne_zero.mpr z
        simpa [BitVec.lt_def] using this
      have nz : a.toNat ≠ 0 := fun h => z (BitVec.eq_of_toNat_eq h)
      have l1 : 64 - 1 - a.clz.toNat ≤ a.toNat.log2 := (Nat.le_log2 nz).mpr (by simpa using lo)
      have l2 : a.toNat.log2 < 64 - a.clz.toNat := (Nat.log2_lt nz).mpr hi
      rw [clzN, if_neg nz]; omega
  rw [h]; simp

end Sys2Proof.Machine
end

