-- ==== Sys2Proof/Laws/Exec.lean ====
section
/-! SUPPORT. Laws/Exec.lean: exec of each instruction is its meaning, one lemma per constructor, so that no proof unfolds
the match over all of them. -/

namespace Sys2Proof.Machine

@[simp] theorem exec_gAdd (d) (a) (b) (s : State) : exec (.gAdd d a b) s = execGAdd d a b s := rfl
@[simp] theorem exec_gSub (d) (a) (b) (s : State) : exec (.gSub d a b) s = execGSub d a b s := rfl
@[simp] theorem exec_gAnd (d) (a) (b) (s : State) : exec (.gAnd d a b) s = execGAnd d a b s := rfl
@[simp] theorem exec_gOr (d) (a) (b) (s : State) : exec (.gOr d a b) s = execGOr d a b s := rfl
@[simp] theorem exec_gXor (d) (a) (b) (s : State) : exec (.gXor d a b) s = execGXor d a b s := rfl
@[simp] theorem exec_gAndn (d) (a) (b) (s : State) : exec (.gAndn d a b) s = execGAndn d a b s := rfl
@[simp] theorem exec_gSll (d) (a) (b) (s : State) : exec (.gSll d a b) s = execGSll d a b s := rfl
@[simp] theorem exec_gSrl (d) (a) (b) (s : State) : exec (.gSrl d a b) s = execGSrl d a b s := rfl
@[simp] theorem exec_gSra (d) (a) (b) (s : State) : exec (.gSra d a b) s = execGSra d a b s := rfl
@[simp] theorem exec_gRol (d) (a) (b) (s : State) : exec (.gRol d a b) s = execGRol d a b s := rfl
@[simp] theorem exec_gSlt (d) (a) (b) (s : State) : exec (.gSlt d a b) s = execGSlt d a b s := rfl
@[simp] theorem exec_gSltu (d) (a) (b) (s : State) : exec (.gSltu d a b) s = execGSltu d a b s := rfl
@[simp] theorem exec_gMin (d) (a) (b) (s : State) : exec (.gMin d a b) s = execGMin d a b s := rfl
@[simp] theorem exec_gMax (d) (a) (b) (s : State) : exec (.gMax d a b) s = execGMax d a b s := rfl
@[simp] theorem exec_gMinu (d) (a) (b) (s : State) : exec (.gMinu d a b) s = execGMinu d a b s := rfl
@[simp] theorem exec_gMaxu (d) (a) (b) (s : State) : exec (.gMaxu d a b) s = execGMaxu d a b s := rfl
@[simp] theorem exec_gSext (d) (a) (w) (s : State) : exec (.gSext d a w) s = execGSext d a w s := rfl
@[simp] theorem exec_gZext (d) (a) (w) (s : State) : exec (.gZext d a w) s = execGZext d a w s := rfl
@[simp] theorem exec_gMovc (d) (a) (n) (s : State) : exec (.gMovc d a n) s = execGMovc d a n s := rfl
@[simp] theorem exec_gMul (d) (a) (b) (s : State) : exec (.gMul d a b) s = execGMul d a b s := rfl
@[simp] theorem exec_gMulh (d) (a) (b) (s : State) : exec (.gMulh d a b) s = execGMulh d a b s := rfl
@[simp] theorem exec_gMulhu (d) (a) (b) (s : State) : exec (.gMulhu d a b) s = execGMulhu d a b s := rfl
@[simp] theorem exec_gDiv (d) (a) (b) (s : State) : exec (.gDiv d a b) s = execGDiv d a b s := rfl
@[simp] theorem exec_gDivu (d) (a) (b) (s : State) : exec (.gDivu d a b) s = execGDivu d a b s := rfl
@[simp] theorem exec_gRem (d) (a) (b) (s : State) : exec (.gRem d a b) s = execGRem d a b s := rfl
@[simp] theorem exec_gRemu (d) (a) (b) (s : State) : exec (.gRemu d a b) s = execGRemu d a b s := rfl
@[simp] theorem exec_gClz (d) (a) (s : State) : exec (.gClz d a) s = execGClz d a s := rfl
@[simp] theorem exec_gCtz (d) (a) (s : State) : exec (.gCtz d a) s = execGCtz d a s := rfl
@[simp] theorem exec_gPopc (d) (a) (s : State) : exec (.gPopc d a) s = execGPopc d a s := rfl
@[simp] theorem exec_gBrev (d) (a) (s : State) : exec (.gBrev d a) s = execGBrev d a s := rfl
@[simp] theorem exec_gBfx (d) (a) (b) (s : State) : exec (.gBfx d a b) s = execGBfx d a b s := rfl
@[simp] theorem exec_gBfi (d) (a) (b) (s : State) : exec (.gBfi d a b) s = execGBfi d a b s := rfl
@[simp] theorem exec_gCwset (d) (a) (k) (s : State) : exec (.gCwset d a k) s = execGCwset d a k s := rfl
@[simp] theorem exec_gAddi (d) (a) (n) (s : State) : exec (.gAddi d a n) s = execGAddi d a n s := rfl
@[simp] theorem exec_gAndi (d) (a) (n) (s : State) : exec (.gAndi d a n) s = execGAndi d a n s := rfl
@[simp] theorem exec_gOri (d) (a) (n) (s : State) : exec (.gOri d a n) s = execGOri d a n s := rfl
@[simp] theorem exec_gXori (d) (a) (n) (s : State) : exec (.gXori d a n) s = execGXori d a n s := rfl
@[simp] theorem exec_gShi (d) (a) (o) (k) (s : State) : exec (.gShi d a o k) s = execGShi d a o k s := rfl
@[simp] theorem exec_gSlti (d) (a) (n) (s : State) : exec (.gSlti d a n) s = execGSlti d a n s := rfl
@[simp] theorem exec_gSltiu (d) (a) (n) (s : State) : exec (.gSltiu d a n) s = execGSltiu d a n s := rfl
@[simp] theorem exec_gMuli (d) (a) (n) (s : State) : exec (.gMuli d a n) s = execGMuli d a n s := rfl
@[simp] theorem exec_gLui (d) (n) (s : State) : exec (.gLui d n) s = execGLui d n s := rfl
@[simp] theorem exec_gAuipc (d) (n) (s : State) : exec (.gAuipc d n) s = execGAuipc d n s := rfl
@[simp] theorem exec_gCmp (n) (a) (b) (c) (s : State) : exec (.gCmp n a b c) s = execGCmp n a b c s := rfl
@[simp] theorem exec_gCmpi (c) (n) (a) (j) (s : State) : exec (.gCmpi c n a j) s = execGCmpi c n a j s := rfl
@[simp] theorem exec_gCbop (d) (a) (b) (o) (s : State) : exec (.gCbop d a b o) s = execGCbop d a b o s := rfl
@[simp] theorem exec_gBc (c) (k) (o) (s : State) : exec (.gBc c k o) s = execGBc c k o s := rfl
@[simp] theorem exec_gBa (o) (s : State) : exec (.gBa o) s = execGBa o s := rfl
@[simp] theorem exec_gBl (o) (s : State) : exec (.gBl o) s = execGBl o s := rfl
@[simp] theorem exec_gBrr (a) (s : State) : exec (.gBrr a) s = execGBrr a s := rfl
@[simp] theorem exec_gBrlr (a) (s : State) : exec (.gBrlr a) s = execGBrlr a s := rfl
@[simp] theorem exec_gLd (d) (a) (r) (z) (o) (s : State) : exec (.gLd d a r z o) s = execGLd d a r z o s := rfl
@[simp] theorem exec_gLds (d) (a) (r) (z) (o) (s : State) : exec (.gLds d a r z o) s = execGLds d a r z o s := rfl
@[simp] theorem exec_gSt (d) (a) (r) (z) (o) (s : State) : exec (.gSt d a r z o) s = execGSt d a r z o s := rfl
@[simp] theorem exec_gAmo (d) (a) (b) (p) (o) (k) (s : State) :
    exec (.gAmo d a b p o k) s = execGAmo d a b p o k s := rfl
@[simp] theorem exec_gLdp (d) (a) (n) (r) (s : State) : exec (.gLdp d a n r) s = execGLdp d a n r s := rfl
@[simp] theorem exec_gLdsum (d) (a) (t) (r) (s : State) : exec (.gLdsum d a t r) s = execGLdsum d a t r s := rfl
@[simp] theorem exec_gLdf (d) (a) (m) (s : State) : exec (.gLdf d a m) s = execGLdf d a m s := rfl
@[simp] theorem exec_gSte (d) (a) (m) (s : State) : exec (.gSte d a m) s = execGSte d a m s := rfl
@[simp] theorem exec_gFence (e) (a) (r) (s : State) : exec (.gFence e a r) s = execGFence e a r s := rfl
@[simp] theorem exec_gMonitor (a) (s : State) : exec (.gMonitor a) s = execGMonitor a s := rfl
@[simp] theorem exec_gMwaita (d) (a) (s : State) : exec (.gMwaita d a) s = execGMwaita d a s := rfl
@[simp] theorem exec_gCopy (d) (a) (b) (s : State) : exec (.gCopy d a b) s = execGCopy d a b s := rfl
@[simp] theorem exec_gCopys (d) (a) (b) (s : State) : exec (.gCopys d a b) s = execGCopys d a b s := rfl
@[simp] theorem exec_gCopyz (d) (a) (b) (s : State) : exec (.gCopyz d a b) s = execGCopyz d a b s := rfl
@[simp] theorem exec_gEmit (g) (a) (n) (z) (r) (s : State) : exec (.gEmit g a n z r) s = execGEmit g a n z r s := rfl
@[simp] theorem exec_gEmitk (g) (a) (k) (n) (z) (r) (s : State) :
    exec (.gEmitk g a k n z r) s = execGEmitk g a k n z r s := rfl
@[simp] theorem exec_gEmitm (a) (n) (z) (r) (s : State) : exec (.gEmitm a n z r) s = execGEmitm a n z r s := rfl
@[simp] theorem exec_gEmitb (n) (a) (b) (z) (r) (s : State) :
    exec (.gEmitb n a b z r) s = execGEmitb n a b z r s := rfl
@[simp] theorem exec_gPop (d) (g) (n) (z) (s : State) : exec (.gPop d g n z) s = execGPop d g n z s := rfl
@[simp] theorem exec_gQstat (d) (g) (s : State) : exec (.gQstat d g) s = execGQstat d g s := rfl
@[simp] theorem exec_gGarm (g) (s : State) : exec (.gGarm g) s = execGGarm g s := rfl
@[simp] theorem exec_gYield (s : State) : exec .gYield s = execGYield s := rfl
@[simp] theorem exec_gRegion (s : State) : exec .gRegion s = execGRegion s := rfl
@[simp] theorem exec_gEmitl (g) (n) (c) (o) (s : State) : exec (.gEmitl g n c o) s = execGEmitl g n c o s := rfl
@[simp] theorem exec_gMdset (n) (a) (b) (s : State) : exec (.gMdset n a b) s = execGMdset n a b s := rfl
@[simp] theorem exec_gMwait (d) (a) (s : State) : exec (.gMwait d a) s = execGMwait d a s := rfl
@[simp] theorem exec_gGsetb (g) (a) (n) (s : State) : exec (.gGsetb g a n) s = execGGsetb g a n s := rfl
@[simp] theorem exec_gBarinit (b) (a) (s : State) : exec (.gBarinit b a) s = execGBarinit b a s := rfl
@[simp] theorem exec_gBararv (b) (s : State) : exec (.gBararv b) s = execGBararv b s := rfl
@[simp] theorem exec_gBardrop (b) (s : State) : exec (.gBardrop b) s = execGBardrop b s := rfl
@[simp] theorem exec_gBarwait (b) (a) (s : State) : exec (.gBarwait b a) s = execGBarwait b a s := rfl
@[simp] theorem exec_gBaraw (b) (s : State) : exec (.gBaraw b) s = execGBaraw b s := rfl
@[simp] theorem exec_gGbarinit (g) (s : State) : exec (.gGbarinit g) s = execGGbarinit g s := rfl
@[simp] theorem exec_gGbararv (g) (s : State) : exec (.gGbararv g) s = execGGbararv g s := rfl
@[simp] theorem exec_gGbardrop (g) (s : State) : exec (.gGbardrop g) s = execGGbardrop g s := rfl
@[simp] theorem exec_gGbarwait (g) (a) (s : State) : exec (.gGbarwait g a) s = execGGbarwait g a s := rfl
@[simp] theorem exec_gCsrr (d) (n) (s : State) : exec (.gCsrr d n) s = execGCsrr d n s := rfl
@[simp] theorem exec_gCsrw (d) (n) (s : State) : exec (.gCsrw d n) s = execGCsrw d n s := rfl
@[simp] theorem exec_gCsrs (d) (n) (s : State) : exec (.gCsrs d n) s = execGCsrs d n s := rfl
@[simp] theorem exec_gCsrc (d) (n) (s : State) : exec (.gCsrc d n) s = execGCsrc d n s := rfl
@[simp] theorem exec_gTrap (a) (b) (s : State) : exec (.gTrap a b) s = execGTrap a b s := rfl
@[simp] theorem exec_gRte (s : State) : exec .gRte s = execGRte s := rfl
@[simp] theorem exec_gExit (s : State) : exec .gExit s = execGExit s := rfl
@[simp] theorem exec_gEcall (d) (a) (b) (s : State) : exec (.gEcall d a b) s = execGEcall d a b s := rfl
@[simp] theorem exec_gGtime (d) (s : State) : exec (.gGtime d) s = execGGtime d s := rfl
@[simp] theorem exec_gTlbi (d) (a) (b) (s : State) : exec (.gTlbi d a b) s = execGTlbi d a b s := rfl
@[simp] theorem exec_gSendm (a) (z) (n) (s : State) : exec (.gSendm a z n) s = execGSendm a z n s := rfl
@[simp] theorem exec_gRecvm (d) (a) (z) (n) (s : State) : exec (.gRecvm d a z n) s = execGRecvm d a z n s := rfl
@[simp] theorem exec_gWfi (d) (a) (s : State) : exec (.gWfi d a) s = execGWfi d a s := rfl
@[simp] theorem exec_gSwapt (d) (a) (s : State) : exec (.gSwapt d a) s = execGSwapt d a s := rfl
@[simp] theorem exec_gLset (a) (f) (s : State) : exec (.gLset a f) s = execGLset a f s := rfl
@[simp] theorem exec_gLget (d) (f) (s : State) : exec (.gLget d f) s = execGLget d f s := rfl
@[simp] theorem exec_gLcancel (s : State) : exec .gLcancel s = execGLcancel s := rfl
@[simp] theorem exec_gLrepeat (a) (s : State) : exec (.gLrepeat a) s = execGLrepeat a s := rfl
@[simp] theorem exec_gLgo (s : State) : exec .gLgo s = execGLgo s := rfl
@[simp] theorem exec_cClauseHeader (w) (a) (b) (l) (s : State) :
    exec (.cClauseHeader w a b l) s = execCClauseHeader w a b l s := rfl
@[simp] theorem exec_cFma (d) (a) (b) (c) (s : State) : exec (.cFma d a b c) s = execCFma d a b c s := rfl
@[simp] theorem exec_cFms (d) (a) (b) (c) (s : State) : exec (.cFms d a b c) s = execCFms d a b c s := rfl
@[simp] theorem exec_cFnma (d) (a) (b) (c) (s : State) : exec (.cFnma d a b c) s = execCFnma d a b c s := rfl
@[simp] theorem exec_cImad (d) (a) (b) (c) (s : State) : exec (.cImad d a b c) s = execCImad d a b c s := rfl
@[simp] theorem exec_cImadh (d) (a) (b) (c) (s : State) : exec (.cImadh d a b c) s = execCImadh d a b c s := rfl
@[simp] theorem exec_cSelv (d) (a) (b) (p) (s : State) : exec (.cSelv d a b p) s = execCSelv d a b p s := rfl
@[simp] theorem exec_cDp4a (d) (a) (b) (c) (s : State) : exec (.cDp4a d a b c) s = execCDp4a d a b c s := rfl
@[simp] theorem exec_cShf (d) (a) (b) (c) (s : State) : exec (.cShf d a b c) s = execCShf d a b c s := rfl
@[simp] theorem exec_cFadd (d) (a) (b) (s : State) : exec (.cFadd d a b) s = execCFadd d a b s := rfl
@[simp] theorem exec_cFsub (d) (a) (b) (s : State) : exec (.cFsub d a b) s = execCFsub d a b s := rfl
@[simp] theorem exec_cFmul (d) (a) (b) (s : State) : exec (.cFmul d a b) s = execCFmul d a b s := rfl
@[simp] theorem exec_cFmin (d) (a) (b) (s : State) : exec (.cFmin d a b) s = execCFmin d a b s := rfl
@[simp] theorem exec_cFmax (d) (a) (b) (s : State) : exec (.cFmax d a b) s = execCFmax d a b s := rfl
@[simp] theorem exec_cFabs (d) (a) (s : State) : exec (.cFabs d a) s = execCFabs d a s := rfl
@[simp] theorem exec_cFneg (d) (a) (s : State) : exec (.cFneg d a) s = execCFneg d a s := rfl
@[simp] theorem exec_cFrcp (d) (a) (s : State) : exec (.cFrcp d a) s = execCFrcp d a s := rfl
@[simp] theorem exec_cFrsq (d) (a) (s : State) : exec (.cFrsq d a) s = execCFrsq d a s := rfl
@[simp] theorem exec_cFsqrt (d) (a) (s : State) : exec (.cFsqrt d a) s = execCFsqrt d a s := rfl
@[simp] theorem exec_cFex2 (d) (a) (s : State) : exec (.cFex2 d a) s = execCFex2 d a s := rfl
@[simp] theorem exec_cFlg2 (d) (a) (s : State) : exec (.cFlg2 d a) s = execCFlg2 d a s := rfl
@[simp] theorem exec_cFcmpEq (p) (a) (b) (s : State) : exec (.cFcmpEq p a b) s = execCFcmpEq p a b s := rfl
@[simp] theorem exec_cFcmpNe (p) (a) (b) (s : State) : exec (.cFcmpNe p a b) s = execCFcmpNe p a b s := rfl
@[simp] theorem exec_cFcmpLt (p) (a) (b) (s : State) : exec (.cFcmpLt p a b) s = execCFcmpLt p a b s := rfl
@[simp] theorem exec_cFcmpLe (p) (a) (b) (s : State) : exec (.cFcmpLe p a b) s = execCFcmpLe p a b s := rfl
@[simp] theorem exec_cFcmpGt (p) (a) (b) (s : State) : exec (.cFcmpGt p a b) s = execCFcmpGt p a b s := rfl
@[simp] theorem exec_cFcmpGe (p) (a) (b) (s : State) : exec (.cFcmpGe p a b) s = execCFcmpGe p a b s := rfl
@[simp] theorem exec_cFcmpUn (p) (a) (b) (s : State) : exec (.cFcmpUn p a b) s = execCFcmpUn p a b s := rfl
@[simp] theorem exec_cFclass (d) (a) (s : State) : exec (.cFclass d a) s = execCFclass d a s := rfl
@[simp] theorem exec_cIadd (d) (a) (b) (s : State) : exec (.cIadd d a b) s = execCIadd d a b s := rfl
@[simp] theorem exec_cIsub (d) (a) (b) (s : State) : exec (.cIsub d a b) s = execCIsub d a b s := rfl
@[simp] theorem exec_cImul (d) (a) (b) (s : State) : exec (.cImul d a b) s = execCImul d a b s := rfl
@[simp] theorem exec_cImin (d) (a) (b) (s : State) : exec (.cImin d a b) s = execCImin d a b s := rfl
@[simp] theorem exec_cImax (d) (a) (b) (s : State) : exec (.cImax d a b) s = execCImax d a b s := rfl
@[simp] theorem exec_cIand (d) (a) (b) (s : State) : exec (.cIand d a b) s = execCIand d a b s := rfl
@[simp] theorem exec_cIor (d) (a) (b) (s : State) : exec (.cIor d a b) s = execCIor d a b s := rfl
@[simp] theorem exec_cIxor (d) (a) (b) (s : State) : exec (.cIxor d a b) s = execCIxor d a b s := rfl
@[simp] theorem exec_cIandn (d) (a) (b) (s : State) : exec (.cIandn d a b) s = execCIandn d a b s := rfl
@[simp] theorem exec_cIshl (d) (a) (b) (s : State) : exec (.cIshl d a b) s = execCIshl d a b s := rfl
@[simp] theorem exec_cIshr (d) (a) (b) (s : State) : exec (.cIshr d a b) s = execCIshr d a b s := rfl
@[simp] theorem exec_cIsra (d) (a) (b) (s : State) : exec (.cIsra d a b) s = execCIsra d a b s := rfl
@[simp] theorem exec_cIabs (d) (a) (s : State) : exec (.cIabs d a) s = execCIabs d a s := rfl
@[simp] theorem exec_cIneg (d) (a) (s : State) : exec (.cIneg d a) s = execCIneg d a s := rfl
@[simp] theorem exec_cIpopc (d) (a) (s : State) : exec (.cIpopc d a) s = execCIpopc d a s := rfl
@[simp] theorem exec_cIclz (d) (a) (s : State) : exec (.cIclz d a) s = execCIclz d a s := rfl
@[simp] theorem exec_cIbrev (d) (a) (s : State) : exec (.cIbrev d a) s = execCIbrev d a s := rfl
@[simp] theorem exec_cIcmpEq (p) (a) (b) (s : State) : exec (.cIcmpEq p a b) s = execCIcmpEq p a b s := rfl
@[simp] theorem exec_cIcmpNe (p) (a) (b) (s : State) : exec (.cIcmpNe p a b) s = execCIcmpNe p a b s := rfl
@[simp] theorem exec_cIcmpLt (p) (a) (b) (s : State) : exec (.cIcmpLt p a b) s = execCIcmpLt p a b s := rfl
@[simp] theorem exec_cIcmpLe (p) (a) (b) (s : State) : exec (.cIcmpLe p a b) s = execCIcmpLe p a b s := rfl
@[simp] theorem exec_cIcmpGt (p) (a) (b) (s : State) : exec (.cIcmpGt p a b) s = execCIcmpGt p a b s := rfl
@[simp] theorem exec_cIcmpGe (p) (a) (b) (s : State) : exec (.cIcmpGe p a b) s = execCIcmpGe p a b s := rfl
@[simp] theorem exec_cIbfx (d) (a) (b) (s : State) : exec (.cIbfx d a b) s = execCIbfx d a b s := rfl
@[simp] theorem exec_cMov (d) (a) (s : State) : exec (.cMov d a) s = execCMov d a s := rfl
@[simp] theorem exec_cCvt (d) (a) (t) (s : State) : exec (.cCvt d a t) s = execCCvt d a t s := rfl
@[simp] theorem exec_cPack (d) (a) (b) (s : State) : exec (.cPack d a b) s = execCPack d a b s := rfl
@[simp] theorem exec_cUnpkl (d) (a) (s : State) : exec (.cUnpkl d a) s = execCUnpkl d a s := rfl
@[simp] theorem exec_cUnpkh (d) (a) (s : State) : exec (.cUnpkh d a) s = execCUnpkh d a s := rfl
@[simp] theorem exec_cLaneid (d) (s : State) : exec (.cLaneid d) s = execCLaneid d s := rfl
@[simp] theorem exec_cShfl (d) (a) (b) (s : State) : exec (.cShfl d a b) s = execCShfl d a b s := rfl
@[simp] theorem exec_cShflup (d) (a) (b) (s : State) : exec (.cShflup d a b) s = execCShflup d a b s := rfl
@[simp] theorem exec_cShfldn (d) (a) (b) (s : State) : exec (.cShfldn d a b) s = execCShfldn d a b s := rfl
@[simp] theorem exec_cShflx (d) (a) (b) (s : State) : exec (.cShflx d a b) s = execCShflx d a b s := rfl
@[simp] theorem exec_cBcast (d) (a) (s : State) : exec (.cBcast d a) s = execCBcast d a s := rfl
@[simp] theorem exec_cBallot (p) (a) (s : State) : exec (.cBallot p a) s = execCBallot p a s := rfl
@[simp] theorem exec_cRedadd (d) (a) (s : State) : exec (.cRedadd d a) s = execCRedadd d a s := rfl
@[simp] theorem exec_cRedmax (d) (a) (s : State) : exec (.cRedmax d a) s = execCRedmax d a s := rfl
@[simp] theorem exec_cRedmin (d) (a) (s : State) : exec (.cRedmin d a) s = execCRedmin d a s := rfl
@[simp] theorem exec_cPand (d) (a) (b) (s : State) : exec (.cPand d a b) s = execCPand d a b s := rfl
@[simp] theorem exec_cPor (d) (a) (b) (s : State) : exec (.cPor d a b) s = execCPor d a b s := rfl
@[simp] theorem exec_cPxor (d) (a) (b) (s : State) : exec (.cPxor d a b) s = execCPxor d a b s := rfl
@[simp] theorem exec_cPnot (d) (a) (s : State) : exec (.cPnot d a) s = execCPnot d a s := rfl
@[simp] theorem exec_cPset (d) (a) (s : State) : exec (.cPset d a) s = execCPset d a s := rfl
@[simp] theorem exec_cPget (d) (p) (s : State) : exec (.cPget d p) s = execCPget d p s := rfl
@[simp] theorem exec_cIf (p) (s : State) : exec (.cIf p) s = execCIf p s := rfl
@[simp] theorem exec_cElse (s : State) : exec .cElse s = execCElse s := rfl
@[simp] theorem exec_cEndif (s : State) : exec .cEndif s = execCEndif s := rfl
@[simp] theorem exec_cRepeat (a) (s : State) : exec (.cRepeat a) s = execCRepeat a s := rfl
@[simp] theorem exec_cBrkif (p) (s : State) : exec (.cBrkif p) s = execCBrkif p s := rfl
@[simp] theorem exec_cSetmode (a) (s : State) : exec (.cSetmode a) s = execCSetmode a s := rfl
@[simp] theorem exec_cSigchk (s : State) : exec .cSigchk s = execCSigchk s := rfl
@[simp] theorem exec_cExitg (s : State) : exec .cExitg s = execCExitg s := rfl
@[simp] theorem exec_cNop (s : State) : exec .cNop s = execCNop s := rfl
@[simp] theorem exec_cTrapg (a) (s : State) : exec (.cTrapg a) s = execCTrapg a s := rfl
@[simp] theorem exec_cLd (d) (k) (n) (b) (o) (s : State) : exec (.cLd d k n b o) s = execCLd d k n b o s := rfl
@[simp] theorem exec_cLd64 (d) (n) (b) (o) (s : State) : exec (.cLd64 d n b o) s = execCLd64 d n b o s := rfl
@[simp] theorem exec_cSt (d) (l) (k) (n) (b) (o) (s : State) :
    exec (.cSt d l k n b o) s = execCSt d l k n b o s := rfl
@[simp] theorem exec_cSt64 (d) (l) (n) (b) (o) (s : State) : exec (.cSt64 d l n b o) s = execCSt64 d l n b o s := rfl
@[simp] theorem exec_cAmo (d) (p) (n) (b) (o) (s : State) : exec (.cAmo d p n b o) s = execCAmo d p n b o s := rfl
@[simp] theorem exec_cLdp (d) (p) (n) (b) (o) (s : State) : exec (.cLdp d p n b o) s = execCLdp d p n b o s := rfl
@[simp] theorem exec_cGather (d) (t) (n) (b) (o) (s : State) :
    exec (.cGather d t n b o) s = execCGather d t n b o s := rfl
@[simp] theorem exec_cLds (d) (a) (b) (s : State) : exec (.cLds d a b) s = execCLds d a b s := rfl
@[simp] theorem exec_cLds64 (d) (a) (b) (s : State) : exec (.cLds64 d a b) s = execCLds64 d a b s := rfl
@[simp] theorem exec_cSts (d) (a) (b) (s : State) : exec (.cSts d a b) s = execCSts d a b s := rfl
@[simp] theorem exec_cSts64 (d) (a) (b) (s : State) : exec (.cSts64 d a b) s = execCSts64 d a b s := rfl
@[simp] theorem exec_cLdsf (d) (a) (b) (s : State) : exec (.cLdsf d a b) s = execCLdsf d a b s := rfl
@[simp] theorem exec_cLdsfk (d) (a) (b) (s : State) : exec (.cLdsfk d a b) s = execCLdsfk d a b s := rfl
@[simp] theorem exec_cStse (d) (a) (b) (s : State) : exec (.cStse d a b) s = execCStse d a b s := rfl
@[simp] theorem exec_cStsf (d) (a) (b) (s : State) : exec (.cStsf d a b) s = execCStsf d a b s := rfl
@[simp] theorem exec_cSptag (d) (a) (b) (s : State) : exec (.cSptag d a b) s = execCSptag d a b s := rfl
@[simp] theorem exec_cXst (d) (a) (b) (s : State) : exec (.cXst d a b) s = execCXst d a b s := rfl
@[simp] theorem exec_cAmos (d) (p) (a) (b) (s : State) : exec (.cAmos d p a b) s = execCAmos d p a b s := rfl
@[simp] theorem exec_cPushg (a) (b) (s : State) : exec (.cPushg a b) s = execCPushg a b s := rfl
@[simp] theorem exec_cPushgNb (p) (a) (b) (s : State) : exec (.cPushgNb p a b) s = execCPushgNb p a b s := rfl
@[simp] theorem exec_cVote (d) (a) (o) (s : State) : exec (.cVote d a o) s = execCVote d a o s := rfl
@[simp] theorem exec_cBararv (b) (s : State) : exec (.cBararv b) s = execCBararv b s := rfl
@[simp] theorem exec_cBardrop (b) (s : State) : exec (.cBardrop b) s = execCBardrop b s := rfl
@[simp] theorem exec_cBarwait (n) (b) (s : State) : exec (.cBarwait n b) s = execCBarwait n b s := rfl
@[simp] theorem exec_cBaraw (b) (s : State) : exec (.cBaraw b) s = execCBaraw b s := rfl
@[simp] theorem exec_cFence (o) (s : State) : exec (.cFence o) s = execCFence o s := rfl
@[simp] theorem exec_cMonw (d) (n) (b) (s : State) : exec (.cMonw d n b) s = execCMonw d n b s := rfl
@[simp] theorem exec_cMwaitb (a) (s : State) : exec (.cMwaitb a) s = execCMwaitb a s := rfl
@[simp] theorem exec_mMnop (s : State) : exec .mMnop s = execMMnop s := rfl
@[simp] theorem exec_mMma (h) (a) (b) (k) (n) (r) (c) (s : State) :
    exec (.mMma h a b k n r c) s = execMMma h a b k n r c s := rfl
@[simp] theorem exec_mMmag (h) (a) (b) (g) (k) (n) (r) (c) (s : State) :
    exec (.mMmag h a b g k n r c) s = execMMmag h a b g k n r c s := rfl
@[simp] theorem exec_mMzero (h) (s : State) : exec (.mMzero h) s = execMMzero h s := rfl
@[simp] theorem exec_mMloada (h) (a) (f) (s : State) : exec (.mMloada h a f) s = execMMloada h a f s := rfl
@[simp] theorem exec_mMout (h) (a) (f) (r) (k) (t) (s : State) :
    exec (.mMout h a f r k t) s = execMMout h a f r k t s := rfl
@[simp] theorem exec_mMscale (h) (o) (s : State) : exec (.mMscale h o) s = execMMscale h o s := rfl
@[simp] theorem exec_mMrelease (h) (s : State) : exec (.mMrelease h) s = execMMrelease h s := rfl
@[simp] theorem exec_mMbatch (b) (n) (s : State) : exec (.mMbatch b n) s = execMMbatch b n s := rfl
@[simp] theorem exec_eIllegalGWord (w) (s : State) : exec (.eIllegalGWord w) s = execEIllegalGWord w s := rfl
@[simp] theorem exec_eIllegalCWord (w) (s : State) : exec (.eIllegalCWord w) s = execEIllegalCWord w s := rfl
@[simp] theorem exec_eIllegalMWord (w) (s : State) : exec (.eIllegalMWord w) s = execEIllegalMWord w s := rfl
@[simp] theorem exec_pNopPacket (s : State) : exec .pNopPacket s = execPNopPacket s := rfl
@[simp] theorem exec_pLaunch (s : State) : exec .pLaunch s = execPLaunch s := rfl
@[simp] theorem exec_pLaunchi (s : State) : exec .pLaunchi s = execPLaunchi s := rfl
@[simp] theorem exec_pCopyPacket (s : State) : exec .pCopyPacket s = execPCopyPacket s := rfl
@[simp] theorem exec_pCallib (s : State) : exec .pCallib s = execPCallib s := rfl
@[simp] theorem exec_pPred (s : State) : exec .pPred s = execPPred s := rfl
@[simp] theorem exec_pLoop (s : State) : exec .pLoop s = execPLoop s := rfl
@[simp] theorem exec_pEndloop (s : State) : exec .pEndloop s = execPEndloop s := rfl
@[simp] theorem exec_pSignalWrite (s : State) : exec .pSignalWrite s = execPSignalWrite s := rfl
@[simp] theorem exec_pSignalAdd (s : State) : exec .pSignalAdd s = execPSignalAdd s := rfl
@[simp] theorem exec_pWaitmem (s : State) : exec .pWaitmem s = execPWaitmem s := rfl
@[simp] theorem exec_pFetchfence (s : State) : exec .pFetchfence s = execPFetchfence s := rfl
@[simp] theorem exec_pDrain (s : State) : exec .pDrain s = execPDrain s := rfl
@[simp] theorem exec_pSetprio (s : State) : exec .pSetprio s = execPSetprio s := rfl
@[simp] theorem exec_pTimestamp (s : State) : exec .pTimestamp s = execPTimestamp s := rfl
@[simp] theorem exec_eColdReset (s : State) : exec .eColdReset s = execEColdReset s := rfl
@[simp] theorem exec_eBootStageVerify (s : State) : exec .eBootStageVerify s = execEBootStageVerify s := rfl
@[simp] theorem exec_eModuleRelease (s : State) : exec .eModuleRelease s = execEModuleRelease s := rfl
@[simp] theorem exec_eStrike (s : State) : exec .eStrike s = execEStrike s := rfl
@[simp] theorem exec_eSliceStrike (s : State) : exec .eSliceStrike s = execESliceStrike s := rfl
@[simp] theorem exec_eDieFailure (s : State) : exec .eDieFailure s = execEDieFailure s := rfl
@[simp] theorem exec_eKick (s : State) : exec .eKick s = execEKick s := rfl
@[simp] theorem exec_eQstopq (s : State) : exec .eQstopq s = execEQstopq s := rfl
@[simp] theorem exec_eFqrel (s : State) : exec .eFqrel s = execEFqrel s := rfl
@[simp] theorem exec_eSnaptrig (s : State) : exec .eSnaptrig s = execESnaptrig s := rfl
@[simp] theorem exec_eSnapshotLatch (s : State) : exec .eSnapshotLatch s = execESnapshotLatch s := rfl
@[simp] theorem exec_eAttestationReport (s : State) : exec .eAttestationReport s = execEAttestationReport s := rfl
@[simp] theorem exec_eReadLifetimeCounters (s : State) :
    exec .eReadLifetimeCounters s = execEReadLifetimeCounters s := rfl
@[simp] theorem exec_eSnapshotTriggerCommand (s : State) :
    exec .eSnapshotTriggerCommand s = execESnapshotTriggerCommand s := rfl
@[simp] theorem exec_eRegisterWrite (s : State) : exec .eRegisterWrite s = execERegisterWrite s := rfl
@[simp] theorem exec_eLifetimeCounterUpdate (s : State) :
    exec .eLifetimeCounterUpdate s = execELifetimeCounterUpdate s := rfl
@[simp] theorem exec_eDramScrub (s : State) : exec .eDramScrub s = execEDramScrub s := rfl
@[simp] theorem exec_eHoldBackLeave (s : State) : exec .eHoldBackLeave s = execEHoldBackLeave s := rfl
@[simp] theorem exec_eEgressQuarantineLeave (s : State) :
    exec .eEgressQuarantineLeave s = execEEgressQuarantineLeave s := rfl
@[simp] theorem exec_eInboundPostedWrite (s : State) : exec .eInboundPostedWrite s = execEInboundPostedWrite s := rfl
@[simp] theorem exec_eInboundRead (s : State) : exec .eInboundRead s = execEInboundRead s := rfl
@[simp] theorem exec_eInboundWriteAck (s : State) : exec .eInboundWriteAck s = execEInboundWriteAck s := rfl
@[simp] theorem exec_eInboundHoldTimeout (s : State) : exec .eInboundHoldTimeout s = execEInboundHoldTimeout s := rfl
@[simp] theorem exec_eHostAtsInvalidation (s : State) :
    exec .eHostAtsInvalidation s = execEHostAtsInvalidation s := rfl
@[simp] theorem exec_ePriResponse (s : State) : exec .ePriResponse s = execEPriResponse s := rfl
@[simp] theorem exec_eHoluskDataFlit (s : State) : exec .eHoluskDataFlit s = execEHoluskDataFlit s := rfl
@[simp] theorem exec_eHoluskAck (s : State) : exec .eHoluskAck s = execEHoluskAck s := rfl
@[simp] theorem exec_eHoluskReplayTimeout (s : State) :
    exec .eHoluskReplayTimeout s = execEHoluskReplayTimeout s := rfl
@[simp] theorem exec_eAudit (s : State) : exec .eAudit s = execEAudit s := rfl
@[simp] theorem exec_eResync (s : State) : exec .eResync s = execEResync s := rfl
@[simp] theorem exec_eLinkPowerDown (s : State) : exec .eLinkPowerDown s = execELinkPowerDown s := rfl
@[simp] theorem exec_eLinkWake (s : State) : exec .eLinkWake s = execELinkWake s := rfl
@[simp] theorem exec_eWatchdogExpiry (s : State) : exec .eWatchdogExpiry s = execEWatchdogExpiry s := rfl
@[simp] theorem exec_eTswapExpiry (s : State) : exec .eTswapExpiry s = execETswapExpiry s := rfl
@[simp] theorem exec_eTmaxExpiry (s : State) : exec .eTmaxExpiry s = execETmaxExpiry s := rfl
@[simp] theorem exec_eSwapOut (s : State) : exec .eSwapOut s = execESwapOut s := rfl
@[simp] theorem exec_eSwapIn (s : State) : exec .eSwapIn s = execESwapIn s := rfl
@[simp] theorem exec_eTeamAdmission (s : State) : exec .eTeamAdmission s = execETeamAdmission s := rfl
@[simp] theorem exec_eGangAdmission (s : State) : exec .eGangAdmission s = execEGangAdmission s := rfl
@[simp] theorem exec_eGangWaitExpiry (s : State) : exec .eGangWaitExpiry s = execEGangWaitExpiry s := rfl
@[simp] theorem exec_eTeamRetirement (s : State) : exec .eTeamRetirement s = execETeamRetirement s := rfl
@[simp] theorem exec_eLaneBind (s : State) : exec .eLaneBind s = execELaneBind s := rfl
@[simp] theorem exec_eLaneWaitTimeout (s : State) : exec .eLaneWaitTimeout s = execELaneWaitTimeout s := rfl
@[simp] theorem exec_eLanePacketQuota (s : State) : exec .eLanePacketQuota s = execELanePacketQuota s := rfl
@[simp] theorem exec_eLanePassedOver (s : State) : exec .eLanePassedOver s = execELanePassedOver s := rfl
@[simp] theorem exec_ePacketFetch (s : State) : exec .ePacketFetch s = execEPacketFetch s := rfl
@[simp] theorem exec_eLaneWaitEnd (s : State) : exec .eLaneWaitEnd s = execELaneWaitEnd s := rfl
@[simp] theorem exec_eWaitmemReread (s : State) : exec .eWaitmemReread s = execEWaitmemReread s := rfl
@[simp] theorem exec_eLaunchDispatch (s : State) : exec .eLaunchDispatch s = execELaunchDispatch s := rfl
@[simp] theorem exec_ePrologueStart (s : State) : exec .ePrologueStart s = execEPrologueStart s := rfl
@[simp] theorem exec_eTeamDistribution (s : State) : exec .eTeamDistribution s = execETeamDistribution s := rfl
@[simp] theorem exec_ePrologueRepeat (s : State) : exec .ePrologueRepeat s = execEPrologueRepeat s := rfl
@[simp] theorem exec_eCompletionSignal (s : State) : exec .eCompletionSignal s = execECompletionSignal s := rfl
@[simp] theorem exec_eTombacSequence (s : State) : exec .eTombacSequence s = execETombacSequence s := rfl
@[simp] theorem exec_eFaultRecordWrite (s : State) : exec .eFaultRecordWrite s = execEFaultRecordWrite s := rfl
@[simp] theorem exec_ePermitBackoffRetry (s : State) : exec .ePermitBackoffRetry s = execEPermitBackoffRetry s := rfl
@[simp] theorem exec_eTrapDelivery (s : State) : exec .eTrapDelivery s = execETrapDelivery s := rfl
@[simp] theorem exec_eRegionCommit (s : State) : exec .eRegionCommit s = execERegionCommit s := rfl
@[simp] theorem exec_eGsetbApply (s : State) : exec .eGsetbApply s = execEGsetbApply s := rfl
@[simp] theorem exec_eCMemoryComplete (s : State) : exec .eCMemoryComplete s = execECMemoryComplete s := rfl
@[simp] theorem exec_eCopyOperationEnd (s : State) : exec .eCopyOperationEnd s = execECopyOperationEnd s := rfl
@[simp] theorem exec_eMonitorWake (s : State) : exec .eMonitorWake s = execEMonitorWake s := rfl
@[simp] theorem exec_eMonwRetry (s : State) : exec .eMonwRetry s = execEMonwRetry s := rfl
@[simp] theorem exec_eLeaseVoid (s : State) : exec .eLeaseVoid s = execELeaseVoid s := rfl
@[simp] theorem exec_eClockResume (s : State) : exec .eClockResume s = execEClockResume s := rfl
@[simp] theorem exec_eGroupOverdue (s : State) : exec .eGroupOverdue s = execEGroupOverdue s := rfl
@[simp] theorem exec_eGangExitNotice (s : State) : exec .eGangExitNotice s = execEGangExitNotice s := rfl
@[simp] theorem exec_eGangBarrierArrival (s : State) : exec .eGangBarrierArrival s = execEGangBarrierArrival s := rfl
@[simp] theorem exec_eMdsetApply (s : State) : exec .eMdsetApply s = execEMdsetApply s := rfl
@[simp] theorem exec_eMwaitaDeadline (s : State) : exec .eMwaitaDeadline s = execEMwaitaDeadline s := rfl
@[simp] theorem exec_eWfiDeadline (s : State) : exec .eWfiDeadline s = execEWfiDeadline s := rfl
@[simp] theorem exec_eIssueGating (s : State) : exec .eIssueGating s = execEIssueGating s := rfl
@[simp] theorem exec_eClockStop (s : State) : exec .eClockStop s = execEClockStop s := rfl
@[simp] theorem exec_eLeaseExpiry (s : State) : exec .eLeaseExpiry s = execELeaseExpiry s := rfl
@[simp] theorem exec_eYieldTimeout (s : State) : exec .eYieldTimeout s = execEYieldTimeout s := rfl

end Sys2Proof.Machine
end

