-- ==== Sys2Proof/Laws/Tables.lean ====
section
/-! SUPPORT. Laws/Tables.lean: what reading gives after writing in sparse storage and keyed tables, and that the canonical
form of sparse storage is kept. -/

namespace Sys2Proof.Machine

/-! ## Sparse storage -/

theorem spGet_spDel {w : Nat} (l : Sparse w) (k j : Nat) : spGet (spDel l k) j = if j = k then 0 else spGet l j := by
  induction l with
  | nil => simp [spDel, spGet]
  | cons e t ih =>
    obtain ⟨i, v⟩ := e
    simp only [spDel]
    by_cases h : k = i <;> by_cases g : j = k <;> by_cases f : j = i <;> simp_all [spGet]

theorem spGet_spPut {w : Nat} (l : Sparse w) (k j : Nat) (x : BitVec w) :
    spGet (spPut l k x) j = if j = k then x else spGet l j := by
  induction l with
  | nil => simp [spPut, spGet]
  | cons e t ih =>
    obtain ⟨i, v⟩ := e
    simp only [spPut]
    split
    · by_cases g : j = k <;> simp_all [spGet]
    · split
      · simp only [spGet]
      · by_cases g : j = k <;> simp_all [spGet]

/-- A read after a write: the value at the key written, and what stood before at every other. -/
@[simp] theorem spGet_spSet {w : Nat} (l : Sparse w) (k j : Nat) (x : BitVec w) :
    spGet (spSet l k x) j = if j = k then x else spGet l j := by
  unfold spSet
  split
  · rename_i h; rw [spGet_spDel, h]
  · exact spGet_spPut l k j x

theorem spFrom_mono {w : Nat} (l : Sparse w) {a b : Nat} (h : a ≤ b) (hb : spFrom b l = true) : spFrom a l = true := by
  cases l with
  | nil => rfl
  | cons e t => simp only [spFrom, Bool.and_eq_true, decide_eq_true_eq] at hb ⊢; exact ⟨⟨by omega, hb.1.2⟩, hb.2⟩

theorem spFrom_spDel {w : Nat} (l : Sparse w) (b k : Nat) (h : spFrom b l = true) : spFrom b (spDel l k) = true := by
  induction l generalizing b with
  | nil => rfl
  | cons e t ih =>
    simp only [spFrom, Bool.and_eq_true, decide_eq_true_eq] at h
    simp only [spDel]
    split
    · exact spFrom_mono _ (by omega) (ih _ h.2)
    · simp only [spFrom, Bool.and_eq_true, decide_eq_true_eq]; exact ⟨h.1, ih _ h.2⟩

theorem spFrom_spPut {w : Nat} (l : Sparse w) (b k : Nat) (x : BitVec w) (hx : x ≠ 0) (hk : b ≤ k)
    (h : spFrom b l = true) : spFrom b (spPut l k x) = true := by
  induction l generalizing b with
  | nil => simpa [spPut, spFrom, hk] using hx
  | cons e t ih =>
    simp only [spFrom, Bool.and_eq_true, decide_eq_true_eq, bne_iff_ne] at h
    simp only [spPut]
    split
    · rename_i he; subst he
      simp only [spFrom, Bool.and_eq_true, decide_eq_true_eq, bne_iff_ne]; exact ⟨⟨hk, hx⟩, h.2⟩
    · split
      · simp only [spFrom, Bool.and_eq_true, decide_eq_true_eq, bne_iff_ne]
        exact ⟨⟨hk, hx⟩, ⟨by omega, h.1.2⟩, h.2⟩
      · simp only [spFrom, Bool.and_eq_true, decide_eq_true_eq, bne_iff_ne]
        exact ⟨h.1, ih _ (by omega) h.2⟩

/-- Every write keeps the canonical form. -/
theorem spWf_spSet {w : Nat} (l : Sparse w) (k : Nat) (x : BitVec w) (h : spWf l = true) : spWf (spSet l k x) = true := by
  unfold spSet spWf at *
  split
  · exact spFrom_spDel l 0 k h
  · rename_i hx; exact spFrom_spPut l 0 k x hx (Nat.zero_le _) h

theorem spGet_of_spFrom {w : Nat} (l : Sparse w) (b k : Nat) (h : spFrom b l = true) (hk : k < b) : spGet l k = 0 := by
  induction l generalizing b with
  | nil => rfl
  | cons e t ih =>
    simp only [spFrom, Bool.and_eq_true, decide_eq_true_eq] at h
    simp only [spGet]
    rw [if_neg (by omega)]
    exact ih _ h.2 (by omega)

/-- In canonical form, storage that reads the same everywhere is the same data. -/
theorem spWf_ext {w : Nat} (l m : Sparse w) (hl : spWf l = true) (hm : spWf m = true) (h : ∀ k, spGet l k = spGet m k) :
    l = m := by
  unfold spWf at hl hm
  generalize 0 = b at hl hm
  induction l generalizing b m with
  | nil =>
    cases m with
    | nil => rfl
    | cons e t =>
      simp only [spFrom, Bool.and_eq_true, bne_iff_ne] at hm
      have := h e.1
      simp only [spGet, ↓reduceIte] at this
      exact absurd this.symm hm.1.2
  | cons e t ih =>
    cases m with
    | nil =>
      simp only [spFrom, Bool.and_eq_true, bne_iff_ne] at hl
      have := h e.1
      simp only [spGet, ↓reduceIte] at this
      exact absurd this hl.1.2
    | cons f u =>
      simp only [spFrom, Bool.and_eq_true, bne_iff_ne, decide_eq_true_eq] at hl hm
      have hke : e.1 = f.1 := by
        rcases Nat.lt_trichotomy e.1 f.1 with g | g | g
        · have := h e.1
          simp only [spGet, ↓reduceIte] at this
          rw [if_neg (by omega), spGet_of_spFrom u _ e.1 hm.2 (by omega)] at this
          exact absurd this hl.1.2
        · exact g
        · have := h f.1
          simp only [spGet, ↓reduceIte] at this
          rw [if_neg (by omega), spGet_of_spFrom t _ f.1 hl.2 (by omega)] at this
          exact absurd this.symm hm.1.2
      have hv : e.2 = f.2 := by
        have := h e.1
        simpa [spGet, hke] using this
      have ht : t = u := by
        refine ih (m := u) (b := e.1 + 1) (hl := hl.2) (hm := by rw [hke]; exact hm.2) (h := fun k => ?_)
        by_cases hk : k < e.1 + 1
        · rw [spGet_of_spFrom t _ k hl.2 hk, spGet_of_spFrom u _ k hm.2 (by omega)]
        · have := h k
          simpa [spGet, show ¬ k = e.1 by omega, show ¬ k = f.1 by omega] using this
      rw [ht, Prod.ext hke hv]

/-! ## Tables -/

/-- A table's entry after one has been set. -/
@[simp] theorem kvFind_kvSet {α : Type} (l : KV α) (k j : Nat) (x : α) :
    kvFind (kvSet l k x) j = if j = k then some x else kvFind l j := by
  induction l with
  | nil => simp [kvSet, kvFind]
  | cons e t ih =>
    obtain ⟨i, v⟩ := e
    simp only [kvSet]
    split
    · by_cases g : j = k <;> simp_all [kvFind]
    · split
      · simp only [kvFind]
      · by_cases g : j = k <;> simp_all [kvFind]

/-- A table's entry after one has been removed. -/
@[simp] theorem kvFind_kvDel {α : Type} (l : KV α) (k j : Nat) :
    kvFind (kvDel l k) j = if j = k then none else kvFind l j := by
  induction l with
  | nil => simp [kvDel, kvFind]
  | cons e t ih =>
    obtain ⟨i, v⟩ := e
    simp only [kvDel]
    by_cases h : k = i <;> by_cases g : j = k <;> by_cases f : j = i <;> simp_all [kvFind]

/-- A table's entry after every entry has been changed. -/
@[simp] theorem kvFind_kvMap {α : Type} (f : Nat → α → α) (l : KV α) (j : Nat) :
    kvFind (kvMap f l) j = (kvFind l j).map (f j) := by
  induction l with
  | nil => rfl
  | cons e t ih =>
    simp only [kvMap, List.map_cons, kvFind] at ih ⊢
    split
    · subst_vars; rfl
    · exact ih

@[simp] theorem kvGet_kvSet {α : Type} (d : α) (l : KV α) (k j : Nat) (x : α) :
    kvGet d (kvSet l k x) j = if j = k then x else kvGet d l j := by
  unfold kvGet; rw [kvFind_kvSet]; split <;> rfl

/-! ## Bytes (R4) -/

@[simp] theorem natLe_length (n x : Nat) : (natLe n x).length = n := by
  induction n generalizing x with
  | zero => rfl
  | succ k ih => simp [natLe, ih]

@[simp] theorem bytesAt_length (f : Nat → Byte) (a n : Nat) : (bytesAt f a n).length = n := by
  induction n generalizing a with
  | zero => rfl
  | succ k ih => simp [bytesAt, ih]

/-- A number written as n bytes and read back, modulo 2^(8n). -/
theorem leNat_natLe (n x : Nat) : leNat (natLe n x) = x % 256 ^ n := by
  induction n generalizing x with
  | zero => simp [natLe, leNat, Nat.mod_one]
  | succ k ih =>
    simp only [natLe, leNat, ih, BitVec.toNat_ofNat]
    rw [show (2 : Nat) ^ 8 = 256 from rfl, Nat.pow_succ, Nat.mul_comm (256 ^ k) 256, Nat.mod_mul]

end Sys2Proof.Machine
end

