-- ==== Sys2Proof/Laws/State.lean ====
section
/-! SUPPORT. Laws/State.lean: what each update of the state leaves of each field, and what each accessor reads after it. -/

namespace Sys2Proof.Machine

/-! ## Changing is reading and setting -/

@[simp] theorem State.updCtx_eq (s : State) (i : Nat) (f : Ctx → Ctx) : s.updCtx i f = s.setCtx i (f (s.ctx i)) := rfl
@[simp] theorem State.updTeam_eq (s : State) (i : Nat) (f : Team → Team) : s.updTeam i f = s.setTeam i (f (s.team i)) := rfl
@[simp] theorem State.updGrp_eq (s : State) (i : Nat) (f : Group → Group) : s.updGrp i f = s.setGrp i (f (s.grp i)) := rfl
@[simp] theorem State.updCore_eq (s : State) (i : Nat) (f : Core → Core) : s.updCore i f = s.setCore i (f (s.core i)) := rfl
@[simp] theorem State.updDie_eq (s : State) (i : Nat) (f : Die → Die) : s.updDie i f = s.setDie i (f (s.die i)) := rfl

/-! ## setCtx -/

@[simp] theorem State.setCtx_clk (s : State) (i : Nat) (x : Ctx) : (s.setCtx i x).clk = s.clk := rfl
@[simp] theorem State.setCtx_released (s : State) (i : Nat) (x : Ctx) : (s.setCtx i x).released = s.released := rfl
@[simp] theorem State.setCtx_turns (s : State) (i : Nat) (x : Ctx) : (s.setCtx i x).turns = s.turns := rfl
@[simp] theorem State.setCtx_freeCtr (s : State) (i : Nat) (x : Ctx) : (s.setCtx i x).freeCtr = s.freeCtr := rfl
@[simp] theorem State.setCtx_turnCtr (s : State) (i : Nat) (x : Ctx) : (s.setCtx i x).turnCtr = s.turnCtr := rfl
@[simp] theorem State.setCtx_cur (s : State) (i : Nat) (x : Ctx) : (s.setCtx i x).cur = s.cur := rfl
@[simp] theorem State.setCtx_mem (s : State) (i : Nat) (x : Ctx) : (s.setCtx i x).mem = s.mem := rfl
@[simp] theorem State.setCtx_poison (s : State) (i : Nat) (x : Ctx) : (s.setCtx i x).poison = s.poison := rfl
@[simp] theorem State.setCtx_teams (s : State) (i : Nat) (x : Ctx) : (s.setCtx i x).teams = s.teams := rfl
@[simp] theorem State.setCtx_groups (s : State) (i : Nat) (x : Ctx) : (s.setCtx i x).groups = s.groups := rfl
@[simp] theorem State.setCtx_cores (s : State) (i : Nat) (x : Ctx) : (s.setCtx i x).cores = s.cores := rfl
@[simp] theorem State.setCtx_dies (s : State) (i : Nat) (x : Ctx) : (s.setCtx i x).dies = s.dies := rfl
@[simp] theorem State.setCtx_copies (s : State) (i : Nat) (x : Ctx) : (s.setCtx i x).copies = s.copies := rfl
@[simp] theorem State.setCtx_dir (s : State) (i : Nat) (x : Ctx) : (s.setCtx i x).dir = s.dir := rfl
@[simp] theorem State.setCtx_leases (s : State) (i : Nat) (x : Ctx) : (s.setCtx i x).leases = s.leases := rfl
@[simp] theorem State.setCtx_lastRel (s : State) (i : Nat) (x : Ctx) : (s.setCtx i x).lastRel = s.lastRel := rfl
@[simp] theorem State.setCtx_engines (s : State) (i : Nat) (x : Ctx) : (s.setCtx i x).engines = s.engines := rfl
@[simp] theorem State.setCtx_opSerial (s : State) (i : Nat) (x : Ctx) : (s.setCtx i x).opSerial = s.opSerial := rfl
@[simp] theorem State.setCtx_records (s : State) (i : Nat) (x : Ctx) : (s.setCtx i x).records = s.records := rfl
@[simp] theorem State.setCtx_launches (s : State) (i : Nat) (x : Ctx) : (s.setCtx i x).launches = s.launches := rfl
@[simp] theorem State.setCtx_nextLid (s : State) (i : Nat) (x : Ctx) : (s.setCtx i x).nextLid = s.nextLid := rfl
@[simp] theorem State.setCtx_gangs (s : State) (i : Nat) (x : Ctx) : (s.setCtx i x).gangs = s.gangs := rfl
@[simp] theorem State.setCtx_nextGang (s : State) (i : Nat) (x : Ctx) : (s.setCtx i x).nextGang = s.nextGang := rfl
@[simp] theorem State.setCtx_pewters (s : State) (i : Nat) (x : Ctx) : (s.setCtx i x).pewters = s.pewters := rfl
@[simp] theorem State.setCtx_sends (s : State) (i : Nat) (x : Ctx) : (s.setCtx i x).sends = s.sends := rfl
@[simp] theorem State.setCtx_tombacSeq (s : State) (i : Nat) (x : Ctx) : (s.setCtx i x).tombacSeq = s.tombacSeq := rfl
@[simp] theorem State.setCtx_iods (s : State) (i : Nat) (x : Ctx) : (s.setCtx i x).iods = s.iods := rfl
@[simp] theorem State.setCtx_ports (s : State) (i : Nat) (x : Ctx) : (s.setCtx i x).ports = s.ports := rfl
@[simp] theorem State.setCtx_links (s : State) (i : Nat) (x : Ctx) : (s.setCtx i x).links = s.links := rfl
@[simp] theorem State.setCtx_smify (s : State) (i : Nat) (x : Ctx) : (s.setCtx i x).smify = s.smify := rfl
@[simp] theorem State.setCtx_snapTick (s : State) (i : Nat) (x : Ctx) : (s.setCtx i x).snapTick = s.snapTick := rfl
@[simp] theorem State.setCtx_ctx (s : State) (i : Nat) (x : Ctx) (j : Nat) : (s.setCtx i x).ctx j = if j = i then x else s.ctx j := by
  simp only [State.ctx, State.setCtx, kvGet_kvSet]
@[simp] theorem State.setCtx_team (s : State) (i : Nat) (x : Ctx) (j : Nat) : (s.setCtx i x).team j = s.team j := rfl
@[simp] theorem State.setCtx_grp (s : State) (i : Nat) (x : Ctx) (j : Nat) : (s.setCtx i x).grp j = s.grp j := rfl
@[simp] theorem State.setCtx_core (s : State) (i : Nat) (x : Ctx) (j : Nat) : (s.setCtx i x).core j = s.core j := rfl
@[simp] theorem State.setCtx_die (s : State) (i : Nat) (x : Ctx) (j : Nat) : (s.setCtx i x).die j = s.die j := rfl
@[simp] theorem State.setCtx_launch (s : State) (i : Nat) (x : Ctx) (j : Nat) : (s.setCtx i x).launch j = s.launch j := rfl
@[simp] theorem State.setCtx_engine (s : State) (i : Nat) (x : Ctx) (j : Nat) : (s.setCtx i x).engine j = s.engine j := rfl
@[simp] theorem State.setCtx_pewter (s : State) (i : Nat) (x : Ctx) (j : Nat) : (s.setCtx i x).pewter j = s.pewter j := rfl
@[simp] theorem State.setCtx_iod (s : State) (i : Nat) (x : Ctx) (j : Nat) : (s.setCtx i x).iod j = s.iod j := rfl
@[simp] theorem State.setCtx_now (s : State) (i : Nat) (x : Ctx) : (s.setCtx i x).now = s.now := rfl
@[simp] theorem State.setCtx_hasTeam (s : State) (i : Nat) (x : Ctx) (j : Nat) : (s.setCtx i x).hasTeam j = s.hasTeam j := rfl
@[simp] theorem State.setCtx_byte (s : State) (i : Nat) (x : Ctx) (j : Nat) : (s.setCtx i x).byte j = s.byte j := rfl

/-! ## setTeam -/

@[simp] theorem State.setTeam_clk (s : State) (i : Nat) (x : Team) : (s.setTeam i x).clk = s.clk := rfl
@[simp] theorem State.setTeam_released (s : State) (i : Nat) (x : Team) : (s.setTeam i x).released = s.released := rfl
@[simp] theorem State.setTeam_turns (s : State) (i : Nat) (x : Team) : (s.setTeam i x).turns = s.turns := rfl
@[simp] theorem State.setTeam_freeCtr (s : State) (i : Nat) (x : Team) : (s.setTeam i x).freeCtr = s.freeCtr := rfl
@[simp] theorem State.setTeam_turnCtr (s : State) (i : Nat) (x : Team) : (s.setTeam i x).turnCtr = s.turnCtr := rfl
@[simp] theorem State.setTeam_cur (s : State) (i : Nat) (x : Team) : (s.setTeam i x).cur = s.cur := rfl
@[simp] theorem State.setTeam_mem (s : State) (i : Nat) (x : Team) : (s.setTeam i x).mem = s.mem := rfl
@[simp] theorem State.setTeam_poison (s : State) (i : Nat) (x : Team) : (s.setTeam i x).poison = s.poison := rfl
@[simp] theorem State.setTeam_ctxs (s : State) (i : Nat) (x : Team) : (s.setTeam i x).ctxs = s.ctxs := rfl
@[simp] theorem State.setTeam_groups (s : State) (i : Nat) (x : Team) : (s.setTeam i x).groups = s.groups := rfl
@[simp] theorem State.setTeam_cores (s : State) (i : Nat) (x : Team) : (s.setTeam i x).cores = s.cores := rfl
@[simp] theorem State.setTeam_dies (s : State) (i : Nat) (x : Team) : (s.setTeam i x).dies = s.dies := rfl
@[simp] theorem State.setTeam_copies (s : State) (i : Nat) (x : Team) : (s.setTeam i x).copies = s.copies := rfl
@[simp] theorem State.setTeam_dir (s : State) (i : Nat) (x : Team) : (s.setTeam i x).dir = s.dir := rfl
@[simp] theorem State.setTeam_leases (s : State) (i : Nat) (x : Team) : (s.setTeam i x).leases = s.leases := rfl
@[simp] theorem State.setTeam_lastRel (s : State) (i : Nat) (x : Team) : (s.setTeam i x).lastRel = s.lastRel := rfl
@[simp] theorem State.setTeam_engines (s : State) (i : Nat) (x : Team) : (s.setTeam i x).engines = s.engines := rfl
@[simp] theorem State.setTeam_opSerial (s : State) (i : Nat) (x : Team) : (s.setTeam i x).opSerial = s.opSerial := rfl
@[simp] theorem State.setTeam_records (s : State) (i : Nat) (x : Team) : (s.setTeam i x).records = s.records := rfl
@[simp] theorem State.setTeam_launches (s : State) (i : Nat) (x : Team) : (s.setTeam i x).launches = s.launches := rfl
@[simp] theorem State.setTeam_nextLid (s : State) (i : Nat) (x : Team) : (s.setTeam i x).nextLid = s.nextLid := rfl
@[simp] theorem State.setTeam_gangs (s : State) (i : Nat) (x : Team) : (s.setTeam i x).gangs = s.gangs := rfl
@[simp] theorem State.setTeam_nextGang (s : State) (i : Nat) (x : Team) : (s.setTeam i x).nextGang = s.nextGang := rfl
@[simp] theorem State.setTeam_pewters (s : State) (i : Nat) (x : Team) : (s.setTeam i x).pewters = s.pewters := rfl
@[simp] theorem State.setTeam_sends (s : State) (i : Nat) (x : Team) : (s.setTeam i x).sends = s.sends := rfl
@[simp] theorem State.setTeam_tombacSeq (s : State) (i : Nat) (x : Team) : (s.setTeam i x).tombacSeq = s.tombacSeq := rfl
@[simp] theorem State.setTeam_iods (s : State) (i : Nat) (x : Team) : (s.setTeam i x).iods = s.iods := rfl
@[simp] theorem State.setTeam_ports (s : State) (i : Nat) (x : Team) : (s.setTeam i x).ports = s.ports := rfl
@[simp] theorem State.setTeam_links (s : State) (i : Nat) (x : Team) : (s.setTeam i x).links = s.links := rfl
@[simp] theorem State.setTeam_smify (s : State) (i : Nat) (x : Team) : (s.setTeam i x).smify = s.smify := rfl
@[simp] theorem State.setTeam_snapTick (s : State) (i : Nat) (x : Team) : (s.setTeam i x).snapTick = s.snapTick := rfl
@[simp] theorem State.setTeam_ctx (s : State) (i : Nat) (x : Team) (j : Nat) : (s.setTeam i x).ctx j = s.ctx j := rfl
@[simp] theorem State.setTeam_team (s : State) (i : Nat) (x : Team) (j : Nat) : (s.setTeam i x).team j = if j = i then x else s.team j := by
  simp only [State.team, State.setTeam, kvGet_kvSet]
@[simp] theorem State.setTeam_grp (s : State) (i : Nat) (x : Team) (j : Nat) : (s.setTeam i x).grp j = s.grp j := rfl
@[simp] theorem State.setTeam_core (s : State) (i : Nat) (x : Team) (j : Nat) : (s.setTeam i x).core j = s.core j := rfl
@[simp] theorem State.setTeam_die (s : State) (i : Nat) (x : Team) (j : Nat) : (s.setTeam i x).die j = s.die j := rfl
@[simp] theorem State.setTeam_launch (s : State) (i : Nat) (x : Team) (j : Nat) : (s.setTeam i x).launch j = s.launch j := rfl
@[simp] theorem State.setTeam_engine (s : State) (i : Nat) (x : Team) (j : Nat) : (s.setTeam i x).engine j = s.engine j := rfl
@[simp] theorem State.setTeam_pewter (s : State) (i : Nat) (x : Team) (j : Nat) : (s.setTeam i x).pewter j = s.pewter j := rfl
@[simp] theorem State.setTeam_iod (s : State) (i : Nat) (x : Team) (j : Nat) : (s.setTeam i x).iod j = s.iod j := rfl
@[simp] theorem State.setTeam_now (s : State) (i : Nat) (x : Team) : (s.setTeam i x).now = s.now := rfl
@[simp] theorem State.setTeam_byte (s : State) (i : Nat) (x : Team) (j : Nat) : (s.setTeam i x).byte j = s.byte j := rfl

/-! ## setGrp -/

@[simp] theorem State.setGrp_clk (s : State) (i : Nat) (x : Group) : (s.setGrp i x).clk = s.clk := rfl
@[simp] theorem State.setGrp_released (s : State) (i : Nat) (x : Group) : (s.setGrp i x).released = s.released := rfl
@[simp] theorem State.setGrp_turns (s : State) (i : Nat) (x : Group) : (s.setGrp i x).turns = s.turns := rfl
@[simp] theorem State.setGrp_freeCtr (s : State) (i : Nat) (x : Group) : (s.setGrp i x).freeCtr = s.freeCtr := rfl
@[simp] theorem State.setGrp_turnCtr (s : State) (i : Nat) (x : Group) : (s.setGrp i x).turnCtr = s.turnCtr := rfl
@[simp] theorem State.setGrp_cur (s : State) (i : Nat) (x : Group) : (s.setGrp i x).cur = s.cur := rfl
@[simp] theorem State.setGrp_mem (s : State) (i : Nat) (x : Group) : (s.setGrp i x).mem = s.mem := rfl
@[simp] theorem State.setGrp_poison (s : State) (i : Nat) (x : Group) : (s.setGrp i x).poison = s.poison := rfl
@[simp] theorem State.setGrp_ctxs (s : State) (i : Nat) (x : Group) : (s.setGrp i x).ctxs = s.ctxs := rfl
@[simp] theorem State.setGrp_teams (s : State) (i : Nat) (x : Group) : (s.setGrp i x).teams = s.teams := rfl
@[simp] theorem State.setGrp_cores (s : State) (i : Nat) (x : Group) : (s.setGrp i x).cores = s.cores := rfl
@[simp] theorem State.setGrp_dies (s : State) (i : Nat) (x : Group) : (s.setGrp i x).dies = s.dies := rfl
@[simp] theorem State.setGrp_copies (s : State) (i : Nat) (x : Group) : (s.setGrp i x).copies = s.copies := rfl
@[simp] theorem State.setGrp_dir (s : State) (i : Nat) (x : Group) : (s.setGrp i x).dir = s.dir := rfl
@[simp] theorem State.setGrp_leases (s : State) (i : Nat) (x : Group) : (s.setGrp i x).leases = s.leases := rfl
@[simp] theorem State.setGrp_lastRel (s : State) (i : Nat) (x : Group) : (s.setGrp i x).lastRel = s.lastRel := rfl
@[simp] theorem State.setGrp_engines (s : State) (i : Nat) (x : Group) : (s.setGrp i x).engines = s.engines := rfl
@[simp] theorem State.setGrp_opSerial (s : State) (i : Nat) (x : Group) : (s.setGrp i x).opSerial = s.opSerial := rfl
@[simp] theorem State.setGrp_records (s : State) (i : Nat) (x : Group) : (s.setGrp i x).records = s.records := rfl
@[simp] theorem State.setGrp_launches (s : State) (i : Nat) (x : Group) : (s.setGrp i x).launches = s.launches := rfl
@[simp] theorem State.setGrp_nextLid (s : State) (i : Nat) (x : Group) : (s.setGrp i x).nextLid = s.nextLid := rfl
@[simp] theorem State.setGrp_gangs (s : State) (i : Nat) (x : Group) : (s.setGrp i x).gangs = s.gangs := rfl
@[simp] theorem State.setGrp_nextGang (s : State) (i : Nat) (x : Group) : (s.setGrp i x).nextGang = s.nextGang := rfl
@[simp] theorem State.setGrp_pewters (s : State) (i : Nat) (x : Group) : (s.setGrp i x).pewters = s.pewters := rfl
@[simp] theorem State.setGrp_sends (s : State) (i : Nat) (x : Group) : (s.setGrp i x).sends = s.sends := rfl
@[simp] theorem State.setGrp_tombacSeq (s : State) (i : Nat) (x : Group) : (s.setGrp i x).tombacSeq = s.tombacSeq := rfl
@[simp] theorem State.setGrp_iods (s : State) (i : Nat) (x : Group) : (s.setGrp i x).iods = s.iods := rfl
@[simp] theorem State.setGrp_ports (s : State) (i : Nat) (x : Group) : (s.setGrp i x).ports = s.ports := rfl
@[simp] theorem State.setGrp_links (s : State) (i : Nat) (x : Group) : (s.setGrp i x).links = s.links := rfl
@[simp] theorem State.setGrp_smify (s : State) (i : Nat) (x : Group) : (s.setGrp i x).smify = s.smify := rfl
@[simp] theorem State.setGrp_snapTick (s : State) (i : Nat) (x : Group) : (s.setGrp i x).snapTick = s.snapTick := rfl
@[simp] theorem State.setGrp_ctx (s : State) (i : Nat) (x : Group) (j : Nat) : (s.setGrp i x).ctx j = s.ctx j := rfl
@[simp] theorem State.setGrp_team (s : State) (i : Nat) (x : Group) (j : Nat) : (s.setGrp i x).team j = s.team j := rfl
@[simp] theorem State.setGrp_grp (s : State) (i : Nat) (x : Group) (j : Nat) : (s.setGrp i x).grp j = if j = i then x else s.grp j := by
  simp only [State.grp, State.setGrp, kvGet_kvSet]
@[simp] theorem State.setGrp_core (s : State) (i : Nat) (x : Group) (j : Nat) : (s.setGrp i x).core j = s.core j := rfl
@[simp] theorem State.setGrp_die (s : State) (i : Nat) (x : Group) (j : Nat) : (s.setGrp i x).die j = s.die j := rfl
@[simp] theorem State.setGrp_launch (s : State) (i : Nat) (x : Group) (j : Nat) : (s.setGrp i x).launch j = s.launch j := rfl
@[simp] theorem State.setGrp_engine (s : State) (i : Nat) (x : Group) (j : Nat) : (s.setGrp i x).engine j = s.engine j := rfl
@[simp] theorem State.setGrp_pewter (s : State) (i : Nat) (x : Group) (j : Nat) : (s.setGrp i x).pewter j = s.pewter j := rfl
@[simp] theorem State.setGrp_iod (s : State) (i : Nat) (x : Group) (j : Nat) : (s.setGrp i x).iod j = s.iod j := rfl
@[simp] theorem State.setGrp_now (s : State) (i : Nat) (x : Group) : (s.setGrp i x).now = s.now := rfl
@[simp] theorem State.setGrp_hasTeam (s : State) (i : Nat) (x : Group) (j : Nat) : (s.setGrp i x).hasTeam j = s.hasTeam j := rfl
@[simp] theorem State.setGrp_byte (s : State) (i : Nat) (x : Group) (j : Nat) : (s.setGrp i x).byte j = s.byte j := rfl

/-! ## setCore -/

@[simp] theorem State.setCore_clk (s : State) (i : Nat) (x : Core) : (s.setCore i x).clk = s.clk := rfl
@[simp] theorem State.setCore_released (s : State) (i : Nat) (x : Core) : (s.setCore i x).released = s.released := rfl
@[simp] theorem State.setCore_turns (s : State) (i : Nat) (x : Core) : (s.setCore i x).turns = s.turns := rfl
@[simp] theorem State.setCore_freeCtr (s : State) (i : Nat) (x : Core) : (s.setCore i x).freeCtr = s.freeCtr := rfl
@[simp] theorem State.setCore_turnCtr (s : State) (i : Nat) (x : Core) : (s.setCore i x).turnCtr = s.turnCtr := rfl
@[simp] theorem State.setCore_cur (s : State) (i : Nat) (x : Core) : (s.setCore i x).cur = s.cur := rfl
@[simp] theorem State.setCore_mem (s : State) (i : Nat) (x : Core) : (s.setCore i x).mem = s.mem := rfl
@[simp] theorem State.setCore_poison (s : State) (i : Nat) (x : Core) : (s.setCore i x).poison = s.poison := rfl
@[simp] theorem State.setCore_ctxs (s : State) (i : Nat) (x : Core) : (s.setCore i x).ctxs = s.ctxs := rfl
@[simp] theorem State.setCore_teams (s : State) (i : Nat) (x : Core) : (s.setCore i x).teams = s.teams := rfl
@[simp] theorem State.setCore_groups (s : State) (i : Nat) (x : Core) : (s.setCore i x).groups = s.groups := rfl
@[simp] theorem State.setCore_dies (s : State) (i : Nat) (x : Core) : (s.setCore i x).dies = s.dies := rfl
@[simp] theorem State.setCore_copies (s : State) (i : Nat) (x : Core) : (s.setCore i x).copies = s.copies := rfl
@[simp] theorem State.setCore_dir (s : State) (i : Nat) (x : Core) : (s.setCore i x).dir = s.dir := rfl
@[simp] theorem State.setCore_leases (s : State) (i : Nat) (x : Core) : (s.setCore i x).leases = s.leases := rfl
@[simp] theorem State.setCore_lastRel (s : State) (i : Nat) (x : Core) : (s.setCore i x).lastRel = s.lastRel := rfl
@[simp] theorem State.setCore_engines (s : State) (i : Nat) (x : Core) : (s.setCore i x).engines = s.engines := rfl
@[simp] theorem State.setCore_opSerial (s : State) (i : Nat) (x : Core) : (s.setCore i x).opSerial = s.opSerial := rfl
@[simp] theorem State.setCore_records (s : State) (i : Nat) (x : Core) : (s.setCore i x).records = s.records := rfl
@[simp] theorem State.setCore_launches (s : State) (i : Nat) (x : Core) : (s.setCore i x).launches = s.launches := rfl
@[simp] theorem State.setCore_nextLid (s : State) (i : Nat) (x : Core) : (s.setCore i x).nextLid = s.nextLid := rfl
@[simp] theorem State.setCore_gangs (s : State) (i : Nat) (x : Core) : (s.setCore i x).gangs = s.gangs := rfl
@[simp] theorem State.setCore_nextGang (s : State) (i : Nat) (x : Core) : (s.setCore i x).nextGang = s.nextGang := rfl
@[simp] theorem State.setCore_pewters (s : State) (i : Nat) (x : Core) : (s.setCore i x).pewters = s.pewters := rfl
@[simp] theorem State.setCore_sends (s : State) (i : Nat) (x : Core) : (s.setCore i x).sends = s.sends := rfl
@[simp] theorem State.setCore_tombacSeq (s : State) (i : Nat) (x : Core) : (s.setCore i x).tombacSeq = s.tombacSeq := rfl
@[simp] theorem State.setCore_iods (s : State) (i : Nat) (x : Core) : (s.setCore i x).iods = s.iods := rfl
@[simp] theorem State.setCore_ports (s : State) (i : Nat) (x : Core) : (s.setCore i x).ports = s.ports := rfl
@[simp] theorem State.setCore_links (s : State) (i : Nat) (x : Core) : (s.setCore i x).links = s.links := rfl
@[simp] theorem State.setCore_smify (s : State) (i : Nat) (x : Core) : (s.setCore i x).smify = s.smify := rfl
@[simp] theorem State.setCore_snapTick (s : State) (i : Nat) (x : Core) : (s.setCore i x).snapTick = s.snapTick := rfl
@[simp] theorem State.setCore_ctx (s : State) (i : Nat) (x : Core) (j : Nat) : (s.setCore i x).ctx j = s.ctx j := rfl
@[simp] theorem State.setCore_team (s : State) (i : Nat) (x : Core) (j : Nat) : (s.setCore i x).team j = s.team j := rfl
@[simp] theorem State.setCore_grp (s : State) (i : Nat) (x : Core) (j : Nat) : (s.setCore i x).grp j = s.grp j := rfl
@[simp] theorem State.setCore_core (s : State) (i : Nat) (x : Core) (j : Nat) : (s.setCore i x).core j = if j = i then x else s.core j := by
  simp only [State.core, State.setCore, kvGet_kvSet]
@[simp] theorem State.setCore_die (s : State) (i : Nat) (x : Core) (j : Nat) : (s.setCore i x).die j = s.die j := rfl
@[simp] theorem State.setCore_launch (s : State) (i : Nat) (x : Core) (j : Nat) : (s.setCore i x).launch j = s.launch j := rfl
@[simp] theorem State.setCore_engine (s : State) (i : Nat) (x : Core) (j : Nat) : (s.setCore i x).engine j = s.engine j := rfl
@[simp] theorem State.setCore_pewter (s : State) (i : Nat) (x : Core) (j : Nat) : (s.setCore i x).pewter j = s.pewter j := rfl
@[simp] theorem State.setCore_iod (s : State) (i : Nat) (x : Core) (j : Nat) : (s.setCore i x).iod j = s.iod j := rfl
@[simp] theorem State.setCore_now (s : State) (i : Nat) (x : Core) : (s.setCore i x).now = s.now := rfl
@[simp] theorem State.setCore_hasTeam (s : State) (i : Nat) (x : Core) (j : Nat) : (s.setCore i x).hasTeam j = s.hasTeam j := rfl
@[simp] theorem State.setCore_byte (s : State) (i : Nat) (x : Core) (j : Nat) : (s.setCore i x).byte j = s.byte j := rfl

/-! ## setDie -/

@[simp] theorem State.setDie_clk (s : State) (i : Nat) (x : Die) : (s.setDie i x).clk = s.clk := rfl
@[simp] theorem State.setDie_released (s : State) (i : Nat) (x : Die) : (s.setDie i x).released = s.released := rfl
@[simp] theorem State.setDie_turns (s : State) (i : Nat) (x : Die) : (s.setDie i x).turns = s.turns := rfl
@[simp] theorem State.setDie_freeCtr (s : State) (i : Nat) (x : Die) : (s.setDie i x).freeCtr = s.freeCtr := rfl
@[simp] theorem State.setDie_turnCtr (s : State) (i : Nat) (x : Die) : (s.setDie i x).turnCtr = s.turnCtr := rfl
@[simp] theorem State.setDie_cur (s : State) (i : Nat) (x : Die) : (s.setDie i x).cur = s.cur := rfl
@[simp] theorem State.setDie_mem (s : State) (i : Nat) (x : Die) : (s.setDie i x).mem = s.mem := rfl
@[simp] theorem State.setDie_poison (s : State) (i : Nat) (x : Die) : (s.setDie i x).poison = s.poison := rfl
@[simp] theorem State.setDie_ctxs (s : State) (i : Nat) (x : Die) : (s.setDie i x).ctxs = s.ctxs := rfl
@[simp] theorem State.setDie_teams (s : State) (i : Nat) (x : Die) : (s.setDie i x).teams = s.teams := rfl
@[simp] theorem State.setDie_groups (s : State) (i : Nat) (x : Die) : (s.setDie i x).groups = s.groups := rfl
@[simp] theorem State.setDie_cores (s : State) (i : Nat) (x : Die) : (s.setDie i x).cores = s.cores := rfl
@[simp] theorem State.setDie_copies (s : State) (i : Nat) (x : Die) : (s.setDie i x).copies = s.copies := rfl
@[simp] theorem State.setDie_dir (s : State) (i : Nat) (x : Die) : (s.setDie i x).dir = s.dir := rfl
@[simp] theorem State.setDie_leases (s : State) (i : Nat) (x : Die) : (s.setDie i x).leases = s.leases := rfl
@[simp] theorem State.setDie_lastRel (s : State) (i : Nat) (x : Die) : (s.setDie i x).lastRel = s.lastRel := rfl
@[simp] theorem State.setDie_engines (s : State) (i : Nat) (x : Die) : (s.setDie i x).engines = s.engines := rfl
@[simp] theorem State.setDie_opSerial (s : State) (i : Nat) (x : Die) : (s.setDie i x).opSerial = s.opSerial := rfl
@[simp] theorem State.setDie_records (s : State) (i : Nat) (x : Die) : (s.setDie i x).records = s.records := rfl
@[simp] theorem State.setDie_launches (s : State) (i : Nat) (x : Die) : (s.setDie i x).launches = s.launches := rfl
@[simp] theorem State.setDie_nextLid (s : State) (i : Nat) (x : Die) : (s.setDie i x).nextLid = s.nextLid := rfl
@[simp] theorem State.setDie_gangs (s : State) (i : Nat) (x : Die) : (s.setDie i x).gangs = s.gangs := rfl
@[simp] theorem State.setDie_nextGang (s : State) (i : Nat) (x : Die) : (s.setDie i x).nextGang = s.nextGang := rfl
@[simp] theorem State.setDie_pewters (s : State) (i : Nat) (x : Die) : (s.setDie i x).pewters = s.pewters := rfl
@[simp] theorem State.setDie_sends (s : State) (i : Nat) (x : Die) : (s.setDie i x).sends = s.sends := rfl
@[simp] theorem State.setDie_tombacSeq (s : State) (i : Nat) (x : Die) : (s.setDie i x).tombacSeq = s.tombacSeq := rfl
@[simp] theorem State.setDie_iods (s : State) (i : Nat) (x : Die) : (s.setDie i x).iods = s.iods := rfl
@[simp] theorem State.setDie_ports (s : State) (i : Nat) (x : Die) : (s.setDie i x).ports = s.ports := rfl
@[simp] theorem State.setDie_links (s : State) (i : Nat) (x : Die) : (s.setDie i x).links = s.links := rfl
@[simp] theorem State.setDie_smify (s : State) (i : Nat) (x : Die) : (s.setDie i x).smify = s.smify := rfl
@[simp] theorem State.setDie_snapTick (s : State) (i : Nat) (x : Die) : (s.setDie i x).snapTick = s.snapTick := rfl
@[simp] theorem State.setDie_ctx (s : State) (i : Nat) (x : Die) (j : Nat) : (s.setDie i x).ctx j = s.ctx j := rfl
@[simp] theorem State.setDie_team (s : State) (i : Nat) (x : Die) (j : Nat) : (s.setDie i x).team j = s.team j := rfl
@[simp] theorem State.setDie_grp (s : State) (i : Nat) (x : Die) (j : Nat) : (s.setDie i x).grp j = s.grp j := rfl
@[simp] theorem State.setDie_core (s : State) (i : Nat) (x : Die) (j : Nat) : (s.setDie i x).core j = s.core j := rfl
@[simp] theorem State.setDie_die (s : State) (i : Nat) (x : Die) (j : Nat) : (s.setDie i x).die j = if j = i then x else s.die j := by
  simp only [State.die, State.setDie, kvGet_kvSet]
@[simp] theorem State.setDie_launch (s : State) (i : Nat) (x : Die) (j : Nat) : (s.setDie i x).launch j = s.launch j := rfl
@[simp] theorem State.setDie_engine (s : State) (i : Nat) (x : Die) (j : Nat) : (s.setDie i x).engine j = s.engine j := rfl
@[simp] theorem State.setDie_pewter (s : State) (i : Nat) (x : Die) (j : Nat) : (s.setDie i x).pewter j = s.pewter j := rfl
@[simp] theorem State.setDie_iod (s : State) (i : Nat) (x : Die) (j : Nat) : (s.setDie i x).iod j = s.iod j := rfl
@[simp] theorem State.setDie_now (s : State) (i : Nat) (x : Die) : (s.setDie i x).now = s.now := rfl
@[simp] theorem State.setDie_hasTeam (s : State) (i : Nat) (x : Die) (j : Nat) : (s.setDie i x).hasTeam j = s.hasTeam j := rfl

/-! ## setLaunch -/

@[simp] theorem State.setLaunch_clk (s : State) (i : Nat) (x : Launch) : (s.setLaunch i x).clk = s.clk := rfl
@[simp] theorem State.setLaunch_released (s : State) (i : Nat) (x : Launch) : (s.setLaunch i x).released = s.released := rfl
@[simp] theorem State.setLaunch_turns (s : State) (i : Nat) (x : Launch) : (s.setLaunch i x).turns = s.turns := rfl
@[simp] theorem State.setLaunch_freeCtr (s : State) (i : Nat) (x : Launch) : (s.setLaunch i x).freeCtr = s.freeCtr := rfl
@[simp] theorem State.setLaunch_turnCtr (s : State) (i : Nat) (x : Launch) : (s.setLaunch i x).turnCtr = s.turnCtr := rfl
@[simp] theorem State.setLaunch_cur (s : State) (i : Nat) (x : Launch) : (s.setLaunch i x).cur = s.cur := rfl
@[simp] theorem State.setLaunch_mem (s : State) (i : Nat) (x : Launch) : (s.setLaunch i x).mem = s.mem := rfl
@[simp] theorem State.setLaunch_poison (s : State) (i : Nat) (x : Launch) : (s.setLaunch i x).poison = s.poison := rfl
@[simp] theorem State.setLaunch_ctxs (s : State) (i : Nat) (x : Launch) : (s.setLaunch i x).ctxs = s.ctxs := rfl
@[simp] theorem State.setLaunch_teams (s : State) (i : Nat) (x : Launch) : (s.setLaunch i x).teams = s.teams := rfl
@[simp] theorem State.setLaunch_groups (s : State) (i : Nat) (x : Launch) : (s.setLaunch i x).groups = s.groups := rfl
@[simp] theorem State.setLaunch_cores (s : State) (i : Nat) (x : Launch) : (s.setLaunch i x).cores = s.cores := rfl
@[simp] theorem State.setLaunch_dies (s : State) (i : Nat) (x : Launch) : (s.setLaunch i x).dies = s.dies := rfl
@[simp] theorem State.setLaunch_copies (s : State) (i : Nat) (x : Launch) : (s.setLaunch i x).copies = s.copies := rfl
@[simp] theorem State.setLaunch_dir (s : State) (i : Nat) (x : Launch) : (s.setLaunch i x).dir = s.dir := rfl
@[simp] theorem State.setLaunch_leases (s : State) (i : Nat) (x : Launch) : (s.setLaunch i x).leases = s.leases := rfl
@[simp] theorem State.setLaunch_lastRel (s : State) (i : Nat) (x : Launch) : (s.setLaunch i x).lastRel = s.lastRel := rfl
@[simp] theorem State.setLaunch_engines (s : State) (i : Nat) (x : Launch) : (s.setLaunch i x).engines = s.engines := rfl
@[simp] theorem State.setLaunch_opSerial (s : State) (i : Nat) (x : Launch) : (s.setLaunch i x).opSerial = s.opSerial := rfl
@[simp] theorem State.setLaunch_records (s : State) (i : Nat) (x : Launch) : (s.setLaunch i x).records = s.records := rfl
@[simp] theorem State.setLaunch_nextLid (s : State) (i : Nat) (x : Launch) : (s.setLaunch i x).nextLid = s.nextLid := rfl
@[simp] theorem State.setLaunch_gangs (s : State) (i : Nat) (x : Launch) : (s.setLaunch i x).gangs = s.gangs := rfl
@[simp] theorem State.setLaunch_nextGang (s : State) (i : Nat) (x : Launch) : (s.setLaunch i x).nextGang = s.nextGang := rfl
@[simp] theorem State.setLaunch_pewters (s : State) (i : Nat) (x : Launch) : (s.setLaunch i x).pewters = s.pewters := rfl
@[simp] theorem State.setLaunch_sends (s : State) (i : Nat) (x : Launch) : (s.setLaunch i x).sends = s.sends := rfl
@[simp] theorem State.setLaunch_tombacSeq (s : State) (i : Nat) (x : Launch) : (s.setLaunch i x).tombacSeq = s.tombacSeq := rfl
@[simp] theorem State.setLaunch_iods (s : State) (i : Nat) (x : Launch) : (s.setLaunch i x).iods = s.iods := rfl
@[simp] theorem State.setLaunch_ports (s : State) (i : Nat) (x : Launch) : (s.setLaunch i x).ports = s.ports := rfl
@[simp] theorem State.setLaunch_links (s : State) (i : Nat) (x : Launch) : (s.setLaunch i x).links = s.links := rfl
@[simp] theorem State.setLaunch_smify (s : State) (i : Nat) (x : Launch) : (s.setLaunch i x).smify = s.smify := rfl
@[simp] theorem State.setLaunch_snapTick (s : State) (i : Nat) (x : Launch) : (s.setLaunch i x).snapTick = s.snapTick := rfl
@[simp] theorem State.setLaunch_ctx (s : State) (i : Nat) (x : Launch) (j : Nat) : (s.setLaunch i x).ctx j = s.ctx j := rfl
@[simp] theorem State.setLaunch_team (s : State) (i : Nat) (x : Launch) (j : Nat) : (s.setLaunch i x).team j = s.team j := rfl
@[simp] theorem State.setLaunch_grp (s : State) (i : Nat) (x : Launch) (j : Nat) : (s.setLaunch i x).grp j = s.grp j := rfl
@[simp] theorem State.setLaunch_core (s : State) (i : Nat) (x : Launch) (j : Nat) : (s.setLaunch i x).core j = s.core j := rfl
@[simp] theorem State.setLaunch_die (s : State) (i : Nat) (x : Launch) (j : Nat) : (s.setLaunch i x).die j = s.die j := rfl
@[simp] theorem State.setLaunch_launch (s : State) (i : Nat) (x : Launch) (j : Nat) : (s.setLaunch i x).launch j = if j = i then x else s.launch j := by
  simp only [State.launch, State.setLaunch, kvGet_kvSet]
@[simp] theorem State.setLaunch_engine (s : State) (i : Nat) (x : Launch) (j : Nat) : (s.setLaunch i x).engine j = s.engine j := rfl
@[simp] theorem State.setLaunch_pewter (s : State) (i : Nat) (x : Launch) (j : Nat) : (s.setLaunch i x).pewter j = s.pewter j := rfl
@[simp] theorem State.setLaunch_iod (s : State) (i : Nat) (x : Launch) (j : Nat) : (s.setLaunch i x).iod j = s.iod j := rfl
@[simp] theorem State.setLaunch_now (s : State) (i : Nat) (x : Launch) : (s.setLaunch i x).now = s.now := rfl
@[simp] theorem State.setLaunch_hasTeam (s : State) (i : Nat) (x : Launch) (j : Nat) : (s.setLaunch i x).hasTeam j = s.hasTeam j := rfl
@[simp] theorem State.setLaunch_byte (s : State) (i : Nat) (x : Launch) (j : Nat) : (s.setLaunch i x).byte j = s.byte j := rfl

/-! ## setEngine -/

@[simp] theorem State.setEngine_clk (s : State) (i : Nat) (x : List CopyOp) : (s.setEngine i x).clk = s.clk := rfl
@[simp] theorem State.setEngine_released (s : State) (i : Nat) (x : List CopyOp) : (s.setEngine i x).released = s.released := rfl
@[simp] theorem State.setEngine_turns (s : State) (i : Nat) (x : List CopyOp) : (s.setEngine i x).turns = s.turns := rfl
@[simp] theorem State.setEngine_freeCtr (s : State) (i : Nat) (x : List CopyOp) : (s.setEngine i x).freeCtr = s.freeCtr := rfl
@[simp] theorem State.setEngine_turnCtr (s : State) (i : Nat) (x : List CopyOp) : (s.setEngine i x).turnCtr = s.turnCtr := rfl
@[simp] theorem State.setEngine_cur (s : State) (i : Nat) (x : List CopyOp) : (s.setEngine i x).cur = s.cur := rfl
@[simp] theorem State.setEngine_mem (s : State) (i : Nat) (x : List CopyOp) : (s.setEngine i x).mem = s.mem := rfl
@[simp] theorem State.setEngine_poison (s : State) (i : Nat) (x : List CopyOp) : (s.setEngine i x).poison = s.poison := rfl
@[simp] theorem State.setEngine_ctxs (s : State) (i : Nat) (x : List CopyOp) : (s.setEngine i x).ctxs = s.ctxs := rfl
@[simp] theorem State.setEngine_teams (s : State) (i : Nat) (x : List CopyOp) : (s.setEngine i x).teams = s.teams := rfl
@[simp] theorem State.setEngine_groups (s : State) (i : Nat) (x : List CopyOp) : (s.setEngine i x).groups = s.groups := rfl
@[simp] theorem State.setEngine_cores (s : State) (i : Nat) (x : List CopyOp) : (s.setEngine i x).cores = s.cores := rfl
@[simp] theorem State.setEngine_dies (s : State) (i : Nat) (x : List CopyOp) : (s.setEngine i x).dies = s.dies := rfl
@[simp] theorem State.setEngine_copies (s : State) (i : Nat) (x : List CopyOp) : (s.setEngine i x).copies = s.copies := rfl
@[simp] theorem State.setEngine_dir (s : State) (i : Nat) (x : List CopyOp) : (s.setEngine i x).dir = s.dir := rfl
@[simp] theorem State.setEngine_leases (s : State) (i : Nat) (x : List CopyOp) : (s.setEngine i x).leases = s.leases := rfl
@[simp] theorem State.setEngine_lastRel (s : State) (i : Nat) (x : List CopyOp) : (s.setEngine i x).lastRel = s.lastRel := rfl
@[simp] theorem State.setEngine_opSerial (s : State) (i : Nat) (x : List CopyOp) : (s.setEngine i x).opSerial = s.opSerial := rfl
@[simp] theorem State.setEngine_records (s : State) (i : Nat) (x : List CopyOp) : (s.setEngine i x).records = s.records := rfl
@[simp] theorem State.setEngine_launches (s : State) (i : Nat) (x : List CopyOp) : (s.setEngine i x).launches = s.launches := rfl
@[simp] theorem State.setEngine_nextLid (s : State) (i : Nat) (x : List CopyOp) : (s.setEngine i x).nextLid = s.nextLid := rfl
@[simp] theorem State.setEngine_gangs (s : State) (i : Nat) (x : List CopyOp) : (s.setEngine i x).gangs = s.gangs := rfl
@[simp] theorem State.setEngine_nextGang (s : State) (i : Nat) (x : List CopyOp) : (s.setEngine i x).nextGang = s.nextGang := rfl
@[simp] theorem State.setEngine_pewters (s : State) (i : Nat) (x : List CopyOp) : (s.setEngine i x).pewters = s.pewters := rfl
@[simp] theorem State.setEngine_sends (s : State) (i : Nat) (x : List CopyOp) : (s.setEngine i x).sends = s.sends := rfl
@[simp] theorem State.setEngine_tombacSeq (s : State) (i : Nat) (x : List CopyOp) : (s.setEngine i x).tombacSeq = s.tombacSeq := rfl
@[simp] theorem State.setEngine_iods (s : State) (i : Nat) (x : List CopyOp) : (s.setEngine i x).iods = s.iods := rfl
@[simp] theorem State.setEngine_ports (s : State) (i : Nat) (x : List CopyOp) : (s.setEngine i x).ports = s.ports := rfl
@[simp] theorem State.setEngine_links (s : State) (i : Nat) (x : List CopyOp) : (s.setEngine i x).links = s.links := rfl
@[simp] theorem State.setEngine_smify (s : State) (i : Nat) (x : List CopyOp) : (s.setEngine i x).smify = s.smify := rfl
@[simp] theorem State.setEngine_snapTick (s : State) (i : Nat) (x : List CopyOp) : (s.setEngine i x).snapTick = s.snapTick := rfl
@[simp] theorem State.setEngine_ctx (s : State) (i : Nat) (x : List CopyOp) (j : Nat) : (s.setEngine i x).ctx j = s.ctx j := rfl
@[simp] theorem State.setEngine_team (s : State) (i : Nat) (x : List CopyOp) (j : Nat) : (s.setEngine i x).team j = s.team j := rfl
@[simp] theorem State.setEngine_grp (s : State) (i : Nat) (x : List CopyOp) (j : Nat) : (s.setEngine i x).grp j = s.grp j := rfl
@[simp] theorem State.setEngine_core (s : State) (i : Nat) (x : List CopyOp) (j : Nat) : (s.setEngine i x).core j = s.core j := rfl
@[simp] theorem State.setEngine_die (s : State) (i : Nat) (x : List CopyOp) (j : Nat) : (s.setEngine i x).die j = s.die j := rfl
@[simp] theorem State.setEngine_launch (s : State) (i : Nat) (x : List CopyOp) (j : Nat) : (s.setEngine i x).launch j = s.launch j := rfl
@[simp] theorem State.setEngine_engine (s : State) (i : Nat) (x : List CopyOp) (j : Nat) : (s.setEngine i x).engine j = if j = i then x else s.engine j := by
  simp only [State.engine, State.setEngine, kvGet_kvSet]
@[simp] theorem State.setEngine_pewter (s : State) (i : Nat) (x : List CopyOp) (j : Nat) : (s.setEngine i x).pewter j = s.pewter j := rfl
@[simp] theorem State.setEngine_iod (s : State) (i : Nat) (x : List CopyOp) (j : Nat) : (s.setEngine i x).iod j = s.iod j := rfl
@[simp] theorem State.setEngine_now (s : State) (i : Nat) (x : List CopyOp) : (s.setEngine i x).now = s.now := rfl
@[simp] theorem State.setEngine_hasTeam (s : State) (i : Nat) (x : List CopyOp) (j : Nat) : (s.setEngine i x).hasTeam j = s.hasTeam j := rfl
@[simp] theorem State.setEngine_byte (s : State) (i : Nat) (x : List CopyOp) (j : Nat) : (s.setEngine i x).byte j = s.byte j := rfl

/-! ## updPewter -/

@[simp] theorem State.updPewter_clk (s : State) (i : Nat) (f : Pewter → Pewter) : (s.updPewter i f).clk = s.clk := rfl
@[simp] theorem State.updPewter_released (s : State) (i : Nat) (f : Pewter → Pewter) : (s.updPewter i f).released = s.released := rfl
@[simp] theorem State.updPewter_turns (s : State) (i : Nat) (f : Pewter → Pewter) : (s.updPewter i f).turns = s.turns := rfl
@[simp] theorem State.updPewter_freeCtr (s : State) (i : Nat) (f : Pewter → Pewter) : (s.updPewter i f).freeCtr = s.freeCtr := rfl
@[simp] theorem State.updPewter_turnCtr (s : State) (i : Nat) (f : Pewter → Pewter) : (s.updPewter i f).turnCtr = s.turnCtr := rfl
@[simp] theorem State.updPewter_cur (s : State) (i : Nat) (f : Pewter → Pewter) : (s.updPewter i f).cur = s.cur := rfl
@[simp] theorem State.updPewter_mem (s : State) (i : Nat) (f : Pewter → Pewter) : (s.updPewter i f).mem = s.mem := rfl
@[simp] theorem State.updPewter_poison (s : State) (i : Nat) (f : Pewter → Pewter) : (s.updPewter i f).poison = s.poison := rfl
@[simp] theorem State.updPewter_ctxs (s : State) (i : Nat) (f : Pewter → Pewter) : (s.updPewter i f).ctxs = s.ctxs := rfl
@[simp] theorem State.updPewter_teams (s : State) (i : Nat) (f : Pewter → Pewter) : (s.updPewter i f).teams = s.teams := rfl
@[simp] theorem State.updPewter_groups (s : State) (i : Nat) (f : Pewter → Pewter) : (s.updPewter i f).groups = s.groups := rfl
@[simp] theorem State.updPewter_cores (s : State) (i : Nat) (f : Pewter → Pewter) : (s.updPewter i f).cores = s.cores := rfl
@[simp] theorem State.updPewter_dies (s : State) (i : Nat) (f : Pewter → Pewter) : (s.updPewter i f).dies = s.dies := rfl
@[simp] theorem State.updPewter_copies (s : State) (i : Nat) (f : Pewter → Pewter) : (s.updPewter i f).copies = s.copies := rfl
@[simp] theorem State.updPewter_dir (s : State) (i : Nat) (f : Pewter → Pewter) : (s.updPewter i f).dir = s.dir := rfl
@[simp] theorem State.updPewter_leases (s : State) (i : Nat) (f : Pewter → Pewter) : (s.updPewter i f).leases = s.leases := rfl
@[simp] theorem State.updPewter_lastRel (s : State) (i : Nat) (f : Pewter → Pewter) : (s.updPewter i f).lastRel = s.lastRel := rfl
@[simp] theorem State.updPewter_engines (s : State) (i : Nat) (f : Pewter → Pewter) : (s.updPewter i f).engines = s.engines := rfl
@[simp] theorem State.updPewter_opSerial (s : State) (i : Nat) (f : Pewter → Pewter) : (s.updPewter i f).opSerial = s.opSerial := rfl
@[simp] theorem State.updPewter_records (s : State) (i : Nat) (f : Pewter → Pewter) : (s.updPewter i f).records = s.records := rfl
@[simp] theorem State.updPewter_launches (s : State) (i : Nat) (f : Pewter → Pewter) : (s.updPewter i f).launches = s.launches := rfl
@[simp] theorem State.updPewter_nextLid (s : State) (i : Nat) (f : Pewter → Pewter) : (s.updPewter i f).nextLid = s.nextLid := rfl
@[simp] theorem State.updPewter_gangs (s : State) (i : Nat) (f : Pewter → Pewter) : (s.updPewter i f).gangs = s.gangs := rfl
@[simp] theorem State.updPewter_nextGang (s : State) (i : Nat) (f : Pewter → Pewter) : (s.updPewter i f).nextGang = s.nextGang := rfl
@[simp] theorem State.updPewter_sends (s : State) (i : Nat) (f : Pewter → Pewter) : (s.updPewter i f).sends = s.sends := rfl
@[simp] theorem State.updPewter_tombacSeq (s : State) (i : Nat) (f : Pewter → Pewter) : (s.updPewter i f).tombacSeq = s.tombacSeq := rfl
@[simp] theorem State.updPewter_iods (s : State) (i : Nat) (f : Pewter → Pewter) : (s.updPewter i f).iods = s.iods := rfl
@[simp] theorem State.updPewter_ports (s : State) (i : Nat) (f : Pewter → Pewter) : (s.updPewter i f).ports = s.ports := rfl
@[simp] theorem State.updPewter_links (s : State) (i : Nat) (f : Pewter → Pewter) : (s.updPewter i f).links = s.links := rfl
@[simp] theorem State.updPewter_smify (s : State) (i : Nat) (f : Pewter → Pewter) : (s.updPewter i f).smify = s.smify := rfl
@[simp] theorem State.updPewter_snapTick (s : State) (i : Nat) (f : Pewter → Pewter) : (s.updPewter i f).snapTick = s.snapTick := rfl
@[simp] theorem State.updPewter_ctx (s : State) (i : Nat) (f : Pewter → Pewter) (j : Nat) : (s.updPewter i f).ctx j = s.ctx j := rfl
@[simp] theorem State.updPewter_team (s : State) (i : Nat) (f : Pewter → Pewter) (j : Nat) : (s.updPewter i f).team j = s.team j := rfl
@[simp] theorem State.updPewter_grp (s : State) (i : Nat) (f : Pewter → Pewter) (j : Nat) : (s.updPewter i f).grp j = s.grp j := rfl
@[simp] theorem State.updPewter_core (s : State) (i : Nat) (f : Pewter → Pewter) (j : Nat) : (s.updPewter i f).core j = s.core j := rfl
@[simp] theorem State.updPewter_die (s : State) (i : Nat) (f : Pewter → Pewter) (j : Nat) : (s.updPewter i f).die j = s.die j := rfl
@[simp] theorem State.updPewter_launch (s : State) (i : Nat) (f : Pewter → Pewter) (j : Nat) : (s.updPewter i f).launch j = s.launch j := rfl
@[simp] theorem State.updPewter_engine (s : State) (i : Nat) (f : Pewter → Pewter) (j : Nat) : (s.updPewter i f).engine j = s.engine j := rfl
@[simp] theorem State.updPewter_pewter (s : State) (i : Nat) (f : Pewter → Pewter) (j : Nat) :
    (s.updPewter i f).pewter j = if j = i then f (s.pewter i) else s.pewter j := by
  simp only [State.pewter, State.updPewter, kvGet_kvSet]
@[simp] theorem State.updPewter_iod (s : State) (i : Nat) (f : Pewter → Pewter) (j : Nat) : (s.updPewter i f).iod j = s.iod j := rfl
@[simp] theorem State.updPewter_now (s : State) (i : Nat) (f : Pewter → Pewter) : (s.updPewter i f).now = s.now := rfl
@[simp] theorem State.updPewter_hasTeam (s : State) (i : Nat) (f : Pewter → Pewter) (j : Nat) : (s.updPewter i f).hasTeam j = s.hasTeam j := rfl
@[simp] theorem State.updPewter_byte (s : State) (i : Nat) (f : Pewter → Pewter) (j : Nat) : (s.updPewter i f).byte j = s.byte j := rfl

/-! ## updIod -/

@[simp] theorem State.updIod_clk (s : State) (i : Nat) (f : Iod → Iod) : (s.updIod i f).clk = s.clk := rfl
@[simp] theorem State.updIod_released (s : State) (i : Nat) (f : Iod → Iod) : (s.updIod i f).released = s.released := rfl
@[simp] theorem State.updIod_turns (s : State) (i : Nat) (f : Iod → Iod) : (s.updIod i f).turns = s.turns := rfl
@[simp] theorem State.updIod_freeCtr (s : State) (i : Nat) (f : Iod → Iod) : (s.updIod i f).freeCtr = s.freeCtr := rfl
@[simp] theorem State.updIod_turnCtr (s : State) (i : Nat) (f : Iod → Iod) : (s.updIod i f).turnCtr = s.turnCtr := rfl
@[simp] theorem State.updIod_cur (s : State) (i : Nat) (f : Iod → Iod) : (s.updIod i f).cur = s.cur := rfl
@[simp] theorem State.updIod_mem (s : State) (i : Nat) (f : Iod → Iod) : (s.updIod i f).mem = s.mem := rfl
@[simp] theorem State.updIod_poison (s : State) (i : Nat) (f : Iod → Iod) : (s.updIod i f).poison = s.poison := rfl
@[simp] theorem State.updIod_ctxs (s : State) (i : Nat) (f : Iod → Iod) : (s.updIod i f).ctxs = s.ctxs := rfl
@[simp] theorem State.updIod_teams (s : State) (i : Nat) (f : Iod → Iod) : (s.updIod i f).teams = s.teams := rfl
@[simp] theorem State.updIod_groups (s : State) (i : Nat) (f : Iod → Iod) : (s.updIod i f).groups = s.groups := rfl
@[simp] theorem State.updIod_cores (s : State) (i : Nat) (f : Iod → Iod) : (s.updIod i f).cores = s.cores := rfl
@[simp] theorem State.updIod_dies (s : State) (i : Nat) (f : Iod → Iod) : (s.updIod i f).dies = s.dies := rfl
@[simp] theorem State.updIod_copies (s : State) (i : Nat) (f : Iod → Iod) : (s.updIod i f).copies = s.copies := rfl
@[simp] theorem State.updIod_dir (s : State) (i : Nat) (f : Iod → Iod) : (s.updIod i f).dir = s.dir := rfl
@[simp] theorem State.updIod_leases (s : State) (i : Nat) (f : Iod → Iod) : (s.updIod i f).leases = s.leases := rfl
@[simp] theorem State.updIod_lastRel (s : State) (i : Nat) (f : Iod → Iod) : (s.updIod i f).lastRel = s.lastRel := rfl
@[simp] theorem State.updIod_engines (s : State) (i : Nat) (f : Iod → Iod) : (s.updIod i f).engines = s.engines := rfl
@[simp] theorem State.updIod_opSerial (s : State) (i : Nat) (f : Iod → Iod) : (s.updIod i f).opSerial = s.opSerial := rfl
@[simp] theorem State.updIod_records (s : State) (i : Nat) (f : Iod → Iod) : (s.updIod i f).records = s.records := rfl
@[simp] theorem State.updIod_launches (s : State) (i : Nat) (f : Iod → Iod) : (s.updIod i f).launches = s.launches := rfl
@[simp] theorem State.updIod_nextLid (s : State) (i : Nat) (f : Iod → Iod) : (s.updIod i f).nextLid = s.nextLid := rfl
@[simp] theorem State.updIod_gangs (s : State) (i : Nat) (f : Iod → Iod) : (s.updIod i f).gangs = s.gangs := rfl
@[simp] theorem State.updIod_nextGang (s : State) (i : Nat) (f : Iod → Iod) : (s.updIod i f).nextGang = s.nextGang := rfl
@[simp] theorem State.updIod_pewters (s : State) (i : Nat) (f : Iod → Iod) : (s.updIod i f).pewters = s.pewters := rfl
@[simp] theorem State.updIod_sends (s : State) (i : Nat) (f : Iod → Iod) : (s.updIod i f).sends = s.sends := rfl
@[simp] theorem State.updIod_tombacSeq (s : State) (i : Nat) (f : Iod → Iod) : (s.updIod i f).tombacSeq = s.tombacSeq := rfl
@[simp] theorem State.updIod_ports (s : State) (i : Nat) (f : Iod → Iod) : (s.updIod i f).ports = s.ports := rfl
@[simp] theorem State.updIod_links (s : State) (i : Nat) (f : Iod → Iod) : (s.updIod i f).links = s.links := rfl
@[simp] theorem State.updIod_smify (s : State) (i : Nat) (f : Iod → Iod) : (s.updIod i f).smify = s.smify := rfl
@[simp] theorem State.updIod_snapTick (s : State) (i : Nat) (f : Iod → Iod) : (s.updIod i f).snapTick = s.snapTick := rfl
@[simp] theorem State.updIod_ctx (s : State) (i : Nat) (f : Iod → Iod) (j : Nat) : (s.updIod i f).ctx j = s.ctx j := rfl
@[simp] theorem State.updIod_team (s : State) (i : Nat) (f : Iod → Iod) (j : Nat) : (s.updIod i f).team j = s.team j := rfl
@[simp] theorem State.updIod_grp (s : State) (i : Nat) (f : Iod → Iod) (j : Nat) : (s.updIod i f).grp j = s.grp j := rfl
@[simp] theorem State.updIod_core (s : State) (i : Nat) (f : Iod → Iod) (j : Nat) : (s.updIod i f).core j = s.core j := rfl
@[simp] theorem State.updIod_die (s : State) (i : Nat) (f : Iod → Iod) (j : Nat) : (s.updIod i f).die j = s.die j := rfl
@[simp] theorem State.updIod_launch (s : State) (i : Nat) (f : Iod → Iod) (j : Nat) : (s.updIod i f).launch j = s.launch j := rfl
@[simp] theorem State.updIod_engine (s : State) (i : Nat) (f : Iod → Iod) (j : Nat) : (s.updIod i f).engine j = s.engine j := rfl
@[simp] theorem State.updIod_pewter (s : State) (i : Nat) (f : Iod → Iod) (j : Nat) : (s.updIod i f).pewter j = s.pewter j := rfl
@[simp] theorem State.updIod_iod (s : State) (i : Nat) (f : Iod → Iod) (j : Nat) :
    (s.updIod i f).iod j = if j = i then f (s.iod i) else s.iod j := by
  simp only [State.iod, State.updIod, kvGet_kvSet]
@[simp] theorem State.updIod_now (s : State) (i : Nat) (f : Iod → Iod) : (s.updIod i f).now = s.now := rfl
@[simp] theorem State.updIod_hasTeam (s : State) (i : Nat) (f : Iod → Iod) (j : Nat) : (s.updIod i f).hasTeam j = s.hasTeam j := rfl
@[simp] theorem State.updIod_byte (s : State) (i : Nat) (f : Iod → Iod) (j : Nat) : (s.updIod i f).byte j = s.byte j := rfl

/-! ## used -/

@[simp] theorem State.used_clk (s : State) : s.used.clk = s.clk := rfl
@[simp] theorem State.used_released (s : State) : s.used.released = s.released := rfl
@[simp] theorem State.used_turns (s : State) : s.used.turns = s.turns := rfl
@[simp] theorem State.used_turnCtr (s : State) : s.used.turnCtr = s.turnCtr := rfl
@[simp] theorem State.used_cur (s : State) : s.used.cur = s.cur := rfl
@[simp] theorem State.used_mem (s : State) : s.used.mem = s.mem := rfl
@[simp] theorem State.used_poison (s : State) : s.used.poison = s.poison := rfl
@[simp] theorem State.used_ctxs (s : State) : s.used.ctxs = s.ctxs := rfl
@[simp] theorem State.used_teams (s : State) : s.used.teams = s.teams := rfl
@[simp] theorem State.used_groups (s : State) : s.used.groups = s.groups := rfl
@[simp] theorem State.used_cores (s : State) : s.used.cores = s.cores := rfl
@[simp] theorem State.used_dies (s : State) : s.used.dies = s.dies := rfl
@[simp] theorem State.used_copies (s : State) : s.used.copies = s.copies := rfl
@[simp] theorem State.used_dir (s : State) : s.used.dir = s.dir := rfl
@[simp] theorem State.used_leases (s : State) : s.used.leases = s.leases := rfl
@[simp] theorem State.used_lastRel (s : State) : s.used.lastRel = s.lastRel := rfl
@[simp] theorem State.used_engines (s : State) : s.used.engines = s.engines := rfl
@[simp] theorem State.used_opSerial (s : State) : s.used.opSerial = s.opSerial := rfl
@[simp] theorem State.used_records (s : State) : s.used.records = s.records := rfl
@[simp] theorem State.used_launches (s : State) : s.used.launches = s.launches := rfl
@[simp] theorem State.used_nextLid (s : State) : s.used.nextLid = s.nextLid := rfl
@[simp] theorem State.used_gangs (s : State) : s.used.gangs = s.gangs := rfl
@[simp] theorem State.used_nextGang (s : State) : s.used.nextGang = s.nextGang := rfl
@[simp] theorem State.used_pewters (s : State) : s.used.pewters = s.pewters := rfl
@[simp] theorem State.used_sends (s : State) : s.used.sends = s.sends := rfl
@[simp] theorem State.used_tombacSeq (s : State) : s.used.tombacSeq = s.tombacSeq := rfl
@[simp] theorem State.used_iods (s : State) : s.used.iods = s.iods := rfl
@[simp] theorem State.used_ports (s : State) : s.used.ports = s.ports := rfl
@[simp] theorem State.used_links (s : State) : s.used.links = s.links := rfl
@[simp] theorem State.used_smify (s : State) : s.used.smify = s.smify := rfl
@[simp] theorem State.used_snapTick (s : State) : s.used.snapTick = s.snapTick := rfl
@[simp] theorem State.used_ctx (s : State) (j : Nat) : s.used.ctx j = s.ctx j := rfl
@[simp] theorem State.used_team (s : State) (j : Nat) : s.used.team j = s.team j := rfl
@[simp] theorem State.used_grp (s : State) (j : Nat) : s.used.grp j = s.grp j := rfl
@[simp] theorem State.used_core (s : State) (j : Nat) : s.used.core j = s.core j := rfl
@[simp] theorem State.used_die (s : State) (j : Nat) : s.used.die j = s.die j := rfl
@[simp] theorem State.used_launch (s : State) (j : Nat) : s.used.launch j = s.launch j := rfl
@[simp] theorem State.used_engine (s : State) (j : Nat) : s.used.engine j = s.engine j := rfl
@[simp] theorem State.used_pewter (s : State) (j : Nat) : s.used.pewter j = s.pewter j := rfl
@[simp] theorem State.used_iod (s : State) (j : Nat) : s.used.iod j = s.iod j := rfl
@[simp] theorem State.used_now (s : State) : s.used.now = s.now := rfl
@[simp] theorem State.used_hasTeam (s : State) (j : Nat) : s.used.hasTeam j = s.hasTeam j := rfl
@[simp] theorem State.used_byte (s : State) (j : Nat) : s.used.byte j = s.byte j := rfl

/-! ## Setting twice -/

theorem kvSet_kvSet {α : Type} (l : KV α) (k : Nat) (x y : α) : kvSet (kvSet l k x) k y = kvSet l k y := by
  induction l with
  | nil => simp [kvSet]
  | cons e t ih =>
    obtain ⟨j, v⟩ := e
    by_cases h : k = j
    · simp [kvSet, h]
    · by_cases g : k < j
      · simp [kvSet, h, g]
      · simp [kvSet, h, g, ih]

@[simp] theorem State.setCtx_setCtx (s : State) (i : Nat) (x y : Ctx) : (s.setCtx i x).setCtx i y = s.setCtx i y := by
  simp only [State.setCtx, kvSet_kvSet]
@[simp] theorem State.setTeam_setTeam (s : State) (i : Nat) (x y : Team) : (s.setTeam i x).setTeam i y = s.setTeam i y := by
  simp only [State.setTeam, kvSet_kvSet]
@[simp] theorem State.setGrp_setGrp (s : State) (i : Nat) (x y : Group) : (s.setGrp i x).setGrp i y = s.setGrp i y := by
  simp only [State.setGrp, kvSet_kvSet]
@[simp] theorem State.setCore_setCore (s : State) (i : Nat) (x y : Core) : (s.setCore i x).setCore i y = s.setCore i y := by
  simp only [State.setCore, kvSet_kvSet]

end Sys2Proof.Machine
end

