-- ==== Sys2Proof/Laws/Gen.lean ====
section
/-! SUPPORT. Laws/Gen.lean: what the shared operations of G-words do: registers of a context, the word at turn, the stall on
a token, a new register value, a new condition bit, a branch. -/

namespace Sys2Proof.Machine

/-! ## Registers of a context (R29) -/

@[simp] theorem Ctx.get_zero (c : Ctx) : c.get 0 = 0 := rfl

/-- A write of a scalar register, read back. -/
theorem Ctx.get_put (c : Ctx) (r q : BitVec 6) (x : W64) :
    (c.put r x).get q = if q = r ∧ q ≠ 0 then x else c.get q := by
  unfold Ctx.put Ctx.get
  by_cases h : r = 0
  · rw [if_pos h]
    by_cases g : q = 0
    · simp [g]
    · rw [if_neg g, if_neg (fun k => g (k.1.trans h))]
  · rw [if_neg h]
    by_cases g : q = 0
    · simp [g]
    · rw [if_neg g, spGet_spSet]
      by_cases e : q = r
      · simp_all
      · have : q.toNat ≠ r.toNat := fun k => e (BitVec.eq_of_toNat_eq k)
        simp_all

/-- A write of a scalar register changes no other part of the context. -/
theorem Ctx.put_frame (c : Ctx) (r : BitVec 6) (x : W64) : c.put r x = { c with s := (c.put r x).s } := by
  unfold Ctx.put; split <;> rfl

/-- A write of a condition bit, read back. -/
theorem Ctx.cond_setCond (c : Ctx) (n k : BitVec 3) (b : Bool) :
    (c.setCond n b).cond k = if k = n then b else c.cond k := by
  unfold Ctx.setCond Ctx.cond
  have hn := n.isLt
  have hk := k.isLt
  by_cases e : k = n
  · subst e
    cases b <;> simp [hk]
  · have : k.toNat ≠ n.toNat := fun h => e (BitVec.eq_of_toNat_eq h)
    have : ¬ (k.toNat < n.toNat) → k.toNat - n.toNat ≠ 0 := by omega
    cases b <;> by_cases g : k.toNat < n.toNat <;> simp [e, g, hk, this]

/-- A write of a condition bit changes no other part of the context. -/
theorem Ctx.setCond_frame (c : Ctx) (n : BitVec 3) (b : Bool) : c.setCond n b = { c with c := (c.setCond n b).c } := rfl

@[simp] theorem Ctx.get_done (c : Ctx) (r : BitVec 6) : c.done.get r = c.get r := rfl
@[simp] theorem Ctx.cond_done (c : Ctx) (n : BitVec 3) : c.done.cond n = c.cond n := rfl
@[simp] theorem Ctx.get_jump (c : Ctx) (t : BitVec 48) (r : BitVec 6) : (c.jump t).get r = c.get r := rfl
@[simp] theorem Ctx.cond_jump (c : Ctx) (t : BitVec 48) (n : BitVec 3) : (c.jump t).cond n = c.cond n := rfl
@[simp] theorem Ctx.get_setCond (c : Ctx) (n : BitVec 3) (b : Bool) (r : BitVec 6) : (c.setCond n b).get r = c.get r := rfl
@[simp] theorem Ctx.cond_put (c : Ctx) (r : BitVec 6) (x : W64) (n : BitVec 3) : (c.put r x).cond n = c.cond n := by
  rw [Ctx.put_frame]; rfl

/-! ## The word at turn -/

/-- With no token pending, a G-word acts on its context. -/
theorem gWord_turn {s : State} {id : Nat} {w : W32} {use : List (BitVec 6)} (h : GTurn s id w use)
    (k : Nat → W32 → Ctx → State) : gWord use s k = .next (k id w (s.ctx id)) := by
  obtain ⟨h1, h2⟩ := h
  have : use.any (s.ctx id).token = false := by simpa using h2
  simp [gWord, h1, this]

/-- With a token pending on a register that it uses, a G-word stalls. -/
theorem gWord_stall {s : State} {id : Nat} {w : W32} {use : List (BitVec 6)} (hc : s.cur = .gen id w) {r : BitVec 6}
    (hr : r ∈ use) (ht : (s.ctx id).token r = true) (k : Nat → W32 → Ctx → State) :
    gWord use s k = .next (s.setCtx id { s.ctx id with wait := .token }) := by
  have : use.any (s.ctx id).token = true := List.any_eq_true.mpr ⟨r, hr, ht⟩
  simp [gWord, hc, this]

/-- A context that takes a value is all that changes. -/
theorem setCtx_only (s : State) (id : Nat) (c : Ctx) : OnlyCtx s (s.setCtx id c) id :=
  ⟨rfl, fun j hj => by simp [hj], fun _ => rfl⟩

/-- A context's new value with a written register and pc advanced. -/
theorem setsReg_put (s : State) (id : Nat) (d : BitVec 6) (x : W64) :
    SetsReg s (s.setCtx id (((s.ctx id).put d x).done)) id d x := by
  refine ⟨setCtx_only _ _ _, ?_, ?_, fun r => ?_⟩
  · simp only [State.setCtx_ctx, ↓reduceIte, Advanced, Ctx.done]; rw [Ctx.put_frame]
  · simp only [State.setCtx_ctx, ↓reduceIte, Ctx.done]; rw [Ctx.put_frame]
  · simpa only [State.setCtx_ctx, ↓reduceIte, Ctx.get_done] using Ctx.get_put (s.ctx id) d r x

/-- The word whose one effect is a register's value. -/
theorem gSet_sets {s : State} {id : Nat} {w : W32} {d : BitVec 6} {use : List (BitVec 6)} {f : Ctx → W64} {x : W64}
    (h : GTurn s id w (d :: use)) (hx : f (s.ctx id) = x) : ∃ t, gSet d use f s = .next t ∧ SetsReg s t id d x :=
  ⟨_, gWord_turn h _, hx ▸ setsReg_put s id d _⟩

/-- The word whose one effect is a condition bit. -/
theorem gSetC_sets {s : State} {id : Nat} {w : W32} {n : BitVec 3} {use : List (BitVec 6)} {f : Ctx → Bool} {b : Bool}
    (h : GTurn s id w use) (hb : f (s.ctx id) = b) : ∃ t, gSetC n use f s = .next t ∧ SetsCond s t id n b := by
  subst hb
  refine ⟨_, gWord_turn h _, setCtx_only _ _ _, ?_, ?_, fun k => ?_⟩
  · simp [Advanced, Ctx.done, Ctx.setCond]
  · simp [Ctx.done, Ctx.setCond]
  · simpa using Ctx.cond_setCond (s.ctx id) n k _

/-- A context that goes on with pc advanced by 4 and nothing else. -/
theorem setsNothing_done (s : State) (id : Nat) : SetsNothing s (s.setCtx id (s.ctx id).done) id :=
  ⟨setCtx_only _ _ _, by simp [Advanced, Ctx.done], by simp [Ctx.done], by simp [Ctx.done]⟩

/-- A context that stalls. -/
theorem gStall_stalls (s : State) (id : Nat) (x : Wait) : Stalls s (gStall s id x) id x :=
  ⟨setCtx_only _ _ _, by simp [gStall]⟩

end Sys2Proof.Machine
end

