-- ==== Sys2Proof/Laws/Mem.lean ====
section
/-! SUPPORT. Laws/Mem.lean: reading changes nothing that software sees: translation, acquires, cached reads and loads. -/

namespace Sys2Proof.Machine

theorem Unseen.refl (s : State) : Unseen s s := ⟨rfl, fun _ => rfl, fun _ => rfl⟩

theorem Unseen.trans {s t u : State} (h : Unseen s t) (g : Unseen t u) : Unseen s u := by
  obtain ⟨h1, h2, h3⟩ := h
  obtain ⟨g1, g2, g3⟩ := g
  refine ⟨?_, fun c => ?_, fun d => ?_⟩
  · rw [g1, h1]
  · rw [g2, h2]
  · rw [g3, h3]

/-- Memory reads as before. -/
theorem Unseen.same {s t : State} (h : Unseen s t) : SameBytes s t := by
  intro a
  obtain ⟨h1, _, h3⟩ := h
  have m : t.mem = s.mem := by rw [h1]
  have p : t.populated a = s.populated a := by
    unfold State.populated
    split
    · rw [h3]
    · rfl
  unfold State.byte
  rw [p, m]

theorem Unseen.used (s : State) : Unseen s s.used := ⟨rfl, fun _ => rfl, fun _ => rfl⟩

theorem Unseen.free (s : State) (n : Nat) : Unseen s { s with freeCtr := n } := ⟨rfl, fun _ => rfl, fun _ => rfl⟩

theorem Unseen.copies (s : State) (l : List Copy) : Unseen s { s with copies := l } := ⟨rfl, fun _ => rfl, fun _ => rfl⟩

theorem Unseen.dir (s : State) (l : KV DirEntry) : Unseen s { s with dir := l } := ⟨rfl, fun _ => rfl, fun _ => rfl⟩

theorem Unseen.errs (s : State) (l : KV Nat) : Unseen s { s with errs := l } := ⟨rfl, fun _ => rfl, fun _ => rfl⟩

theorem Unseen.poisonSector (s : State) (a : Nat) : Unseen s (s.poisonSector a) := by
  unfold State.poisonSector
  split
  · exact ⟨rfl, fun _ => rfl, fun _ => rfl⟩
  · exact .refl _

theorem Unseen.tally (s : State) (k : Nat) : Unseen s (s.tally k) := ⟨rfl, fun _ => rfl, fun _ => rfl⟩

theorem Unseen.trigger (s : State) : Unseen s s.trigger := by
  unfold State.trigger
  split
  · split
    · exact .refl _
    · exact ⟨rfl, fun _ => rfl, fun _ => rfl⟩
  · exact .refl _

/-- A core whose translations and counters alone have changed. -/
theorem Unseen.core (s : State) (c : Nat) (k : Core)
    (h : k = { s.core c with tlb := k.tlb, pmc := k.pmc, pms := k.pms }) : Unseen s (s.setCore c k) := by
  refine ⟨rfl, fun j => ?_, fun _ => rfl⟩
  by_cases e : j = c
  · subst e; simpa using h
  · simp [e]

/-- A die whose translations and counters alone have changed. -/
theorem Unseen.die (s : State) (d : Nat) (k : Die)
    (h : k = { s.die d with l2tlb := k.l2tlb, hot := k.hot, spmc := k.spmc, spms := k.spms, corrected := k.corrected }) :
    Unseen s (s.setDie d k) := by
  refine ⟨rfl, fun _ => rfl, fun j => ?_⟩
  by_cases e : j = d
  · subst e; simpa using h
  · simp [e]

theorem Unseen.countN (s : State) (c ev n : Nat) : Unseen s (s.countN c ev n) := by
  unfold State.countN
  split
  · exact .refl _
  · have h := Unseen.core s c { s.core c with
      pmc := (pmcAdd (s.core c).pmc (s.core c).pms ev n).1, pms := (pmcAdd (s.core c).pmc (s.core c).pms ev n).2.1 } rfl
    dsimp only
    split
    · exact h.trans (.trigger _)
    · exact h

theorem Unseen.count (s : State) (c ev : Nat) : Unseen s (s.count c ev) := .countN s c ev 1

theorem Unseen.countSlice (s : State) (d sl ev n : Nat) : Unseen s (s.countSlice d sl ev n) := by
  unfold State.countSlice
  dsimp only
  split
  · exact .refl _
  · split
    · exact (Unseen.die s d _ rfl).trans (.trigger _)
    · exact Unseen.die s d _ rfl

theorem Unseen.links (s : State) (l : KV Link) : Unseen s { s with links := l } := ⟨rfl, fun _ => rfl, fun _ => rfl⟩

/-- A choice between two states that both keep it. -/
theorem Unseen.ite {s a b : State} (p : Prop) [Decidable p] (h : Unseen s a) (g : Unseen s b) :
    Unseen s (if p then a else b) := by split <;> assumption

/-- Steps that each keep it keep it in a row. -/
theorem Unseen.foldl {α : Type} (f : State → α → State) (h : ∀ s a, Unseen s (f s a)) (l : List α) (s : State) :
    Unseen s (l.foldl f s) := by
  induction l generalizing s with
  | nil => exact .refl _
  | cons a l ih => exact (h s a).trans (ih _)

theorem Unseen.between (s : State) (a b : Nat) : Unseen s (s.between a b) := by
  unfold State.between
  exact .ite _ (.refl _) (.foldl _ (fun t _ => .links t _) _ _)

/-- A read of a sector corrects it, or finds it lost. -/
theorem Unseen.correct (s : State) (a : Nat) : Unseen s (s.correct a) := by
  unfold State.correct
  refine .ite _ (.refl _) (.ite _ (.poisonSector ..) ?_)
  exact ((Unseen.errs s _).trans (Unseen.die _ _ _ rfl)).trans (.tally ..)

theorem Unseen.correctLine (s : State) (a : Nat) : Unseen s (s.correctLine a) := .ite _ (.refl _) (.correct ..)

theorem Unseen.request (s : State) (d line : Nat) (os w : Bool) : Unseen s (s.request d line os w) := by
  unfold State.request
  have b := Unseen.between s d (homeDie (line * 128))
  dsimp only
  generalize s.between d (homeDie (line * 128)) = u at b ⊢
  refine b.trans (.ite _ (.refl _) ?_)
  have h := Unseen.countSlice u (homeDie (line * 128)) (sliceOf line) 1 1
  have g := Unseen.ite (u.holds (l2Of line) line = true) h (h.trans (.countSlice _ (homeDie (line * 128)) (sliceOf line) 2 1))
  exact .ite _ (g.trans (.countSlice ..)) g

/-- A read at the home. -/
theorem Unseen.homeRead (s : State) (d line hint : Nat) : Unseen s (s.homeRead d line hint) := by
  unfold State.homeRead
  have h0 := (Unseen.correctLine s (line * 128)).trans (.correctLine _ (line * 128 + 64))
  dsimp only
  generalize (s.correctLine (line * 128)).correctLine (line * 128 + 64) = u at h0 ⊢
  have h1 := h0.trans (Unseen.request u d line (kvFind u.dir line).isSome false)
  generalize u.request d line (kvFind u.dir line).isSome false = v at h1 ⊢
  have k : ∀ w, Unseen s w → Unseen s (if (!isHbm line || w.readsBad (line * 128) || w.readsBad (line * 128 + 64) ||
      !w.populated (line * 128)) = true then w else if w.holds (l2Of line) line = true then w.touchSlice line
      else w.fillSlice line (w.hintClass (homeDie (line * 128)) hint)) :=
    fun w h2 => .ite _ h2 (.ite _ (h2.trans (.copies ..)) (h2.trans (.copies ..)))
  cases kvFind u.dir line with
  | none => exact k _ h1
  | some e => exact k _ (h1.trans (.dir ..))

/-- A walk reads its entries. -/
theorem Unseen.walked (s : State) (d asid : Nat) (va : W64) : Unseen s (s.walked d asid va) :=
  .foldl _ (fun t x => .homeRead t d (x / 128) 0) _ _

theorem Unseen.translateCore (s : State) (c asid : Nat) (va : W64) (n : Need) : Unseen s (s.translateCore c asid va n).1 := by
  unfold State.translateCore
  split
  · exact .refl _
  · split
    · exact .refl _
    · split
      · exact Unseen.core s c _ rfl
      · have h := Unseen.walked s (coreDie c) asid va
        dsimp only
        generalize s.walked (coreDie c) asid va = u at h ⊢
        split
        · exact h.trans ((Unseen.die u _ _ rfl).trans (Unseen.core _ c _ rfl))
        · exact h

theorem Unseen.translateCtx (s : State) (id : Nat) (va : W64) (n : Need) : Unseen s (s.translateCtx id va n).1 := by
  unfold State.translateCtx
  split
  · exact .translateCore ..
  · unfold State.walkRead
    split
    · exact .refl _
    · exact .walked ..

theorem Unseen.acquire (s : State) (c sc : Nat) : Unseen s (s.acquire c sc) := by
  unfold State.acquire
  split
  · exact .copies ..
  · exact .refl _

theorem Unseen.acquireG (s : State) (id sc : Nat) : Unseen s (s.acquireG id sc) := by
  unfold State.acquireG
  split
  · exact .acquire ..
  · exact .refl _

theorem Unseen.heat (s : State) (d lid : Nat) (va : W64) (m : Bool) : Unseen s (s.heat d lid va m) := by
  unfold State.heat
  split
  · exact .refl _
  · exact Unseen.die s d _ rfl

theorem Unseen.heatReq (s : State) (d lid : Nat) (va : W64) (pls : List Nat) (rdc : Option Nat) :
    Unseen s (s.heatReq d lid va pls rdc) := by
  unfold State.heatReq
  split
  · exact .refl _
  · exact .heat ..

theorem Unseen.touch (s : State) (c lid pl : Nat) (va : W64) : Unseen s (s.touch c lid pl va) := by
  unfold State.touch
  split
  · exact .refl _
  · exact .heatReq ..

theorem Unseen.readFar (s : State) (d pl n : Nat) : Unseen s (s.readFar d pl n).1 := by
  unfold State.readFar
  split
  · exact .refl _
  · rename_i io _ _
    have h := Unseen.between s d (8 + io)
    dsimp only
    generalize s.between d (8 + io) = u at h ⊢
    split
    · exact h
    · exact h.trans (.free ..)

/-- A cache's copy is gone, its line written back, and the directory knows. -/
theorem Unseen.cached (s : State) (l : List Copy) (p : List Nat) (e : KV Nat) (m : KV DirEntry) :
    Unseen s { s with copies := l, poison := p, errs := e, dir := m } := ⟨rfl, fun _ => rfl, fun _ => rfl⟩

theorem Unseen.evict (s : State) (c : Copy) : Unseen s (s.evict c) := by
  unfold State.evict
  dsimp only
  split
  · exact .cached ..
  · split
    · exact .cached ..
    · exact .cached ..

theorem Unseen.lookup (s : State) (k line : Nat) : Unseen s (s.lookup k line).1 := by
  unfold State.lookup
  split
  · exact .refl _
  · split
    · exact (Unseen.used s).trans (.evict ..)
    · exact .used s

theorem Unseen.makeRoom (s : State) (k n : Nat) : Unseen s (s.makeRoom k n) := by
  unfold State.makeRoom
  dsimp only
  split
  · exact .refl _
  · split
    · exact (Unseen.used s).trans (.evict ..)
    · exact .refl _

theorem Unseen.insert (s : State) (c : Copy) : Unseen s (s.insert c) := (Unseen.makeRoom s _ _).trans (.copies ..)

theorem Unseen.fill (s : State) (c line : Nat) (pk : PageKind) : Unseen s (s.fill c line pk) := by
  unfold State.fill
  have h := Unseen.homeRead s (coreDie c) line pk.hint
  dsimp only
  generalize State.homeRead s (coreDie c) line pk.hint = u at h ⊢
  split
  · exact h
  · have g : ∀ (p : Prop) (_ : Decidable p) (a b : Copy), Unseen s (((if p then u.insert a else u).insert b).count c 10) := by
      intro p _ a b
      refine Unseen.trans (Unseen.trans ?_ (.insert ..)) (.count ..)
      split
      · exact h.trans (.insert ..)
      · exact h
    split
    · exact (g _ _ _ _).trans (.dir ..)
    · exact g _ _ _ _

theorem Unseen.fillFar (s : State) (c line : Nat) (pk : PageKind) : Unseen s (s.fillFar c line pk).1 := by
  unfold State.fillFar
  have h := Unseen.readFar s (coreDie c) (line * 128) 128
  generalize State.readFar s (coreDie c) (line * 128) 128 = x at h ⊢
  obtain ⟨s1, o⟩ := x
  cases o with
  | none => exact h
  | some b => exact ((h.trans (.insert ..)).trans (.insert ..)).trans (.count ..)

theorem Unseen.readAt (s : State) (c pl n : Nat) (pk : PageKind) : Unseen s (s.readAt c pl n pk).1 := by
  unfold State.readAt
  dsimp only
  split
  · exact .refl _
  split
  · have h := Unseen.readFar s (coreDie c) pl n
    split <;> rename_i e <;> rw [e] at h <;> exact h
  · have h := Unseen.lookup s c (pl / 128)
    generalize State.lookup s c (pl / 128) = x at h ⊢
    obtain ⟨s1, o⟩ := x
    cases o with
    | some k => exact h
    | none =>
      have g : Unseen s (if (isLocal pl && homeDie pl == coreDie c) = true then (s1, none)
          else s1.lookup (rdcOf c) (pl / 128)).1 := by
        split
        · exact h
        · exact h.trans (.lookup ..)
      dsimp only
      generalize (if (isLocal pl && homeDie pl == coreDie c) = true then (s1, none)
          else s1.lookup (rdcOf c) (pl / 128)) = y at g ⊢
      obtain ⟨s2, q⟩ := y
      cases q with
      | some k => exact g.trans (.insert ..)
      | none =>
        dsimp only
        split
        · have f := g.trans (Unseen.fillFar s2 c (pl / 128) pk)
          split <;> rename_i e <;> rw [e] at f <;> exact f
        · split
          · exact g.trans (.correctLine ..)
          · exact g.trans (.fill ..)

theorem Unseen.readHome (s : State) (d pl n : Nat) (pk : PageKind) : Unseen s (s.readHome d pl n pk).1 := by
  unfold State.readHome
  split
  · exact .refl _
  split
  · exact .readFar ..
  split
  · exact .correctLine ..
  · exact .homeRead ..

theorem Unseen.ctxRead (s : State) (id pl n : Nat) (pk : PageKind) : Unseen s (s.ctxRead id pl n pk).1 := by
  unfold State.ctxRead
  split
  · exact .readAt ..
  · exact .readHome ..

theorem Unseen.loadG (s : State) (id : Nat) (va : W64) (pls : List Nat) (z : Nat) (pk : PageKind) (acq : Bool) :
    Unseen s (s.loadG id va pls z pk acq).1 := by
  unfold State.loadG
  dsimp only
  have a : Unseen s (if acq = true then s.acquireG id (s.ctx id).scope else s) := by
    split
    · exact .acquireG ..
    · exact .refl _
  refine Unseen.trans ?_ (.ctxRead ..)
  split
  · exact a.trans (.touch ..)
  · exact a

theorem Unseen.readCopies (s : State) (d : Nat) (own : List HoldEntry) (caches pls : List Nat) (pk : PageKind) (lid : Nat)
    (va : W64) : Unseen s (s.readCopies d own caches pls pk lid va).1 := by
  unfold State.readCopies
  dsimp only
  refine Unseen.trans (t := (pls.foldl _ (s, some [])).1) ?_ (.copies ..)
  generalize hx : (s, some ([] : List Nat)) = x
  have h0 : Unseen s x.1 := by subst hx; exact .refl _
  clear hx
  induction pls generalizing x with
  | nil => exact h0
  | cons p l ih =>
    rw [List.foldl_cons]
    apply ih
    obtain ⟨s1, o⟩ := x
    cases o with
    | none => exact h0
    | some l =>
      dsimp only
      split
      · exact h0
      · have h := (h0.trans (Unseen.heatReq s1 d lid va [p] none)).trans (Unseen.readHome _ d p 4 pk)
        split <;> rename_i e <;> rw [e] at h <;> exact h

end Sys2Proof.Machine
end

