-- ==== Sys2Proof/Laws/Matrix.lean ====
section
/-! SUPPORT. Laws/Matrix.lean: what one operation, one core clock and the start of an M-word of several core clocks can do. -/

namespace Sys2Proof.Machine

/-- What a matrix unit's own work leaves of the machine: other teams, groups, contexts, memory, and of every core the stores that
it holds back, the job of its unit and the team that its unit serves. -/
def MatFrame (s t : State) (tid : Nat) : Prop :=
  (∀ j, j ≠ tid → t.team j = s.team j) ∧ t.groups = s.groups ∧ t.ctxs = s.ctxs ∧ t.mem = s.mem ∧
    (∀ d, (t.die d).dmemcap = (s.die d).dmemcap) ∧
    ∀ c, (t.core c).hold = (s.core c).hold ∧ (t.core c).matJob = (s.core c).matJob ∧ (t.core c).served = (s.core c).served

theorem MatFrame.refl (s : State) (tid : Nat) : MatFrame s s tid :=
  ⟨fun _ _ => rfl, rfl, rfl, rfl, fun _ => rfl, fun _ => ⟨rfl, rfl, rfl⟩⟩

theorem MatFrame.trans {s t u : State} {tid : Nat} (h : MatFrame s t tid) (g : MatFrame t u tid) : MatFrame s u tid :=
  ⟨fun j hj => (g.1 j hj).trans (h.1 j hj), g.2.1.trans h.2.1, g.2.2.1.trans h.2.2.1, g.2.2.2.1.trans h.2.2.2.1,
    fun d => (g.2.2.2.2.1 d).trans (h.2.2.2.2.1 d), fun c =>
      ⟨(g.2.2.2.2.2 c).1.trans (h.2.2.2.2.2 c).1, (g.2.2.2.2.2 c).2.1.trans (h.2.2.2.2.2 c).2.1,
        (g.2.2.2.2.2 c).2.2.trans (h.2.2.2.2.2 c).2.2⟩⟩

theorem MatFrame.setTeam (s : State) (tid : Nat) (x : Team) : MatFrame s (s.setTeam tid x) tid :=
  ⟨fun j hj => by simp [hj], rfl, rfl, rfl, fun _ => rfl, fun _ => ⟨rfl, rfl, rfl⟩⟩

theorem MatFrame.unseen {s t : State} (h : Unseen s t) (tid : Nat) : MatFrame s t tid := by
  obtain ⟨h1, h2, h3⟩ := h
  refine ⟨fun j _ => ?_, ?_, ?_, ?_, fun d => ?_, fun c => ?_⟩
  · rw [h1]; rfl
  · rw [h1]
  · rw [h1]
  · rw [h1]
  · rw [h3 d]
  · rw [h2 c]; exact ⟨rfl, rfl, rfl⟩

theorem MatFrame.setCore (s : State) (tid c : Nat) (k : Core)
    (h : k = { s.core c with renorms := k.renorms }) : MatFrame s (s.setCore c k) tid := by
  refine ⟨fun _ _ => rfl, rfl, rfl, rfl, fun _ => rfl, fun d => ?_⟩
  by_cases e : d = c
  · subst e
    simp only [State.setCore_core, if_true]
    rw [h]; exact ⟨rfl, rfl, rfl⟩
  · simp [e]

/-- One operation of an M-word changes its own team, and nothing else but counters. -/
theorem matOp_frame (s : State) (tid : Nat) (o : MatOp) : MatFrame s (s.matOp tid o) tid := by
  cases o with
  | step h rows cols =>
    let x := ((s.team tid).handle h).getD 0
    let a := s.setTeam tid ((s.team tid).putSlot x ((((s.team tid).slot x).step rows cols).1))
    exact ((MatFrame.setTeam s tid _).trans (.unseen (.count a (teamCore tid) 5) tid)).trans
      (.setCore (a.count (teamCore tid) 5) tid (teamCore tid) _ rfl)
  | stall => exact .unseen (.count s _ 6) tid
  | alloc | put | write | finish => exact .setTeam s tid _

theorem matOps_frame (l : List MatOp) (s : State) (tid : Nat) : MatFrame s (l.foldl (fun a o => a.matOp tid o) s) tid := by
  induction l generalizing s with
  | nil => exact .refl s tid
  | cons o l ih => exact (matOp_frame s tid o).trans (ih _)

/-- A unit without a job does nothing. -/
theorem matClock_idle {s : State} {c : Nat} (h : (s.core c).matJob = []) : s.matClock c = s := by
  simp [State.matClock, h]

/-- A core clock of a job: the job is shorter by that clock, and the operations of it have acted on the team that is served. -/
theorem matClock_busy {s : State} {c : Nat} {l : List MatOp} {r : List (List MatOp)} (h : (s.core c).matJob = l :: r) :
    s.matClock c = l.foldl (fun a o => a.matOp (c * 4 + (s.core c).served) o) (s.setCore c { s.core c with matJob := r }) ∧
      ((s.matClock c).core c).matJob = r ∧ ((s.matClock c).core c).served = (s.core c).served := by
  have e : s.matClock c = l.foldl (fun a o => a.matOp (c * 4 + (s.core c).served) o) (s.setCore c { s.core c with matJob := r }) := by
    simp [State.matClock, h]
  have f := (matOps_frame l (s.setCore c { s.core c with matJob := r }) (c * 4 + (s.core c).served)).2.2.2.2.2 c
  refine ⟨e, ?_, ?_⟩
  · rw [e, f.2.1]; simp
  · rw [e, f.2.2]; simp

/-- A word of several core clocks that starts has its first one at once: the rest of its job stands. -/
theorem startM_job {s : State} {tid : Nat} {l : List MatOp} {r : List (List MatOp)} :
    ((s.startM tid (l :: r)).core (teamCore tid)).matJob = r ∧
      ((s.startM tid (l :: r)).core (teamCore tid)).served = tid % 4 := by
  have h : ((s.setCore (teamCore tid) { s.core (teamCore tid) with served := tid % 4, matJob := l :: r }).core
      (teamCore tid)).matJob = l :: r := by simp
  have g := matClock_busy h
  unfold State.startM
  exact ⟨g.2.1, by rw [State.updCore_eq, g.2.2]; simp⟩

end Sys2Proof.Machine
end

