-- ==== Sys2Proof/Laws/Write.lean ====
section
/-! SUPPORT. Laws/Write.lean: the operations that write memory: what a byte reads after them, and that each of them keeps
the memory's canonical form; every other operation of the machine leaves mem as it is. -/

namespace Sys2Proof.Machine

/-- One byte written reads back where memory is populated, and every other byte reads as before. -/
theorem byte_putByte (s : State) (a c : Nat) (b : Byte) :
    (s.putByte a b).byte c = if c = a ∧ s.populated c = true then b else s.byte c := by
  unfold State.putByte
  by_cases h : s.populated a = true
  · rw [if_pos h]
    have e : ({ s with mem := spSet s.mem a b } : State).populated c = s.populated c := rfl
    simp only [State.byte, e, spGet_spSet]
    by_cases hc : c = a
    · subst hc; simp [h]
    · simp [hc]
  · rw [if_neg h]
    by_cases hc : c = a
    · subst hc; simp [h]
    · simp [hc]

/-- A write of one byte does not change what is populated. -/
@[simp] theorem populated_putByte (s : State) (a c : Nat) (b : Byte) : (s.putByte a b).populated c = s.populated c := by
  unfold State.putByte; split <;> rfl

/-- A write of one byte keeps the canonical form. -/
theorem wf_putByte (s : State) (a : Nat) (b : Byte) (h : Memory.wf s.mem = true) :
    Memory.wf (s.putByte a b).mem = true := by
  unfold State.putByte
  split
  · exact spWf_spSet s.mem a b h
  · exact h

/-- Writes of bytes in a list keep the canonical form. -/
theorem wf_foldl_putByte {α : Type} (f : α → Nat) (v : α → Byte) (l : List α) (s : State) (h : Memory.wf s.mem = true) :
    Memory.wf (l.foldl (fun t e => t.putByte (f e) (v e)) s).mem = true := by
  induction l generalizing s with
  | nil => exact h
  | cons e t ih => exact ih _ (wf_putByte s _ _ h)

/-- Bytes written in a row keep the canonical form. -/
theorem wf_putBytes (s : State) (la : Nat) (bs : List Byte) (h : Memory.wf s.mem = true) :
    Memory.wf (s.putBytes la bs).mem = true :=
  wf_foldl_putByte (fun e : Byte × Nat => la + e.2) (fun e => e.1) bs.zipIdx s h

/-- A number written keeps the canonical form. -/
theorem wf_putN (s : State) (la n x : Nat) (h : Memory.wf s.mem = true) : Memory.wf (s.putN la n x).mem = true :=
  wf_putBytes s la _ h

/-- A table of bytes written keeps the canonical form. -/
theorem wf_putCells (s : State) (l : KV Byte) (h : Memory.wf s.mem = true) : Memory.wf (s.putCells l).mem = true :=
  wf_foldl_putByte (fun e : Nat × Byte => e.1) (fun e => e.2) l s h

/-- Memory after reset has the canonical form. -/
theorem wf_reset : Memory.wf State.reset.mem = true := rfl

/-- Memory after a cold reset has the canonical form. -/
theorem wf_coldReset (s : State) : Memory.wf s.coldReset.mem = true := rfl

/-- The address of a load or store word is the base register plus the offset times the access size. -/
theorem gmAddr_eq (c : Ctx) (a : BitVec 6) (z : BitVec 2) (o : BitVec 10) : gmAddr c a z o = wordAddr c a z o := by
  unfold gmAddr wordAddr
  congr 1
  apply BitVec.eq_of_toNat_eq
  simp [BitVec.toNat_shiftLeft, Nat.shiftLeft_eq, BitVec.toNat_mul, Nat.mul_mod]

/-- The access code of a trap record. -/
theorem accCode_eq (z o : Nat) (st sp : Bool) : accCode z o st false sp = accessCode z o st sp := by
  cases st <;> cases sp <;> simp [accCode, accessCode, w64, bitN] <;> congr 1 <;> omega

end Sys2Proof.Machine
end

