-- ==== Sys2Proof/Tests/Slice0.lean ====
section
/-! SUPPORT. Tests/Slice0.lean: well-formedness, decoding of words written out from the spec's formats, results of the
spec's worked examples, and a witness for the hypotheses of every statement. -/

set_option Elab.async false

namespace Sys2Proof.Machine

/-! ## Small states -/

/-- A context with some scalar registers. -/
def tCtx (l : List (Nat × W64)) : Ctx := { s := l.foldl (fun a e => spSet a e.1 e.2) [], pc := 0x1000#48 }

/-- Core 0 with three cached pages: page 0 may be read, written and executed, page 1 nothing, page 2 is pending-invalid. -/
def tCore : Core :=
  { tlb := [{ asid := 0, base := 0, size := 65536, pte := 0x39#64 }, { asid := 0, base := 65536, size := 65536, pte := 0x1#64 }
            , { asid := 0, base := 131072, size := 65536, pte := 0x3B#64 }] }

/-- A team of two groups, four barriers and a share of 4 KiB stands on core 0, and memory is 1 MiB of die 0. -/
def tState (cur : Cur) (c : Ctx) (t : Team) (g : Group) : State :=
  { State.reset with
    released := true, clk := 1000, cur := cur, ctxs := [(0, c)], teams := [(0, t)], groups := [(0, g), (1, {})]
    cores := [(0, tCore)], dies := [(0, { dmemcap := 0x100000#42 })] }

/-- The team of tState. -/
def tTeam : Team := { groups := 2, bars := 4, share := 4096, accs := 2 }

/-- A G-word stands at context 0 of a core. -/
def tGen (c : Ctx) : State := tState (.gen 0 0) c tTeam {}

/-- A G-word stands at a context of die 0 that belongs to no core. -/
def tSolo (id : Nat) (c : Ctx) : State := { tGen {} with cur := .gen id 0, ctxs := [(0, {}), (id, c)] }

/-- A body word stands at group 0, in a clause of two words. -/
def tGrp (w : W32) (g : Group) : State :=
  tState (.grp 0 { val := w.zeroExtend 64 } 0) {} tTeam
    { g with clause := some { words := [{ val := w.zeroExtend 64 }, { val := 0xB000000F#64 }] }
             queue := [{ val := w.zeroExtend 64 }, { val := 0xB000000F#64 }] }

/-- An M-word stands at the matrix queue of team 0. -/
def tMat (t : Team) : State := tState (.mat 0 {}) {} t {}

/-- A packet stands at lane 0 of I/O die 0, which queue 0 is bound to. -/
def tLane (p : Packet) (q : Queue) (k : Lane) : State :=
  { tGen {} with cur := .lane 0 0 p, pewters := [(0, { qctl := true, lanes := [(0, k)], queues := [(0, q)] })] }

/-- The page of an access: its entry and size. -/
def tLeaf (w : Walk) : W64 × Nat := match w with | .ok e z => (e, z) | _ => (0, 0)

/-- The page of an access is there. -/
def tThere (w : Walk) : Bool := match w with | .ok _ _ => true | _ => false

/-- An access finds its page, and may read it where it reads. -/
def tFinds (s : State) (id : Nat) (va : W64) (n : Need) : Bool :=
  let x := s.translateCtx id va n
  let pls := placesOf (x.1.die 0).devnum.toNat (tLeaf x.2).1 (tLeaf x.2).2 va
  tThere x.2 && (!n.r || (!x.1.engineOwns pls && !x.1.hostWaits pls))

/-- A page that is there has been found. -/
theorem found_there {s : State} {id : Nat} {va : W64} {n : Need} (h : tFinds s id va n = true) :
    Found s id va n (s.translateCtx id va n).1
      (placesOf ((s.translateCtx id va n).1.die 0).devnum.toNat (tLeaf (s.translateCtx id va n).2).1
        (tLeaf (s.translateCtx id va n).2).2 va)
      (homePlace ((s.translateCtx id va n).1.die 0).devnum.toNat (tLeaf (s.translateCtx id va n).2).1
        (tLeaf (s.translateCtx id va n).2).2 va) (pteKind (tLeaf (s.translateCtx id va n).2).1) := by
  simp only [tFinds, Bool.and_eq_true] at h
  obtain ⟨h1, h2⟩ := h
  refine ⟨(tLeaf (s.translateCtx id va n).2).1, (tLeaf (s.translateCtx id va n).2).2, ?_, rfl, rfl, rfl, ?_⟩
  · generalize s.translateCtx id va n = x at h1 ⊢
    obtain ⟨u, w⟩ := x
    cases w <;> simp_all [tThere, tLeaf]
  · intro hr
    simpa [hr] using h2

/-- A read that answers. -/
theorem read_some {α : Type} {x : State × Option α} (h : x.2.isSome = true) : ∃ v b, x = (v, some b) := by
  obtain ⟨v, o⟩ := x
  cases o with
  | none => cases h
  | some b => exact ⟨v, b, rfl⟩

/-! ## Witnesses: what the statements about generator words suppose -/

theorem test_hyp_arithmetic : (Instr.gAdd 3 1 2).wf = true ∧
    gResult (.gAdd 3 1 2) ((tGen (tCtx [(1, 5), (2, 7)])).ctx 0) = some (3, [1, 2], 12#64) ∧
    GTurn (tGen (tCtx [(1, 5), (2, 7)])) 0 0 [3, 1, 2] :=
  ⟨by decide, by decide +kernel, rfl, by decide +kernel⟩

theorem test_hyp_divide : let s := tGen (tCtx [(1, 0x8000000000000000), (2, 0xFFFFFFFFFFFFFFFF), (4, 7)])
    GTurn s 0 0 [3, 1, 2] ∧ ((s.ctx 0).get 1).toInt = -2 ^ 63 ∧ ((s.ctx 0).get 2).toInt = -1 ∧ (s.ctx 0).get 5 = 0 ∧
      (s.ctx 0).get 4 ≠ 0 :=
  ⟨⟨rfl, by decide +kernel⟩, by decide +kernel⟩

theorem test_hyp_fields : let s := tGen (tCtx [(1, 0x7F), (2, 0x80)])
    GTurn s 0 0 [3, 1, 2] ∧ (0#4).toNat ≤ 8 ∧ ((s.ctx 0).get 1).toNat < 2 ^ (cwPlace 0).2 ∧
      2 ^ (cwPlace 0).2 ≤ ((s.ctx 0).get 2).toNat ∧ (8#4).toNat ≤ 8 ∧ ((s.ctx 0).get 0).toNat < 2 ^ (cwPlace 8).2 :=
  ⟨⟨rfl, by decide +kernel⟩, by decide +kernel⟩

theorem test_hyp_conditions : let s := tGen (tCtx [(1, 1), (2, 2)])
    GTurn s 0 0 [1, 2] ∧ (Instr.gCmp 1 1 2 5).wf = true ∧ gTest (.gCmp 1 1 2 5) (s.ctx 0) = some (1, [1, 2], false) ∧
      gTest (.gCbop 1 0 0 4) (s.ctx 0) = some (1, [], true) :=
  ⟨⟨rfl, by decide +kernel⟩, by decide +kernel⟩

theorem test_hyp_branches : let s := tGen (tCtx [(1, 0x7FFFFFFFFFFC), (2, 0x800000000000)])
    GTurn s 0 0 [63, 1] ∧ gBranch (.gBrlr 1) (s.ctx 0) = some ([63, 1], 0x7FFFFFFFFFFC#64, true) ∧
      targetOk 0x7FFFFFFFFFFC#64 ∧ gBranch (.gBrr 2) (s.ctx 0) = some ([2], 0x800000000000#64, false) ∧
      ¬ targetOk 0x800000000000#64 ∧ (s.ctx 0).cond 0 ≠ (1#1).getLsbD 0 ∧ targetOk 0xFFFF800000000000#64 ∧ ¬ targetOk 2#64 :=
  ⟨⟨rfl, by decide +kernel⟩, by decide +kernel, by unfold targetOk; decide, by decide +kernel, by unfold targetOk; decide,
    by decide +kernel, by unfold targetOk; decide, by unfold targetOk; decide⟩

theorem test_hyp_token : let s := tGen { tCtx [] with tok := 2#64 }
    s.cur = .gen 0 0 ∧ gUses (.gAdd 3 1 2) = some [3, 1, 2] ∧ (s.ctx 0).token 1 = true :=
  ⟨rfl, rfl, by decide +kernel⟩

theorem test_hyp_csr_read : let s := tGen (tCtx [])
    let u := tSolo 4096 (tCtx [])
    GTurn s 0 0 [1] ∧ isSup 0 = false ∧ csrShows s 0 0x008 = none ∧ csrShows s 0 0x002 = some 0 ∧ GTurn u 4096 0 [1] ∧
      isSup 4096 = true ∧ csrShows u 4096 0xC02 = some 0 ∧ csrShows u 4096 0xC03 = none :=
  ⟨⟨rfl, by decide +kernel⟩, by decide +kernel, by decide +kernel, by decide +kernel, ⟨rfl, by decide +kernel⟩,
    by decide +kernel⟩

theorem test_hyp_csr_write : let s := tGen (tCtx [(1, 5), (2, 1)])
    GTurn s 0 0 [1] ∧ csrShows s 0 0x000 = some 0 ∧ csrIllegal 0x000 (csrNew .w 0x000 0 5) ∧ ¬ csrDenied .w 0x000 0 5 ∧
      ¬ csrIllegal 0x000 (csrNew .w 0x000 0 4) ∧ csrDenied .w 0x002 0 8 ∧ ¬ csrDenied .s 0x002 0 1 ∧
      ¬ csrIllegal 0x002 (csrNew .s 0x002 0 1) :=
  ⟨⟨rfl, by decide +kernel⟩, by decide +kernel, .inl ⟨rfl, by decide⟩, by unfold csrDenied; decide,
    by unfold csrIllegal targetOk; decide, by unfold csrDenied; decide, by unfold csrDenied; decide,
    by unfold csrIllegal targetOk; decide⟩

/-- A context with an open handler: trapen set. -/
def tOpen : Ctx := { tCtx [(1, 3)] with gmode := 0x80#32, tvec := 0x2000#64 }

theorem test_hyp_traps : OpenTraps (tGen tOpen) 0 ∧ GTurn (tGen tOpen) 0 0 [1, 2] ∧
    ((tGen {}).ctx 0).trapen = false ∧ MaskedTraps (tGen { tOpen with tstatus := 3#32 }) 0 ∧
    (tGen { tOpen with tstatus := 3#32 }).hasTeam 0 = true ∧ ((tGen {}).ctx 0).tok = 0 ∧ ({ tok := 2#64 } : Ctx).tok ≠ 0 := by
  refine ⟨?_, ⟨rfl, by decide +kernel⟩, by decide +kernel, ⟨by decide +kernel, by decide +kernel⟩, by decide +kernel,
    by decide +kernel, by decide +kernel⟩
  unfold OpenTraps TakesTraps
  decide +kernel

/-- A context whose fourth level-one record queues behind none, with the record of an agent in force. -/
def tRecord (t0 t5 : Nat) : Ctx :=
  { tOpen with tstatus := 3#32, tepc := 0x1004#64, trec := { t0 := BitVec.ofNat 64 t0, t5 := BitVec.ofNat 64 t5 } }

theorem test_hyp_trap_queue : let c : Ctx := { tOpen with tq := List.replicate 5 {} }
    TakesTraps (tGen c) 0 ∧ (tGen c).hasTeam 0 = true ∧ c.mask = false ∧ c.tok = 0 ∧ 5 ≤ c.tq.length ∧ isSup 4096 = true ∧
      ((tSolo 4096 { tstatus := 1#32 }).ctx 4096).mask = true ∧ isPro 4136 = true := by
  unfold TakesTraps; decide +kernel

theorem test_hyp_rte_records :
    (let s := tState (.gen 0 0) (tRecord 0x10000102 0) tTeam { wait := .held, heldWord := some {}, heldCode := 0x102 }
     let c := s.ctx 0
     GTurn s 0 0 [] ∧ c.level ≠ 0 ∧ targetOk c.tepc ∧ c.tq = [] ∧ c.trec.t0.toNat / 2 ^ 28 % 16 = 1 ∧
       c.trec.t0.toNat % 65536 = 0x102 ∧ c.trec.t0.toNat / 2 ^ 24 % 16 = 0 ∧ (s.grp 0).heldWord = some {} ∧ (s.grp 0).late = [] ∧
       skipPops {} 0x102 ≤ (kWaiting (s.grp 0)).length) ∧
    ((tRecord 0x10000106 0).trec.t0.toNat % 65536 = 0x106 ∧ (tRecord 0x10000107 1).trec.t5 = 1 ∧
      (tRecord 0x20000201 0).trec.t0.toNat / 2 ^ 28 % 16 = 2 ∧ ({ tTeam with mHeld := some {} } : Team).mHeld.isSome = true ∧
      (tRecord 0xD 0).trec.t0.toNat / 2 ^ 28 % 16 = 0 ∧ (tRecord 0x1000010A 0).trec.t0.toNat % 65536 = 0x10A ∧
      (tRecord 0x10000109 0).trec.t0.toNat % 65536 = 0x109 ∧ tTeam.sealed = false ∧ tTeam.rolls = 0) := by
  unfold targetOk; exact ⟨⟨⟨rfl, by decide⟩, by decide +kernel⟩, by decide +kernel⟩

theorem test_hyp_rte : let c : Ctx := { tOpen with tstatus := 3#32, tepc := 0x1004#64 }
    GTurn (tGen c) 0 0 [] ∧ (c.level ≠ 0 ∧ targetOk c.tepc ∧ c.trec.kind = 0 ∧ c.trec.code ≠ 0xD ∧ c.tq = []) ∧
      tOpen.level = 0 ∧ ¬ targetOk ({ c with tepc := 2#64 } : Ctx).tepc ∧
      ({ c with tq := [{}] } : Ctx).tq = {} :: [] ∧ c.arrived = none :=
  ⟨⟨rfl, by decide⟩, ⟨by decide +kernel, by unfold targetOk; decide, by decide +kernel, by decide +kernel, rfl⟩,
    by decide +kernel, by unfold targetOk; decide, rfl, rfl⟩

theorem test_hyp_privileged : GTurn (tGen tOpen) 0 0 [1, 2] ∧ isSup 0 = false ∧ (gSupWords (.gTlbi 0 1 2)).isSome = true ∧
    gUses (.gWfi 1 2) = some [1, 2] ∧ GTurn (tSolo 4096 {}) 4096 0 [] ∧ isPro 0 = false ∧ (gProWords (.gLset 1 63)).isSome = true ∧
    gTeamWords (.gBarinit 31 5) = some (0x1, some 0) ∧ gTeamWords (.gGarm 9) = some (0x7, some 9) ∧
    GTurn (tSolo 4096 {}) 4096 0 [1, 2] :=
  ⟨⟨rfl, by decide +kernel⟩, by decide +kernel, rfl, rfl, ⟨rfl, by decide⟩, by decide +kernel, rfl, by decide +kernel,
    by decide +kernel, rfl, by decide +kernel⟩

/-- A hold-back entry of team 0. -/
def tHeld : HoldEntry := { lines := [0], bytes := [(0, 1#8)], team := 0, issued := 0 }

/-- A state whose core 0 holds entries back. -/
def State.tHold (s : State) (l : List HoldEntry) : State := s.updCore 0 (fun k => { k with hold := l })

theorem test_hyp_exit_ecall : let s : State := { tGen (tCtx []) with groups := [(0, { armed := false }), (1, { armed := false })] }
    let u := (tGen (tCtx [])).tHold [tHeld]
    GTurn s 0 0 [3, 1, 2] ∧ MayExit s 0 ∧ ¬ MayExit u 0 ∧ (∀ h ∈ (s.core 0).hold, h.team ≠ 0) ∧
      (∃ h ∈ (u.core 0).hold, h.team = 0) ∧ GTurn (tSolo 4096 {}) 4096 0 [3, 1, 2] := by
  unfold MayExit
  exact ⟨⟨rfl, by decide +kernel⟩, by decide +kernel, by decide +kernel, by decide +kernel, by decide +kernel, rfl,
    by decide +kernel⟩

theorem test_hyp_loads : let s := tGen (tCtx [(1, 0x100), (2, 0x10000), (3, 0x101), (4, 0x20000)])
    GTurn s 0 0 [5, 1] ∧ (wordAddr (s.ctx 0) 3 3 0).toNat % 8 ≠ 0 ∧
      (∃ u e, s.translateCtx 0 (wordAddr (s.ctx 0) 2 3 0) .load = (u, .perm e)) ∧
      (∃ u pls home os v b, Found s 0 (wordAddr (s.ctx 0) 1 3 0) .load u pls home os ∧
        u.promoteWaits 0 true pls = false ∧ u.loadG 0 (wordAddr (s.ctx 0) 1 3 0) pls 3 os false = (v, some b)) ∧
      (∃ u pi b sz, s.translateCtx 0 ((s.ctx 0).get 4) .load = (u, .park pi b sz)) := by
  refine ⟨⟨rfl, by decide +kernel⟩, by decide +kernel, ⟨_, _, rfl⟩, ?_, ⟨_, _, _, _, rfl⟩⟩
  exact ⟨_, _, _, _, _, _, found_there (by decide +kernel), by decide +kernel,
    (read_some (by decide +kernel)).choose_spec.choose_spec⟩

theorem test_hyp_load_poison : let s : State := { tGen (tCtx [(1, 0x100)]) with poison := [4] }
    ∃ u pls home os v, Found s 0 (wordAddr (s.ctx 0) 1 3 0) .load u pls home os ∧
      u.loadG 0 (wordAddr (s.ctx 0) 1 3 0) pls 3 os false = (v, none) := by
  refine ⟨_, _, _, _, _, found_there (by decide +kernel), Prod.ext rfl ?_⟩
  decide +kernel

theorem test_hyp_load_sum : let s := tGen (tCtx [(1, 0x100)])
    ∃ u pls home os v l, Found s 0 ((s.ctx 0).get 1) .load u pls home os ∧
      u.copiesG 0 pls os ((s.ctx 0).get 1) = (v, some l) := by
  exact ⟨_, _, _, _, _, _, found_there (by decide +kernel), (read_some (by decide +kernel)).choose_spec.choose_spec⟩

theorem test_hyp_cached_read : isFar 0x100 = false ∧ isMmio 0x100 = false ∧ (∃ t l, (tGen {}).readAt 0 0x100 4 {} = (t, some l)) ∧
    heldByte [tHeld] 0 = some 1#8 ∧ heldByte [tHeld] 1 = none ∧ ∀ k ∈ (tGen {}).copies, k.line ≠ 0x100 / 128 :=
  ⟨by decide +kernel, by decide +kernel, read_some (by decide +kernel), by decide +kernel, by decide +kernel, by decide +kernel⟩

theorem test_hyp_stores : let s := tGen (tCtx [(1, 0x100)])
    GTurn s 0 0 [2, 1] ∧ (wordAddr (s.ctx 0) 1 2 0).toNat % 4 = 0 ∧ (wordAddr (s.ctx 0) 1 3 1).toNat % 8 = 0 ∧
      (∃ u pls home os, Found s 0 (wordAddr (s.ctx 0) 1 2 0) .store u pls home os ∧ ReleaseFree u 0 4 ∧
        (u.core (0 / 4)).hold.length < 128 ∧ isFar home = false ∧ u.poisoned home = false) ∧
      (∀ h ∈ (s.core 0).hold, h.team ≠ 0) ∧ (wordAddr (s.ctx 0) 1 0 1).toNat % 4 ≠ 0 :=
  ⟨⟨rfl, by decide +kernel⟩, by decide +kernel, by decide +kernel,
    ⟨_, _, _, _, found_there (by decide +kernel), .inr ⟨by decide +kernel, .inr (by decide +kernel)⟩, by decide +kernel,
      by decide +kernel, by decide +kernel⟩, by decide +kernel, by decide +kernel⟩

theorem test_hyp_atomic : let s := tGen (tCtx [(1, 0x100)])
    ∃ u pls home os, Found s 0 ((s.ctx 0).get 1) .amo u pls home os ∧ isFar home = false ∧ isMmio home = false ∧
      u.poisoned home = false ∧ u.egressRoom (ctxDie 0) (home :: pls.filter (fun x => x != home)) = true ∧
      u.promoteWaits 0 true (home :: pls.filter (fun x => x != home)) = false ∧ (∀ h ∈ (u.core 0).hold, h.team ≠ 0) ∧
      ∀ x ∈ home :: pls.filter (fun x => x != home), u.leaseBlocks 0 (x / 128) = false :=
  ⟨_, _, _, _, found_there (by decide +kernel), by decide +kernel, by decide +kernel, by decide +kernel, by decide +kernel,
    by decide +kernel, by decide +kernel, by decide +kernel⟩

/-- A context of no core whose die has a page table for page 0 of address space 0. -/
def tSoloMem : State := ((tSolo 4096 (tCtx [(1, 0x100)])).setDie 0 { dmemcap := 0x100000#42, atroot := 0x80000#64 }).tableFor 0 0

/-- The walk of page 0 of that table reaches its fourth level, whose two entries of 1 GiB stand there. -/
theorem test_hyp_walk : NodeAt tSoloMem 0 0 0x100 3 0x30000 ∧ tSoloMem.entry 0x30000 (walkIndex 0 0x100 3) = some 0x2039#64 ∧
    ¬ PointerEntry 0x2039#64 ∧ (0x2039#64).toNat / 2 ^ 12 % 4 = 2 ∧ LeafOk 0 0x2039#64 ∧ ¬ LeafOk 0 0x2C39#64 ∧
    ¬ LeafOk 0 0x203D#64 ∧ LeafOk 0 0x39#64 ∧
    (∀ t ∈ ((tGen {}).core 0).tlb, t.hit ((tGen {}).asidOf 0) 0x30000 = false) := by
  refine ⟨⟨0x20000, 0x30001, ⟨0x10000, 0x20001, ⟨0x80000, 0x10001, ?_, ?_⟩, ?_⟩, ?_⟩, ?_⟩
  · exact (by decide +kernel : (tSoloMem.die 0).atroot.toNat % 2 ^ 42 = 0x80000).symm
  · unfold PointerEntry; decide +kernel
  · unfold PointerEntry; decide +kernel
  · unfold PointerEntry; decide +kernel
  refine ⟨by decide +kernel, by unfold PointerEntry; decide +kernel, by decide, ?_, ?_, ?_, ?_, by decide +kernel⟩ <;>
    unfold LeafOk <;> decide +kernel

theorem test_hyp_solo_store : GTurn tSoloMem 4096 0 [2, 1] ∧ 4096 ≤ 4096 ∧
    (∃ u pls home os, Found tSoloMem 4096 (wordAddr (tSoloMem.ctx 4096) 1 2 0) .store u pls home os ∧
      u.egressRoom (ctxDie 4096) pls = true) ∧ tSoloMem.relDoneG 4096 4 0 = true :=
  ⟨⟨by decide +kernel, by decide +kernel⟩, Nat.le_refl _, ⟨_, _, _, _, found_there (by decide +kernel), by decide +kernel⟩,
    by decide +kernel⟩

theorem test_hyp_scratchpad : let s := tGen (tCtx [(1, 4092), (2, 4096)])
    let t : Team := { tTeam with spTag := [1023] }
    GTurn s 0 0 [3, 1] ∧ (s.team 0).share ≤ (wordAddr (s.ctx 0) 2 2 0).toNat ∧
      ((wordAddr (s.ctx 0) 1 2 0).toNat < (s.team 0).share ∧ (wordAddr (s.ctx 0) 1 2 0).toNat % 4 = 0) ∧
      (s.team 0).rangePoisoned 4092 4 = false ∧ tTeam.spFull 4092 = false ∧ t.spFull 4092 = true ∧
      t.spPoisoned 4092 = false :=
  ⟨⟨rfl, by decide +kernel⟩, by decide +kernel⟩

theorem test_hyp_share : let t : Team := { tTeam with xwin := 1024 }
    2 * t.xwin ≤ t.share ∧ t.xwin % 4 = 0 ∧ t.share % 4 = 0 := by decide

theorem test_hyp_fence_monitor : let s := tGen (tCtx [(1, 0x100), (2, 625)])
    GTurn s 0 0 [3, 1] ∧ (s.ctx 0).monitor = none ∧ ((s.ctx 0).get 2 ≠ 0 ∧ ((s.ctx 0).get 2).toNat ≤ s.clk * 5 / 8) ∧
      (∃ u pls home os, Found s 0 ((s.ctx 0).get 1) .load u pls home os ∧ u.waiters (0 / 4) < 16) ∧
      FenceMay s 0 0 0 0 0 ∧ ¬ FenceMay ((s.tHold [tHeld]).updCtx 0 (fun c => { c with gmode := 2#32 })) 0 2 0 0 1 ∧
      ({ monitor := some { line := 2, woken := true } } : Ctx).monitor = some { line := 2, woken := true } ∧
      ({ monitor := some { line := 2, woken := false } } : Ctx).monitor = some { line := 2, woken := false } :=
  ⟨⟨rfl, by decide +kernel⟩, rfl, by decide +kernel,
    ⟨_, _, _, _, found_there (by decide +kernel), by decide +kernel⟩, by simp [FenceMay],
    fun h => (h.1 (by decide) (by decide) (by decide +kernel)).1 tHeld (by decide +kernel) (by decide) |>.2.1 rfl, rfl, rfl⟩

theorem test_hyp_copies : let s := tGen (tCtx [(1, 0x100), (2, 0x40), (4, 0x300000004)])
    (1#6 ≠ 0 ∧ (s.engine (engineOf 0)).length < 64) ∧ GTurn s 0 0 [3, 1, 2, 4] ∧ GTurn s 0 0 [3, 1, 4] ∧ GTurn s 0 0 [3, 1, 0] ∧
      ((s.ctx 0).get 0).toNat % 2 ^ 32 = 0 ∧
      ((s.ctx 0).get 1).toNat + ((s.ctx 0).get 4).toNat % 2 ^ 32 ≤ (s.team 0).share ∧
      (s.team 0).share < (0xFFF#64).toNat + 4 ∧ ((s.ctx 0).get 2).toNat % 16 = 0 :=
  ⟨by decide +kernel, ⟨rfl, by decide +kernel⟩, ⟨rfl, by decide +kernel⟩, ⟨rfl, by decide +kernel⟩, by decide +kernel⟩

/-- A queue entry in a group's or the matrix unit's queue. -/
def tEntry : QEntry := {}

/-- A state with group 0 changed. -/
def State.tGrp0 (s : State) (f : Group → Group) : State := s.updGrp 0 f

theorem test_hyp_emit : let s := tGen (tCtx [(1, 7)])
    GTurn s 0 0 [1] ∧ ¬ GroupOpen s 0 2 ∧ GroupOpen s 0 1 ∧ (s.grp 1).queue.length < 192 ∧ liveOf s 0 1 < 64 ∧
      192 ≤ ((s.tGrp0 (fun g => { g with queue := List.replicate 192 tEntry })).grp 0).queue.length ∧
      64 ≤ liveOf (s.tGrp0 (fun g => { g with queue := List.replicate 64 tEntry })) 0 0 :=
  ⟨⟨rfl, by decide +kernel⟩, fun h => absurd h.2.1 (by decide +kernel), ⟨by decide, by decide +kernel, by decide +kernel⟩,
    by decide +kernel⟩

theorem test_hyp_feeders : let s := tGen (tCtx [(1, 7), (2, 3)])
    GTurn s 0 0 [1, 2] ∧ (s.team 0).mq.length < 192 ∧ ((s.team 0).mq.filter (fun e => !e.consumed)).length < 64 ∧
      (∀ g, g < 16 → ((s.ctx 0).get 2).getLsbD g = true →
        GroupOpen s 0 g ∧ (s.grp (0 * 16 + g)).queue.length < 192 ∧ liveOf s 0 g < 64) ∧
      (∃ u l, s.literal 0 0 0x100#64 1 = (u, some l)) ∧ (s.grp 0).kq.length < 32 ∧ (s.team 0).owed 0 = 0 ∧
      ({ tTeam with emit := [(0, 3#8)] } : Team).owed 0 ≠ 0 := by
  refine ⟨⟨rfl, by decide +kernel⟩, by decide +kernel, by decide +kernel, ?_, read_some (by decide +kernel), by decide +kernel⟩
  unfold GroupOpen; decide +kernel

theorem test_hyp_pop : let s := (tGen (tCtx [])).tGrp0 (fun g => { g with rq := [{ val := 9#64 }] })
    GTurn s 0 0 [1] ∧ (0#4).toNat < (s.team 0).groups ∧ (s.team 0).groups ≤ (2#4).toNat ∧
      ((s.grp 0).rq.filter (fun e => !e.popped)).map (·.val) = 9#64 :: [] ∧
      ((s.grp 1).rq.filter (fun e => !e.popped)).map (·.val) = [] :=
  ⟨⟨rfl, by decide +kernel⟩, by decide +kernel⟩

theorem test_hyp_region : let s := tGen (tCtx [(1, 3)])
    let u := s.tGrp0 (fun _ => { armed := false })
    GTurn s 0 0 [2, 1] ∧ (∀ x, x < (s.team 0).groups → (s.team 0).owed x = 0 ∧ liveOf s 0 x < 64) ∧
      (s.team 0).regIssued = (s.team 0).regCommitted ∧
      ((u.grp 0).armed = false ∧ (u.grp 0).queue.length < 192 ∧ (u.grp 0).pend = []) ∧
      ({ tTeam with mq := [{ val := 0x40000C01#64 }] } : Team).batchDone 1 = false ∧ (s.team 0).batchDone 1023 = true :=
  ⟨⟨rfl, by decide +kernel⟩, by decide +kernel, rfl, by decide +kernel, by decide +kernel, by decide +kernel⟩

theorem test_hyp_barriers : let s := tGen (tCtx [(1, 3)])
    let x : W64 := 0x10001#64
    GTurn s 0 0 [1] ∧ (s.team 0).bars ≤ 4 ∧ 3 < (s.team 0).bars ∧ ((s.team 0).bar 3).toNat / 2 ^ 18 % 2 ^ 18 = 0 ∧
      (∀ g, g < 16 → (3 : Nat).testBit g = true → GroupOpen s 0 g) ∧ BarOpen x 16 ∧ ¬ BarOpen (x ||| 0x400000000#64) 16 ∧
      x.getLsbD 54 = (0#64).getLsbD 0 ∧ x.getLsbD 54 ≠ ((s.ctx 0).get 1).getLsbD 0 ∧ (s.ctx 0).arrived = none ∧
      ({ arrived := some (3, true) } : Ctx).arrived = some (3, true) ∧
      ({ wait := .barrier 3 true false } : Ctx).wait = .barrier 3 true false :=
  ⟨⟨rfl, by decide +kernel⟩, by decide +kernel, by decide +kernel, by decide +kernel, by unfold GroupOpen; decide +kernel,
    by unfold BarOpen; decide, by unfold BarOpen; decide, by decide +kernel, by decide +kernel, rfl, rfl, rfl⟩

/-- A retired group that owes words keeps the team from a REGION. -/
theorem test_hyp_region_open : let s : State := { tState (.gen 0 0) (tCtx []) { tTeam with emit := [(1, 3#8)] } {} with
      groups := [(0, {}), (1, { armed := false })] }
    GTurn s 0 0 [] ∧ 1 < (s.team 0).groups ∧ (s.team 0).owed 1 ≠ 0 ∧ (∀ y, y < 1 → (s.team 0).owed y = 0) ∧
      (s.grp (0 * 16 + 1)).armed = false ∧ (s.grp (0 * 16 + 1)).queue.length < 192 ∧ (s.grp (0 * 16 + 1)).late = [] :=
  ⟨⟨rfl, by decide⟩, by decide +kernel⟩

/-- Team 0 is the first of a gang. -/
def tGang : State := { tState (.gen 0 0) (tCtx [(1, 1)]) { tTeam with gang := some 0, gbMember := [0] } {} with
  gangs := [(0, { tids := [0] })] }

theorem test_hyp_gang : GTurn tGang 0 0 [1] ∧ ((tGen {}).team 0).gang = none ∧ (tGang.team 0).gang = some 0 ∧
    (kvFind tGang.gangs 0).isSome = true ∧ (tGang.gang 0).bar 7 = (1, 0, 0, false) ∧ (tGang.team 0).gangIdx = 0 ∧
      0 ∈ (tGang.team 0).gbMember ∧ 0 ∉ (tGang.team 0).gbArrived ∧ (tGang.team 0).gbOwed = none ∧
      false = (0#64).getLsbD 0 ∧ false ≠ ((tGang.ctx 0).get 1).getLsbD 0 ∧ ∃ u, tGang.regionTry 0 0 = (u, true) := by
  exact ⟨⟨rfl, by decide +kernel⟩, rfl, rfl, rfl, by decide +kernel, rfl, by decide +kernel, by decide +kernel, rfl, rfl,
    by decide +kernel, _, Prod.ext rfl (by decide +kernel)⟩

theorem test_hyp_gang_arrival : let o : GbOwed := { gb := 7, drop := false, word := 0, pc := 0, region := 0, upTo := 0 }
    let t : Team := { tTeam with gang := some 0, gbMember := [7], gbOwed := some o }
    let s := { tState (.gen 0 0) { wait := .gangRegion 7 false } t {} with
      gangs := [(0, { tids := [0] })] }
    (s.team 0).gbOwed = some o ∧ o.left = false ∧ o.region ≤ (s.team 0).regCommitted ∧ s.holdPast (0 / 4) o.upTo = true ∧
      7 ∈ (s.team 0).gbMember ∧ 7 ∉ (s.team 0).gbArrived ∧ 6 ∉ (s.team 0).gbMember ∧
      (s.ctx 0).wait = .gangRegion 7 o.drop ∧ GTurn s 0 0 [1] ∧ (s.gang 0).bar 7 = (1, 0, 0, false) :=
  ⟨rfl, rfl, by decide +kernel, by decide +kernel, by decide +kernel, by decide +kernel, by decide +kernel, rfl,
    ⟨rfl, by decide +kernel⟩, by decide +kernel⟩

theorem test_hyp_supervisor : let s := tSolo 4096 (tCtx [(1, 0x10000), (2, 0x9000)])
    isSup 4096 = true ∧ GTurn s 4096 0 [3, 2, 1] ∧ (s.die 0).recv = [] ∧ (s.die 0).fq = [] ∧ (tlbiArg 0 0).kind ≠ 3 ∧
      (tlbiArg 0 0).drain = false ∧ (∀ k, (s.ctx 4096).wait ≠ .tlbi k) ∧ ((s.ctx 4096).get 1).toNat % 64 = 0 ∧
      (s.sends.filter (fun e => e.1 == 4096)).length < 8 := by
  refine ⟨by decide, ⟨rfl, by decide +kernel⟩, rfl, rfl, by decide +kernel, by decide +kernel, ?_, by decide +kernel,
    by decide +kernel⟩
  intro k h; cases h

theorem test_hyp_messages :
    (∃ u pls home os v x, Found tSoloMem 4096 ((tSoloMem.ctx 4096).get 1) .load u pls home os ∧
      u.ctxRead 4096 (readPlace 0 pls) 64 os = (v, some x)) ∧
    ((Message.ofBytes []).dw0.getLsbD 38 = false ∧ (Message.ofBytes []).dw0.toNat % 2 ^ 10 = 0) ∧
    ((Message.ofBytes [1, 0, 0, 0, 0x40]).dw0.getLsbD 38 = true ∧ (Message.ofBytes [1, 0, 0, 0, 0x40]).dw0.toNat % 2 ^ 10 ≠ 0) ∧
    tSoloMem.egressPast (2048 + 4096) = true ∧
    ({ tSoloMem with iods := [(0, { egress := [{ unit := 2048 + 4096 }] })] } : State).egressPast (2048 + 4096) = false ∧
    8 ≤ (({ tSoloMem with sends := List.replicate 8 (4096, 0, {}) } : State).sends.filter (fun e => e.1 == 4096)).length :=
  ⟨⟨_, _, _, _, _, _, found_there (by decide +kernel), (read_some (by decide +kernel)).choose_spec.choose_spec⟩,
    by decide +kernel⟩

theorem test_hyp_swap : let t : Team := { tTeam with swapArea := 0x100000#64 }
    let s := { tState (.gen 4096 0) {} t {} with ctxs := [(0, {}), (4096, tCtx [(1, 0), (2, 2 ^ 63)])] }
    GTurn s 4096 0 [3, 1] ∧ coreDie (((s.ctx 4096).get 1).toNat % 1024) = ctxDie 4096 ∧ s.hasTeam 0 = true ∧
      (s.team 0).gang = none ∧ (s.team 0).swapArea ≠ 0 ∧ (s.team 0).life = .running ∧ 2 ^ 63 ≤ ((s.ctx 4096).get 2).toNat ∧
      ({ t with life := .swapAsked true } : Team).life = .swapAsked true :=
  ⟨⟨rfl, by decide +kernel⟩, by decide +kernel⟩

/-- The prologue context of die 0, for launch 5. -/
def tPro (c : Ctx) : State := { tSolo 4136 c with
  dies := [(0, { prologue := some 5 })], launches := [(5, { field := [(0, 1#64)], stage := .prologue })] }

theorem test_hyp_prologue : let s := tPro (tCtx [(1, 65535), (2, 65536)])
    isPro 4136 = true ∧ (s.die (ctxDie 4136)).prologue = some 5 ∧ (∃ l, kvFind s.launches 5 = some l ∧ l.inSeries = false ∧
      l.cancelled = false ∧ l.windowOk = true ∧ s.rejects l = none) ∧ GTurn s 4136 0 [1] ∧ GTurn s 4136 0 [] ∧
      (0#6).toNat < 23 ∧ (∃ o k, fieldPlace 0 = some (o, k)) ∧ (∃ o k, fieldPlace 22 = some (o, k) ∧ (22#6).toNat < 23) ∧
      23 ≤ (23#6).toNat ∧ (23#6).toNat < 24 ∧ 24 ≤ (24#6).toNat ∧ lsetOk {} 14 (65535 % 2 ^ 16) = false ∧ lsetOk {} 14 0 = true ∧
        65535 < ((s.ctx 4136).get 2).toNat ∧
      ((s.ctx 4136).get 1).toNat ≤ 65535 :=
  ⟨by decide, by decide +kernel, ⟨_, rfl, by decide +kernel⟩, ⟨rfl, by decide +kernel⟩, ⟨rfl, by decide +kernel⟩, by decide,
    ⟨_, _, rfl⟩, ⟨_, _, rfl, by decide⟩, by decide, by decide, by decide, by decide +kernel, by decide +kernel, by decide +kernel,
    by decide +kernel⟩

theorem test_hyp_recv : let s := tSoloMem.updDie 0 (fun k => { k with recv := [{ payload := [0, 0, 0, 0, 0] }] })
    (∃ u pls home os, Found s 4096 ((s.ctx 4096).get 1) .store u pls home os ∧ u.egressRoom 0 pls = true) ∧
      ((s.ctx 4096).get 1).toNat % 64 = 0 ∧ (s.die (ctxDie 4096)).recv = { payload := [0, 0, 0, 0, 0] } :: [] :=
  ⟨⟨_, _, _, _, found_there (by decide +kernel), by decide +kernel⟩, by decide +kernel, by decide +kernel⟩

/-! ## Witnesses: what the statements about group words suppose -/

/-- Vector registers by register and lane. -/
def tVec (l : List (Nat × Nat × W32)) : Sparse 32 := l.foldl (fun a e => spSet a (e.1 * 32 + e.2.1) e.2.2) []

/-- A group whose lanes 0 and 31 are active, with an element type, and two K constants. -/
def tGroup (ty : Nat) (v : List (Nat × Nat × W32)) : Group :=
  { active := 0x80000001#32, mode := BitVec.ofNat 32 (ty * 32), v := tVec v, kq := [{ val := 5#32 }, { val := 6#32 }] }

theorem test_hyp_body : let s := tGrp 0 (tGroup 0 [])
    CTurn s 0 { val := 0 } 0 [127, 1, 127] ∧ (∃ c, (s.grp 0).clause = some c ∧ c.esns.length ≤ c.pos ∧ c.pos + 1 < c.words.length) ∧
      2 ≤ (kWaiting (s.grp 0)).length :=
  ⟨⟨by decide +kernel, by decide +kernel, by decide +kernel⟩, ⟨_, rfl, by decide +kernel⟩, by decide +kernel⟩

theorem test_hyp_body_waits : let s := tGrp 0 {}
    let u := (tGen {}).tGrp0 id
    s.cur = .grp 0 { val := 0 } 0 ∧ cSources (.cMov 1 127) = some [127] ∧ (u.grp 0).clause = none ∧
      (s.grp 0).clause.isSome = true ∧ (kWaiting (s.grp 0)).length < [(127 : BitVec 7)].count 127 :=
  ⟨by decide +kernel, rfl, by decide +kernel, by decide +kernel, by decide +kernel⟩

theorem test_hyp_lane_words : let g := tGroup 0 [(1, 0, 7#32)]
    (∃ ok f, cLaneWord (.cPack 1 1 2) g = some (1, [1, 2], ok, f) ∧ ok 1 = true ∧ ok (elemType g) = false) ∧ elemType g = 0 ∧
      elemType (tGroup 1 []) = 1 :=
  ⟨⟨_, _, rfl, by decide, by decide +kernel⟩, by decide +kernel, by decide +kernel⟩

theorem test_hyp_int_words : (∃ r, cIntWord (.cIadd 1 2 3) = some (1, [2, 3], r)) ∧
    intType (elemType (tGroup 7 [])) = some (8, true) ∧ intType (elemType (tGroup 0 [])) = none :=
  ⟨⟨_, rfl⟩, by decide +kernel, by decide +kernel⟩

theorem test_hyp_dot_words : CTurn (tGrp 0 (tGroup 8 [])) 0 { val := 0 } 0 [1, 2, 3] ∧ elemType ((tGrp 0 (tGroup 8 [])).grp 0) = 8 ∧
    CTurn (tGrp 0 (tGroup 3 [])) 0 { val := 0 } 0 [1, 2] ∧ elemType ((tGrp 0 (tGroup 3 [])).grp 0) = 3 :=
  ⟨⟨by decide +kernel, by decide +kernel, by decide +kernel⟩, by decide +kernel,
    ⟨by decide +kernel, by decide +kernel, by decide +kernel⟩, by decide +kernel⟩

theorem test_hyp_float_words : (∃ op, cFloatWord (.cFsqrt 1 2) = some (1, [2], 2, op)) ∧
    floatType (elemType (tGroup 2 [])) 2 = some (fp16, 16) ∧ floatType (elemType (tGroup 10 [])) 2 = none ∧
      floatType (elemType (tGroup 10 [])) 10 = some (f8e5, 8) :=
  ⟨⟨_, rfl⟩, by decide +kernel⟩

theorem test_hyp_predicates : let g := tGroup 4 []
    (∃ f, cTestWord (.cIcmpLt 7 1 2) g = some (7, [1, 2], true, f)) ∧
      (∃ f, cTestWord (.cFcmpEq 7 1 2) g = some (7, [1, 2], false, f)) ∧
      (∃ m, cMaskWord (.cPset 3 127) g = some (3, [127], m)) ∧ (Instr.cVote 1 2 2).wf = true :=
  ⟨⟨_, rfl⟩, ⟨_, rfl⟩, ⟨_, rfl⟩, rfl⟩

theorem test_hyp_conversions : (10#7).toNat ≤ 10 ∧ elemType (tGroup 10 []) ≤ 10 ∧ typeBits (elemType (tGroup 10 [])) ≠ 32 ∧
    typeBits (elemType (tGroup 3 [])) = 32 ∧ (∃ node, redNodes (.cRedmin 1 2) (tGroup 3 []) = some (1, 2, node)) :=
  ⟨by decide, by decide +kernel, by decide +kernel, by decide +kernel, ⟨_, rfl⟩⟩

theorem test_hyp_headers : let g : Group := { queue := [{ val := 0xF0010000#64 }, { val := 0xB000000F#64 }] }
    let s := tState (.grp 0 { val := 0xF0010000#64 } 0) {} tTeam g
    s.cur = .grp 0 { val := 0xF0010000#64 } 0 ∧ (s.grp 0).clause = none ∧
      ((s.grp 0).queue.filter (fun x => !x.consumed)).drop 1 = [{ val := 0xB000000F#64 }] ∧
      (∀ x ∈ (s.grp 0).queue, x.at_ / 2 < s.clk / 2) ∧ spGet (s.grp 0).edge.cf 0 = 0 ∧ spGet [(0, 63#6)] 0 ≠ 0 ∧
      (∃ c, ((tGrp 0 {}).grp 0).clause = some c) :=
  ⟨by decide +kernel, by decide +kernel, by decide +kernel, by decide +kernel, by decide +kernel, by decide, ⟨_, rfl⟩⟩

theorem test_hyp_control : let s := tGrp 0 { tGroup 0 [] with stack := List.replicate 15 {} }
    let u := tGrp 0 { tGroup 0 [] with stack := List.replicate 16 {}, loopOn := true }
    CTurn s 0 { val := 0 } 0 [127] ∧ (s.grp 0).stack.length < 16 ∧ 16 ≤ (u.grp 0).stack.length ∧ (s.grp 0).loopOn = false ∧
      (u.grp 0).loopOn = true ∧ (∃ r l, (s.grp 0).stack = r :: l) ∧ ((tGrp 0 {}).grp 0).stack = [] ∧
      (kWaiting (s.grp 0)).headD 0 ≠ (s.grp 0).sig ∧ (0x8940#32).toNat % 16 ≤ 8 ∧ ¬ (9#32).toNat % 16 ≤ 8 :=
  ⟨⟨by decide +kernel, by decide +kernel, by decide +kernel⟩, by decide +kernel, by decide +kernel, by decide +kernel,
    by decide +kernel, ⟨_, _, rfl⟩, by decide +kernel, by decide +kernel, by decide, by decide⟩

/-- The lanes whose pages are there. -/
def tLaneOks (s : State) (gid : Nat) (n : Need) (vas : List (Nat × W64)) : List LaneOk :=
  let x := s.walkLanes (gid / 64) (s.team (gid / 16)).asid.toNat n vas
  x.2.filterMap (fun y => y.2.2.good (x.1.die 0).devnum.toNat y.1 y.2.1)

/-- Every lane finds its page, and may read it where it reads. -/
def tLanes (s : State) (gid : Nat) (n : Need) (vas : List (Nat × W64)) : Bool :=
  let x := s.walkLanes (gid / 64) (s.team (gid / 16)).asid.toNat n vas
  let pls := (tLaneOks s gid n vas).flatMap (fun a => a.pls)
  x.2.all (fun y => tThere y.2.2) && (!n.r || (!x.1.engineOwns pls && !x.1.hostWaits pls))

/-- Every lane's page is there. -/
theorem lanes_found {s : State} {gid : Nat} {n : Need} {vas : List (Nat × W64)}
    (h : tLanes s gid n vas = true) : LanesFound s gid n false vas
      (s.walkLanes (gid / 64) (s.team (gid / 16)).asid.toNat n vas).1 (tLaneOks s gid n vas) := by
  simp only [tLanes, Bool.and_eq_true] at h
  obtain ⟨h1, h2⟩ := h
  refine ⟨_, Prod.ext rfl rfl, fun x hx => .inl ?_, rfl, ?_⟩
  · have := List.all_eq_true.mp h1 x hx
    revert this
    cases x.2.2 <;> simp [tThere]
  · intro hr
    simpa [hr] using h2

theorem test_hyp_group_access : let s := tGrp 0 (tGroup 0 [(1, 0, 0x100#32), (1, 31, 0x180#32), (2, 0, 2#32)])
    CTurn s 0 { val := 0 } 0 [1] ∧ (s.grp 0).flagFull = false ∧
      (∀ x ∈ laneAddrs (s.grp 0) 0 [1], x.2.toNat % 2 ^ 3 = 0) ∧
      (∃ u ls, LanesFound s 0 .load false (laneAddrs (s.grp 0) 0 [1]) u ls) ∧
      (∃ u ls, LanesFound s 0 .amo false (laneAddrs (s.grp 0) 0 [1]) u ls ∧
        ∀ a ∈ ls, isFar a.home = false ∧ isMmio a.home = false ∧ u.poisoned a.home = false ∧ u.blockErrs (a.home / 64) ≤ 64 ∧
          (∀ x ∈ a.home :: a.pls, u.leaseBlocks 0 (x / 128) = false) ∧ u.egressRoom (coreDie 0) (a.home :: a.pls) = true ∧
          u.promoted 0 0 false (a.home :: a.pls) = true) ∧
      (∃ x ∈ laneAddrs (s.grp 0) 0 [2], x.2.toNat % 2 ^ 2 ≠ 0) ∧ (∀ h ∈ (s.core 0).hold, h.team ≠ 0) ∧ ReleaseFree s 0 4 :=
  ⟨⟨by decide +kernel, by decide +kernel, by decide +kernel⟩, by decide +kernel, by decide +kernel,
    ⟨_, _, lanes_found (by decide +kernel)⟩, ⟨_, _, lanes_found (by decide +kernel), by decide +kernel⟩, by decide +kernel,
    by decide +kernel, .inr ⟨by decide +kernel, .inr (by decide +kernel)⟩⟩

theorem test_hyp_group_share : let s := tGrp 0 (tGroup 0 [(1, 0, 4088#32), (1, 31, 0#32), (2, 0, 4096#32), (3, 0, 1#32)])
    OffsOk (s.team 0) 3 (laneOffs (s.grp 0) [1, 0]) ∧ (∃ y ∈ laneOffs (s.grp 0) [2, 0], (s.team 0).share ≤ y.2.toNat) ∧
      (∃ y ∈ laneOffs (s.grp 0) [3, 0], y.2.toNat % 2 ^ 2 ≠ 0) ∧
      (∀ y ∈ laneOffs (s.grp 0) [1, 0], (s.team 0).rangePoisoned y.2.toNat 8 = false ∧ (s.team 0).spFull y.2.toNat = false) ∧
      ((laneOffs (s.grp 0) [1, 0]).map (fun y => y.2.toNat / 4)).Nodup ∧
      ({ tTeam with spTag := [0, 1022] } : Team).spFull 4088 = true ∧ CTurn s 0 { val := 0 } 0 [1, 0, 2] :=
  ⟨by unfold OffsOk; decide +kernel, by decide +kernel, by decide +kernel, by decide +kernel, by decide +kernel,
    by decide +kernel, by decide +kernel, by decide +kernel, by decide +kernel⟩

/-- Two lanes share word 8 of the share: the second finds it as the first has left it. -/
theorem test_hyp_shared_word : let s := tGrp 0 (tGroup 0 [(1, 0, 8#32), (1, 31, 8#32)])
    let t : Team := { tTeam with spTag := [2] }
    laneOffs (s.grp 0) [1, 0] = [(0, 8)] ++ (31, 8) :: [] ∧ OffsOk t 2 (laneOffs (s.grp 0) [1, 0]) ∧ t.spFull 8 = true ∧
      tTeam.spFull 8 = false ∧ ([(0, 8#64)].map (fun x => x.2.toNat / 4)).Nodup ∧
        (8#64).toNat / 4 ∈ [(0, 8#64)].map (fun x => x.2.toNat / 4) ∧
      ¬ ((laneOffs (s.grp 0) [1, 0]).map (fun y => y.2.toNat / 4)).Nodup ∧ LongFree s 0 ∧
      ({ t with spPoison := [2] } : Team).spPoisoned 8 = true := by
  unfold OffsOk LongFree; decide +kernel

theorem test_hyp_exchange : let s : State := { (tGrp 0 (tGroup 0 [(2, 0, 1#32)])).updTeam 0 (fun t => { t with gang := some 0 }) with
      gangs := [(0, { tids := [0, 4], w := 2, h := 1, xwin := 64 })] }
    CTurn s 0 { val := 0 } 0 [2, 1, 1] ∧ (s.team 0).gang = some 0 ∧
      (∀ l ∈ runLanes (s.grp 0), (xstTargets (s.gang 0) (operand (s.grp 0) [2, 1, 1] 0 l)).isSome = true ∧
        (operand (s.grp 0) [2, 1, 1] 1 l).toNat < (s.gang 0).xwin ∧ (operand (s.grp 0) [2, 1, 1] 1 l).toNat % 4 = 0) ∧
      (s.core 0).hold.length + (runLanes (s.grp 0)).length ≤ 128 :=
  ⟨⟨by decide +kernel, by decide +kernel, by decide +kernel⟩, by decide +kernel, by decide +kernel, by decide +kernel⟩

/-- A release FENCE of a group waits for a store of its core, and goes on without one. -/
theorem test_hyp_group_fence : let s := tGrp 0 { tGroup 0 [] with mode := 0x4000#32 }
    let scope := (s.grp 0).mode.toNat / 2 ^ 13 % 8
    let eng := (s.grp 0).mode.toNat / 2 ^ 20 % 8
    CTurn s 0 { val := 0 } 0 [] ∧ (s.grp 0).loopOn = false ∧ 2 ≤ scope ∧ eng = 0 ∧ FenceMayC s 0 2 scope eng 0 1 0 0 ∧
      ¬ FenceMayC (s.tHold [tHeld]) 0 2 scope eng 0 1 0 0 := by
  refine ⟨⟨by decide +kernel, by decide +kernel, by decide +kernel⟩, by decide +kernel, by decide +kernel, by decide +kernel,
    ?_, ?_⟩
  · refine ⟨fun _ _ => by decide +kernel, ?_, ?_, ?_, ?_⟩ <;> intro h <;> exact absurd h (by decide +kernel)
  · exact fun h => ((h.1 (by decide) (by decide +kernel)).1 tHeld (by decide +kernel) (by decide)).2.1 rfl

theorem test_hyp_group_sync : let s := tGrp 0 (tGroup 0 [(1, 0, 0x100#32)])
    let u := tGrp 0 { tGroup 0 [] with rq := List.replicate 16 {} }
    CTurn s 0 { val := 0 } 0 [1, 2] ∧ (s.grp 0).rq.length < 16 ∧ 16 ≤ (u.grp 0).rq.length ∧ (s.grp 0).loopOn = false ∧
      (∃ v ls, LanesFound s 0 .load false [(uniformLane (s.grp 0), 0x100#64)] v ls) ∧ (3 < (s.team 0).bars ∧ (s.team 0).bars ≤ 4) ∧
      (s.grp 0).pend = [] ∧ BarOpen 1#64 0 ∧ ¬ BarOpen 0x40001#64 0 ∧ (s.team 0).batchDone 0 = true :=
  ⟨⟨by decide +kernel, by decide +kernel, by decide +kernel⟩, by decide +kernel, by decide +kernel, by decide +kernel,
    ⟨_, _, lanes_found (by decide +kernel)⟩, by decide +kernel, by decide +kernel, by unfold BarOpen; decide,
      by unfold BarOpen; decide,
    by decide +kernel⟩

/-! ## Witnesses: what the statements about matrix words, packets, events and the machine suppose -/

/-- A team with two operands: md0 of one row of 32 elements, md1 of 32 rows of one, handle ah2 on slot 0, and slot 1 free. -/
def tMma : Team :=
  { tTeam with md := [(0, 0x0004001F00000040#128), (1, 0x0001000001F00400#128)], ah := [(2, 0x8000#16)], free := [1] }

theorem test_hyp_handles : HandleIs tMma 2 0 ∧ (spGet tMma.ah 3).getLsbD 15 = false ∧ tMma.share < 4096 / 32 * 32 + 4 ∧
    (127 * 32) + 4 ≤ tMma.share ∧ tMma.spPoisoned (127 * 32) = false ∧ (tMat tMma).cur = .mat 0 {} :=
  ⟨⟨by decide, by decide⟩, by decide, by decide, by decide, by decide, by decide +kernel⟩

theorem test_hyp_batches : 3 < tMma.bars ∧ (0x20000#64).getLsbD 17 = true ∧ (0x800020000#64).getLsbD 35 = true := by decide

theorem handle_is_two {h x : Nat} (hx : HandleIs tMma h x) : h = 2 ∧ x = 0 := by
  by_cases e : h = 2
  · subst e; exact ⟨rfl, hx.2.symm⟩
  · have h1 := hx.1
    simp [tMma, spGet, e] at h1

theorem test_hyp_mma : let gs : List MGroup := [{ h := 1, b := tMma.desc 1, lo := 0, c := 64 }]
    SlotsApart tMma gs ∧ MmaReady tMma (tMma.desc 0) gs 1 0 (tMma.desc 0).rows true false false [] := by
  refine ⟨⟨by decide, by decide, by decide, by decide, ?_, ?_⟩, fun g _ => .inr rfl, by decide +kernel, nofun,
    by decide +kernel, by decide +kernel, nofun, by decide +kernel, by decide +kernel, by decide +kernel,
    by decide +kernel, by decide +kernel, by decide +kernel, by decide +kernel⟩
  · intro h k x h1 h2; rw [(handle_is_two h1).1, (handle_is_two h2).1]
  · intro h x h1; rw [(handle_is_two h1).2]; decide

/-- The group table of an MMAG of two groups: one of one row, and an empty one. -/
theorem test_hyp_mmag : let t : Team := { tMma with sp := [(32, 1#8)] }
    let da := t.desc 0
    let cs := (List.range 2).map (fun i => t.spRead (da.base - 32 + i) 1)
    let gs : List MGroup := [{ h := 1, b := t.desc 1, lo := 0, c := 1 }]
    cs = [1, 0] ∧ 32 ≤ da.base ∧ da.base ≤ t.share + 16 ∧ SlotsApart t gs ∧
      MmaReady t da gs 1 cs.sum cs.sum true false false [da.below 32] := by
  refine ⟨by decide +kernel, by decide, by decide, ⟨by decide, by decide, by decide, by decide, ?_, ?_⟩, fun g _ => .inr rfl,
    by decide +kernel, nofun, by decide +kernel, by decide +kernel, nofun, by decide +kernel, by decide +kernel,
    by decide +kernel, by decide +kernel, by decide +kernel, by decide +kernel, by decide +kernel⟩
  · intro h k x h1 h2; rw [(handle_is_two h1).1, (handle_is_two h2).1]
  · intro h x h1; rw [(handle_is_two h1).2]; decide

theorem test_hyp_tiles : let d := tMma.desc 1
    HandleIs tMma 2 0 ∧ (d.shapeOk 4 = true ∧ d.rows ≤ 64 ∧ d.cols ≤ 64) ∧
      (∀ p ∈ d.rowPieces d.rows 4 ++ [d.below 16], 0 ≤ p.off ∧ p.off + p.n ≤ (tMma.share : Int)) ∧
      tMma.poisonIn (d.rowPieces d.rows 4) = none ∧ 2 * tMma.xwin ≤ tMma.share ∧ tMma.share % 4 = 0 ∧ tMma.xwin % 4 = 0 :=
  ⟨⟨by decide, by decide⟩, by decide +kernel, by decide +kernel, by decide +kernel, by decide, by decide, by decide⟩

/-- A packet of a length, header bits and body. -/
def tPacket (n : Nat) (h : BitVec 48) (b : List W64) : Packet := { len := BitVec.ofNat 8 n, hdr := h, body := b }

/-- A packet stands at a lane of a queue of 512 units. -/
def tAt (p : Packet) : State :=
  tLane p { wa := 300#32 } { fetched := [List.replicate p.len.toNat (0, 0), [], [], [], []] }

theorem test_hyp_packets : PTurn (tAt (tPacket 1 7 [])) 0 0 (tPacket 1 7 []) .pSetprio 1 ∧
    PTurn (tAt (tPacket 3 0 [8, 1])) 0 0 (tPacket 3 0 [8, 1]) .pCallib 3 ∧
    PTurn (tAt (tPacket 1 0xFFFF [])) 0 0 (tPacket 1 0xFFFF []) .pLoop 1 ∧
    PTurn (tAt (tPacket 1 0 [])) 0 0 (tPacket 1 0 []) .pDrain 1 ∧ PTurn (tAt (tPacket 1 0 [])) 0 0 (tPacket 1 0 []) .pEndloop 1 ∧
    PTurn (tAt (tPacket 1 0 [])) 0 0 (tPacket 1 0 []) .pFetchfence 1 ∧
    PTurn (tAt (tPacket 255 0 [])) 0 0 (tPacket 255 0 []) .pNopPacket 255 := by
  refine ⟨?_, ?_, ?_, ?_, ?_, ?_, ?_⟩ <;>
    exact ⟨by decide +kernel, ⟨_, rfl, by decide +kernel⟩, by decide +kernel, by decide, by decide +kernel, by decide +kernel,
      by decide +kernel, by decide +kernel⟩

theorem test_hyp_packet_lane : let s := tAt (tPacket 1 0 [])
    let x := s.laneQueue 0 0
    x.level < 4 ∧ x.levels.length = 4 ∧ (s.lane 0 0).fetched.length = 5 ∧ (s.lane 0 0).stop = none ∧ x.loops = [] ∧
      (∀ y ∈ s.launches, ¬ (y.2.iod = 0 ∧ y.2.q = (s.lane 0 0).q)) ∧ x.wa ≠ x.ri + 1 ∧ 3 ≤ x.lsize ∧ x.lsize ≤ 35 ∧
      (∃ m, packetShape .pPred (tPacket 4 15 []) = some (4, m, true)) ∧ s.tableRoom 0 x.asid = true := by
  refine ⟨by decide +kernel, by decide +kernel, by decide +kernel, by decide +kernel, by decide +kernel, by decide +kernel,
    by decide +kernel, by decide +kernel, by decide +kernel, ⟨_, rfl⟩, by decide +kernel⟩

/-- A queue in a buffer of level 1 that one unit is left of, with a loop that stands at a level. -/
def tBuffer (loops : List LoopEntry) : Queue :=
  { wa := 4#32, level := 1, levels := [{ addr := 0x1000#64, left := 1 }, {}, {}, {}], loops := loops }

theorem test_hyp_packet_ends :
    let s := tLane (tPacket 1 0 []) (tBuffer []) { fetched := [[], [(0x0001000000000000#64, 0)], [], [], []] }
    let u := tLane (tPacket 1 0 []) (tBuffer [{ level := 1, left := 2, start := 0xFF8#64 }]) {}
    let v := tLane (tPacket 1 0 []) { wa := 4#32, loops := [{ level := 0, left := 2 }] } {}
    kvFind (s.pewter 0).queues (s.lane 0 0).q = some (s.laneQueue 0 0) ∧ s.laneOf 0 (s.lane 0 0).q = some 0 ∧
      (s.lane 0 0).stop = none ∧ (s.laneQueue 0 0).level = 1 ∧ (s.laneQueue 0 0).lv.left = 1 ∧ (s.laneQueue 0 0).loops = [] ∧
      (s.laneQueue 0 0).wa ≠ (s.laneQueue 0 0).ri ∧ (∃ e ∈ (u.laneQueue 0 0).loops, e.level = (u.laneQueue 0 0).level) ∧
      (u.laneQueue 0 0).lv.left + ((u.laneQueue 0 0).lv.addr - 0xFF8#64).toNat / 8 ≠ 0 ∧
      (v.laneQueue 0 0).loops = [] ++ [{ level := 0, left := 2 }] ∧ (v.laneQueue 0 0).level = 0 ∧
      0x0E ≤ (0x1001000000000000#64).toNat / 2 ^ 56 := by
  decide +kernel

/-- A state whose I/O die 0 finds page 0 in its translation cache. -/
def tAtMem (p : Packet) : State :=
  let e : Tlb := { asid := 0, base := 0, size := 65536, pte := 0x39#64 }
  { tAt p with dies := [(0, { dmemcap := 0x100000#42 }), (8, { ats := [e] })] }

/-- The places of a lane's access. -/
def tPlaces (s : State) (i l : Nat) (va : W64) (n : Need) : List Nat :=
  let x := s.iodXlate i (s.laneQueue i l).asid va n
  placesOf (x.1.die 0).devnum.toNat (tLeaf x.2).1 (tLeaf x.2).2 va

/-- A lane finds its page, and may read it where it reads. -/
def tPage (s : State) (i l : Nat) (va : W64) (n : Need) : Bool :=
  let x := s.iodXlate i (s.laneQueue i l).asid va n
  tThere x.2 && (!n.r || !x.1.hostWaits (tPlaces s i l va n))

/-- A lane's page is there. -/
theorem packet_found {s : State} {i l : Nat} {va : W64} {n : Need}
    (h : tPage s i l va n = true) : PFound s i l va n (s.iodXlate i (s.laneQueue i l).asid va n).1 (tPlaces s i l va n)
      (homePlace ((s.iodXlate i (s.laneQueue i l).asid va n).1.die 0).devnum.toNat
        (tLeaf (s.iodXlate i (s.laneQueue i l).asid va n).2).1 (tLeaf (s.iodXlate i (s.laneQueue i l).asid va n).2).2 va)
      (pteKind (tLeaf (s.iodXlate i (s.laneQueue i l).asid va n).2).1) := by
  simp only [tPage, Bool.and_eq_true] at h
  obtain ⟨h1, h2⟩ := h
  refine ⟨(tLeaf (s.iodXlate i (s.laneQueue i l).asid va n).2).1, (tLeaf (s.iodXlate i (s.laneQueue i l).asid va n).2).2, ?_,
    rfl, rfl, rfl, ?_⟩
  · generalize s.iodXlate i (s.laneQueue i l).asid va n = x at h1 ⊢
    obtain ⟨u, w⟩ := x
    cases w <;> simp_all [tThere, tLeaf]
  · intro hr
    simpa [hr] using h2

theorem test_hyp_packet_memory : let p := tPacket 4 8 [0x100, 0, 0]
    let q := tPacket 3 0xD9 [0x100, 1]
    PTurn (tAtMem p) 0 0 p .pPred 4 ∧ (∃ u pls home os, PFound (tAtMem p) 0 0 0x100 .load u pls home os) ∧
      p.hdr.toNat % 8 ≤ 5 ∧ PTurn (tAtMem q) 0 0 q .pSignalAdd 3 ∧ q.hdr.toNat % 8 = 1 ∧ 2 ≤ q.hdr.toNat / 8 % 8 ∧
      q.hdr.toNat / 8 % 8 ≤ 4 ∧ (∃ u pls home os, PFound (tAtMem q) 0 0 0x100 .amo u pls home os ∧ isFar home = false ∧
        isMmio home = false ∧ u.poisoned home = false ∧ u.egressRoom 8 pls = true) ∧
      PTurn (tAtMem (tPacket 2 24 [8])) 0 0 (tPacket 2 24 [8]) .pTimestamp 2 ∧
      PTurn (tAtMem (tPacket 4 1 [0, 8, 16])) 0 0 (tPacket 4 1 [0, 8, 16]) .pCopyPacket 4 := by
  refine ⟨?_, ⟨_, _, _, _, packet_found (by decide +kernel)⟩, by decide, ?_, by decide, by decide, by decide,
    ⟨_, _, _, _, packet_found (by decide +kernel), by decide +kernel, by decide +kernel, by decide +kernel, by decide +kernel⟩,
    ?_, ?_⟩ <;>
    exact ⟨by decide +kernel, ⟨_, rfl, by decide +kernel⟩, by decide +kernel, by decide, by decide +kernel, by decide +kernel,
      by decide +kernel, by decide +kernel⟩

theorem test_hyp_launch : let p := tPacket 15 0 (List.replicate 14 0)
    PTurn (tAt p) 0 0 p .pLaunch 15 ∧ (launchCode p false).isSome = true ∧
      (let q := tPacket 15 0 [0, 0, 0, 0x100010001#64, 0x101010000#64, 0, 0, 0, 0, 0, 0, 0, 2, 0]
       launchCode q false = none ∧ LaunchRejected State.reset q none) ∧
      LaunchRejected State.reset (tPacket 15 0 [0, 0, 0, 0, 0x102001F#64]) (some 0x40) ∧
      LaunchRejected State.reset (tPacket 15 0 [0, 0, 0, 0x100010001#64, 0x600000101010000#64]) (some 0x41) := by
  refine ⟨⟨by decide +kernel, ⟨_, rfl, by decide +kernel⟩, by decide +kernel, by decide, by decide +kernel, by decide +kernel,
    by decide +kernel, by decide +kernel⟩, by decide +kernel, ⟨by decide +kernel, ?_⟩, ?_, ?_⟩
  · refine ⟨fun h => absurd ?_ h, fun _ h => absurd ?_ h, fun _ _ => rfl⟩ <;> decide +kernel
  · refine ⟨fun _ => rfl, fun h => absurd h.1 ?_, fun h => absurd h.1 ?_⟩ <;> decide +kernel
  · refine ⟨fun h => absurd ?_ h, fun _ _ => rfl, fun _ h => absurd h.1 ?_⟩ <;> decide +kernel

theorem test_hyp_module_events : let s := { tGen {} with cur := .event { a := 0, b := 0x100018, size := .aligned64, val := 99#64 } }
    s.cur = .event { a := 0, b := 0x100018, size := .aligned64, val := 99#64 } ∧ (0x100000 ≤ 0x100018 ∧ 0x17F010 < 0x180000) ∧
      s.populated 0xFFFFF = true ∧ s.populated 0x100000 = false ∧ ({ stage := 3 } : Smify).stage = 3 ∧
      State.reset.released = false :=
  ⟨rfl, by decide, by decide +kernel, by decide +kernel, rfl, rfl⟩

theorem test_hyp_kick : let q : Queue := { ri := 4#32, wa := 6#32, gen := 1 }
    let s := tLane {} q {}
    (s.pewter 0).qctl = true ∧ kvFind (s.pewter 0).queues 0 = some q ∧ q.fresh = true ∧
      ((0x100000204#64).toNat / 2 ^ 32 = q.gen ∧ ((0x204#32 - q.ri).toNat = q.capacity ∧ (q.wa - q.ri).toNat < 512)) ∧
      ((6#32 - q.ri).toNat ≤ (q.wa - q.ri).toNat) ∧ (6#64).toNat / 2 ^ 32 ≠ q.gen :=
  ⟨by decide +kernel, by decide +kernel, rfl, by decide +kernel, by decide, by decide⟩

theorem test_hyp_team_events : let s := (tGen {}).tHold [tHeld]
    let p : Pending := { op := .load 4, data := some [(0, 1#64)], issued := 0, floor := 48 }
    s.mayLeave 0 = true ∧ (s.core 0).hold = [tHeld] ∧ tHeld.xst = [] ∧
      (tHeld.bytes.map Prod.fst).Nodup ∧ (∀ e ∈ tHeld.bytes, e.1 < 128) ∧
      (p.dead = false ∧ p.accs = [] ∧ p.poison = none ∧ p.issued + p.floor ≤ s.clk) ∧
      ((tGrp 0 { pend := [p] }).grp 0).pend[0]? = some p ∧
      MayExit { tState (.event {}) { wait := .exit } { tTeam with groups := 0 } {} with groups := [] } 0 := by
  refine ⟨by decide +kernel, by decide +kernel, rfl, by decide, by decide, by decide +kernel, by decide +kernel, ?_⟩
  unfold MayExit; decide +kernel

theorem test_hyp_strike : let s := tGen {}
    let u := tState (.gen 0 0) {} { tTeam with sealed := true } {}
    s.hasTeam 0 = true ∧ (s.team 0).sealed = false ∧ (u.team 0).sealed = true ∧ (s.team 0).groups ≤ 16 ∧ coreDie 0 = 0 := by
  decide +kernel

/-- A leaf at home on die 1, which has failed, with a copy on die 3. -/
theorem test_hyp_rehome : let s : State := { tGen {} with dies := [(1, { hole := true })] }
    let e : W64 := 0x0800002000000039#64
    pteTier e = 0 ∧ isMmio (pteFrame e) = false ∧ (s.die 1).hole = true ∧ pteFrame e / 2 ^ 37 = 1 ∧
      e.getLsbD (56 + 3) = true ∧ (s.die 3).hole = false ∧ (∀ j < 3, e.getLsbD (56 + j) = true → (s.die j).hole = true) ∧
      (s.rehome e) = 0x6000000039#64 := by
  decide +kernel

theorem test_hyp_admission : let w : Waiting := { lid := 5 }
    let l : Launch := { field := [(2, 1), (3, 1), (4, 1), (7, 1), (8, 1), (9, 1)] }
    let s : State := { tGen {} with dies := [(0, { pending := [w] })], launches := [(5, l)] }
    s.nextWaiting 0 0 = some w ∧ w.swapped = none ∧ s.pickCore 0 w = some 0 ∧ s.hasTeam 1 = false ∧
      (∀ j < 1, s.hasTeam (0 * 4 + j) = true) := by
  decide +kernel

theorem test_hyp_late_poison : let p : Pending := { op := .load 4, poison := some 0x100#64, bad := 1#32, issued := 0, floor := 48 }
    ((tGrp 0 { pend := [p] }).grp 0).pend[0]? = some p ∧ p.dead = false ∧ p.accs = [] ∧
      p.issued + p.floor ≤ (tGrp 0 { pend := [p] }).clk ∧ (∀ k, p.op ≠ .store true k) :=
  ⟨by decide +kernel, rfl, rfl, by decide +kernel, nofun⟩

theorem test_hyp_delivery : let p : Pended := { agent := .grp 1, trec := { t0 := 0x11000101#64 } }
    let s := tState (.event {}) tOpen { tTeam with faults := [p] } {}
    let c := s.ctx 0
    let d : Ctx := { tOpen with tstatus := 3#32, tq := List.replicate 4 {} }
    s.hasTeam 0 = true ∧ c.pended = none ∧ (s.team 0).faults = p :: [] ∧ (s.grp (0 * 16 + 1)).pend = [] ∧ c.trapen = true ∧
      c.mask = false ∧ c.wait = .ready ∧ c.trec.code = 0 ∧ c.tq = [] ∧ c.pastArrival = false ∧ ({} : Ctx).trapen = false ∧
      d.mask = true ∧ 4 ≤ d.tq.length ∧ d.trapen = true := by
  decide +kernel

/-- The first GiB of address space 0 is mapped, and a team whose slot lies there has been asked to swap. -/
def tSwap : State :=
  let t : Team := { tTeam with groups := 1, accs := 0, share := 0, swapArea := 0x100000#64, life := .swapAsked false }
  let s := tState (.event {}) { wait := .parked } t { wait := .parked }
  (s.setDie 0 { dmemcap := 0x40000000#42, atroot := 0x80000#64 }).tableFor 0 0

theorem test_hyp_swap_out : tSwap.mayPreempt 0 = true ∧ (tSwap.team 0).slotPages = [0x100000#64] ∧
    (∃ p, (tSwap.team 0).slotPages.map (fun va => tSwap.slotPage (0 / 4) (tSwap.team 0).asid.toNat .store va) = [p].map some ∧
      ([p].flatMap Prod.fst).Nodup ∧ ∀ q ∈ [p].flatMap Prod.fst, q % 65536 = 0 ∧ q + 65536 ≤ 2 ^ 30) ∧
    ({ groups := [(0, {})], team := { groups := 1 } } : Swapped).groups.map Prod.fst = List.range 1 := by
  refine ⟨by decide +kernel, by decide +kernel, ⟨([0x100000], {}), by decide +kernel, by decide, ?_⟩, by decide⟩
  intro q hq
  rw [List.mem_singleton.mp hq]
  exact ⟨by decide +kernel, by decide +kernel⟩

/-- Page 0 as an engine's TLB holds it. -/
def tEngineTlb : Tlb := { asid := 0, base := 0, size := 65536, pte := 0x39#64 }

/-- A state whose engine 0 has an operation in its turn, and the translation of page 0 in its TLB. -/
def tCopy (o : CopyOp) : State :=
  { tGen (tCtx [(1, 5)]) with
    engines := [(0, [o])]
    dies := [(0, { dmemcap := 0x100000#42, cetlb := [(0, [tEngineTlb])] })] }

theorem test_hyp_copy_step : let o : CopyOp := { by_ := .ctx 0 3, src := 0x200#64, dst := 0x100#64, len := 128 }
    let s := tCopy o
    CopyTurn s 0 0 o ∧ o.done < o.total ∧ (o.done = 0 → o.refused = none) ∧ o.dstSp = false ∧
      (∃ pls, EngineFinds s 0 o (o.dst + BitVec.ofNat 64 o.done) .store pls ∧ ∀ q ∈ pls, isFar q = false ∧ isMmio q = false) ∧
      (∃ l, EngineFinds s 0 o (o.src + BitVec.ofNat 64 o.done) .load l) ∧
      ({ o with badFlags := true } : CopyOp).badFlags = true ∧ ({ o with overlap := true } : CopyOp).overlap = true ∧
        ¬ ShapeOk 0x6000000#64 := by
  refine ⟨?_, by decide +kernel, by decide +kernel, rfl, ⟨[0x100], ⟨by decide +kernel, by decide +kernel,
    tEngineTlb, 0x39#64, 65536, ?_⟩,
    by decide +kernel⟩, ⟨[0x200], by decide +kernel, by decide +kernel, tEngineTlb, 0x39#64, 65536, ?_⟩, rfl, rfl, ?_⟩
  · unfold CopyTurn; decide +kernel
  · decide +kernel
  · decide +kernel
  · unfold ShapeOk; decide +kernel

theorem test_hyp_park_reply : let r : Rec2 := { kind := 2, src := .agent 0 .gen, page := 0x20000, pageSize := 65536 }
    let s : State := { tState (.event { size := .aligned64 }) { wait := .parked, parkVa := 0x20100#64, pstat := 1#32 } tTeam {} with
      dies := [(0, { dmemcap := 0x100000#42, fq := [(0, r)] })] }
    let u := tState (.event {}) {} tTeam { wait := .parked, parkVa := 0x20100#64, heldWord := some {}, park := 1 }
    kvFind (s.die 0).fq 0 = some r ∧ s.records = [] ∧ s.hasTeam 0 = true ∧ (s.team 0).replay = [] ∧ s.readsBad 0x18 = false ∧
      leNat (s.bytes 0x18 8) = 0 ∧ ParkedOn s 0 .gen r.page r.pageSize 0 ∧ onPage r.page r.pageSize (s.ctx 0).parkVa = true ∧
      (∀ g < (s.team 0).groups, (s.grp (0 * 16 + g)).wait ≠ .parked) ∧ (u.ctx 0).wait ≠ .parked ∧
      (∀ j < (u.team 0).groups, (u.grp (0 * 16 + j)).wait = .parked ↔ j = 0) ∧ (u.grp 0).heldWord = some {} ∧
      (u.grp 0).park.getLsbD 1 = false := by
  unfold ParkedOn; decide +kernel

theorem test_hyp_commit : let m : QEntry := { kind := .marker, val := 0xB000000C#64 }
    let s := tState (.event { a := 0 }) {} { tTeam with groups := 1, regIssued := 1, mq := [m] } { queue := [m] }
    s.mayCommit 0 = true ∧ (s.grp (groupId 0 0)).armed = true :=
  ⟨by decide +kernel, by decide +kernel⟩

theorem test_hyp_step : let s := tGen {}
    (∃ u pls home os, Found s 0 (s.ctx 0).va .fetch u pls home os) ∧ (∃ t w, s.fetchG 0 = (t, some w)) ∧
      s.released = true ∧ s.absent 0 = false ∧ (s.core 0).genFree ≤ s.clk ∧ 0 ∈ s.genOrder 0 ∧ s.hasTeam 0 = true ∧
        s.mayRun 0 = true ∧ s.hostWaits [0x1000] = false ∧
      isSup 4096 = true ∧
      (tSolo 4096 {}).mayRun 4096 = true ∧ isEvent .eKick = true ∧
      (∃ i, packetInstr (0x0001000000000000#64) = some i) :=
  ⟨⟨_, _, _, _, found_there (by decide +kernel)⟩, read_some (by decide +kernel), rfl, by decide +kernel, by decide +kernel,
    by decide +kernel, by decide +kernel, by decide +kernel, by decide +kernel, by decide, by decide +kernel, rfl, ⟨_, rfl⟩⟩

/-- A turn of a slot has issued a word and answered a next state. -/
def tTried (x : Host.Outcome State Fault Refusal × Bool) : Bool := match x.1 with | .next _ => x.2 | _ => false

theorem tried_next {x : Host.Outcome State Fault Refusal × Bool} (h : tTried x = true) : ∃ w, x = (.next w, true) := by
  obtain ⟨o, b⟩ := x
  cases o <;> simp_all [tTried]

theorem test_hyp_step_issue : let s := (tGrp 0 {}).endFences 0
    s.coreRuns 0 = true ∧ s.ungatedNow 0 = true ∧ (s.core 0).slot0 ≤ s.clk ∧ leastBy s.issueKey (s.tryers 0) = some 0 ∧
      (∃ w, s.tryGroup 0 0 = (.next w, true)) :=
  ⟨by decide +kernel, by decide +kernel, by decide +kernel, by decide +kernel, tried_next (by decide +kernel)⟩

theorem test_hyp_step_matrix : let s := tState .none {} { tTeam with mq := [{ val := 0#64 }] } { armed := false }
    s.mChoose 0 = some 0 ∧ (s.team 0).mLive.head? = some { val := 0#64 } ∧ decodeM 0#32 = some .mMnop ∧ s.coreRuns 0 = true ∧
      s.ungatedNow 0 = true ∧ (s.core 0).matJob = [] ∧
      ((s.updCore 0 (fun k => { k with matJob := [[]] })).core 0).matJob ≠ [] :=
  ⟨by decide +kernel, by decide +kernel, by decide +kernel, by decide +kernel, by decide +kernel, by decide +kernel,
    by decide +kernel⟩

theorem test_hyp_memory : Memory.wf (tSoloMem).mem = true ∧ tSoloMem.mem ≠ [] := by decide +kernel

theorem test_hyp_encoding : (Instr.cAmo 124 9 7 126 3).wf = true ∧ (encodeWord (.cAmo 124 9 7 126 3)).isSome = true ∧
    (encodePacket .pSignalAdd { len := 3, hdr := 1, body := [8, 1] }).isSome = true := by decide +kernel

/-! ## Decoding: every constructor's word, written out from the formats and maps of R54 to R63 and R70 -/

theorem test_decode_g_1 : ∀ x ∈ ([
    (0x00518700#32, some (.gAdd 5 6 7)), (0x00518701#32, some (.gSub 5 6 7)), (0x00518702#32, some (.gAnd 5 6 7)),
    (0x00518703#32, some (.gOr 5 6 7)), (0x00518704#32, some (.gXor 5 6 7)), (0x00518705#32, some (.gAndn 5 6 7)),
    (0x00518706#32, some (.gSll 5 6 7)), (0x00518707#32, some (.gSrl 5 6 7)), (0x00518708#32, some (.gSra 5 6 7)),
    (0x00518709#32, some (.gRol 5 6 7)), (0x0051870A#32, some (.gSlt 5 6 7)), (0x0051870B#32, some (.gSltu 5 6 7)),
    (0x0051870C#32, some (.gMin 5 6 7)), (0x0051870D#32, some (.gMax 5 6 7)), (0x0051870E#32, some (.gMinu 5 6 7)),
    (0x0051870F#32, some (.gMaxu 5 6 7)), (0x00518210#32, some (.gSext 5 6 2)), (0x00518111#32, some (.gZext 5 6 1)),
    (0x00518712#32, some (.gMovc 5 6 7)), (0x068A6A00#32, some (.gMul 40 41 42)),
    (0x068A6A01#32, some (.gMulh 40 41 42)), (0x068A6A02#32, some (.gMulhu 40 41 42)),
    (0x068A6A03#32, some (.gDiv 40 41 42)), (0x068A6A04#32, some (.gDivu 40 41 42)),
    (0x068A6A05#32, some (.gRem 40 41 42)), (0x068A6A06#32, some (.gRemu 40 41 42)),
    (0x04984007#32, some (.gClz 9 33)), (0x04984008#32, some (.gCtz 9 33)), (0x04984009#32, some (.gPopc 9 33)),
    (0x0498400A#32, some (.gBrev 9 33))] : List (W32 × Option Instr)), decodeG x.1 = x.2 := by
  decide +kernel

theorem test_decode_g_2 : ∀ x ∈ ([
    (0x0410830B#32, some (.gBfx 1 2 3)), (0x0410830C#32, some (.gBfi 1 2 3)), (0x0410880D#32, some (.gCwset 1 2 8)),
    (0x08416001#32, some (.gAddi 4 5 0x2001)), (0x0C416001#32, some (.gAndi 4 5 0x2001)),
    (0x10416001#32, some (.gOri 4 5 0x2001)), (0x14416001#32, some (.gXori 4 5 0x2001)),
    (0x18416021#32, some (.gShi 4 5 2 33)), (0x1C417FFE#32, some (.gSlti 4 5 0x3FFE)),
    (0x20417FFE#32, some (.gSltiu 4 5 0x3FFE)), (0x24417FFE#32, some (.gMuli 4 5 0x3FFE)),
    (0x28980001#32, some (.gLui 9 0x80001)), (0x2CAFFFFE#32, some (.gAuipc 10 0xFFFFE)),
    (0x30304204#32, some (.gCmp 3 1 2 4)), (0x3691C009#32, some (.gCmpi 5 1 7 9)),
    (0x38108303#32, some (.gCbop 1 2 3 3)), (0x3D7FFFFF#32, some (.gBc 2 1 0x3FFFFF)),
    (0x42000000#32, some (.gBa 0x2000000)), (0x44000005#32, some (.gBl 5)), (0x480FC000#32, some (.gBrr 63)),
    (0x480F8001#32, some (.gBrlr 62)), (0x4C825FFF#32, some (.gLd 8 9 1 3 0x3FF)),
    (0x50824A00#32, some (.gLds 8 9 0 2 0x200)), (0x54826001#32, some (.gSt 8 9 2 0 1)),
    (0x5810839E#32, some (.gAmo 1 2 3 9 3 1)), (0x5C108710#32, some (.gLdp 1 2 7 1)),
    (0x5C108111#32, some (.gLdsum 1 2 1 1)), (0x5C108102#32, some (.gLdf 1 2 1)),
    (0x5C108203#32, some (.gSte 1 2 2)), (0x5C508034#32, some (.gFence 5 2 3))] : List (W32 × Option Instr)),
      decodeG x.1 = x.2 := by
  decide +kernel

theorem test_decode_g_3 : ∀ x ∈ ([
    (0x5C008005#32, some (.gMonitor 2)), (0x5C108006#32, some (.gMwaita 1 2)), (0x5C310507#32, some (.gCopy 3 4 5)),
    (0x5C310508#32, some (.gCopys 3 4 5)), (0x5C310509#32, some (.gCopyz 3 4 5)),
    (0x609086C0#32, some (.gEmit 9 2 6 1 1)), (0x60902681#32, some (.gEmitk 9 0 1 6 1 0)),
    (0x60008042#32, some (.gEmitm 2 0 0 1)), (0x60608383#32, some (.gEmitb 6 2 3 1 0)),
    (0x60324684#32, some (.gPop 3 9 6 1)), (0x60340005#32, some (.gQstat 3 16)), (0x60900006#32, some (.gGarm 9)),
    (0x60000007#32, some .gYield), (0x60000008#32, some .gRegion), (0x64FFFFFF#32, some (.gEmitl 3 1 15 0x1FFFF)),
    (0x6820C400#32, some (.gMdset 2 3 4)), (0x6820C001#32, some (.gMwait 2 3)),
    (0x6890C702#32, some (.gGsetb 9 3 7)), (0x6DF14000#32, some (.gBarinit 31 5)),
    (0x6DE00001#32, some (.gBararv 30)), (0x6DD00002#32, some (.gBardrop 29)),
    (0x6DF14003#32, some (.gBarwait 31 5)), (0x6DC00004#32, some (.gBaraw 28)), (0x6C700005#32, some (.gGbarinit 7)),
    (0x6C600006#32, some (.gGbararv 6)), (0x6C500007#32, some (.gGbardrop 5)),
    (0x6C424008#32, some (.gGbarwait 4 9)), (0x70395600#32, some (.gCsrr 3 0x956)),
    (0x70395601#32, some (.gCsrw 3 0x956)), (0x70395602#32, some (.gCsrs 3 0x956))] : List (W32 × Option Instr)),
      decodeG x.1 = x.2 := by
  decide +kernel

theorem test_decode_g_4 : ∀ x ∈ ([
    (0x70395603#32, some (.gCsrc 3 0x956)), (0x70004204#32, some (.gTrap 1 2)), (0x70000005#32, some .gRte),
    (0x70000006#32, some .gExit), (0x70108307#32, some (.gEcall 1 2 3)), (0x70100008#32, some (.gGtime 1)),
    (0x74108300#32, some (.gTlbi 1 2 3)), (0x7400A701#32, some (.gSendm 2 1 7)),
    (0x74108002#32, some (.gRecvm 1 2 0 0)), (0x74108003#32, some (.gWfi 1 2)), (0x74108004#32, some (.gSwapt 1 2)),
    (0x7800BF00#32, some (.gLset 2 63)), (0x78103E01#32, some (.gLget 1 62)), (0x78000002#32, some .gLcancel),
    (0x78008003#32, some (.gLrepeat 2)), (0x78000004#32, some .gLgo)] : List (W32 × Option Instr)), decodeG x.1 = x.2 := by
  decide +kernel

theorem test_decode_c_1 : ∀ x ∈ ([
    (0xF0240140#32, some (.cClauseHeader 0x024 0 1 4)), (0x00208184#32, some (.cFma 1 2 3 4)),
    (0x10208184#32, some (.cFms 1 2 3 4)), (0x20208184#32, some (.cFnma 1 2 3 4)),
    (0x30208184#32, some (.cImad 1 2 3 4)), (0x40208184#32, some (.cImadh 1 2 3 4)),
    (0x50208187#32, some (.cSelv 1 2 3 7)), (0x602081FF#32, some (.cDp4a 1 2 3 127)),
    (0x7FC08184#32, some (.cShf 126 2 3 4)), (0x88106100#32, some (.cFadd 64 65 66)),
    (0x88106101#32, some (.cFsub 64 65 66)), (0x88106102#32, some (.cFmul 64 65 66)),
    (0x88106103#32, some (.cFmin 64 65 66)), (0x88106104#32, some (.cFmax 64 65 66)),
    (0x88104005#32, some (.cFabs 64 65)), (0x88104006#32, some (.cFneg 64 65)), (0x88104007#32, some (.cFrcp 64 65)),
    (0x88104008#32, some (.cFrsq 64 65)), (0x88104009#32, some (.cFsqrt 64 65)),
    (0x8810400A#32, some (.cFex2 64 65)), (0x8810400B#32, some (.cFlg2 64 65)),
    (0x80F0610C#32, some (.cFcmpEq 7 65 66)), (0x80F0610D#32, some (.cFcmpNe 7 65 66)),
    (0x80F0610E#32, some (.cFcmpLt 7 65 66)), (0x80F0610F#32, some (.cFcmpLe 7 65 66)),
    (0x80F06110#32, some (.cFcmpGt 7 65 66)), (0x80F06111#32, some (.cFcmpGe 7 65 66)),
    (0x80F06112#32, some (.cFcmpUn 7 65 66)), (0x88104013#32, some (.cFclass 64 65)),
    (0x91450F00#32, some (.cIadd 10 20 30))] : List (W32 × Option Instr)), decodeC x.1 = x.2 := by
  decide +kernel

theorem test_decode_c_2 : ∀ x ∈ ([
    (0x91450F01#32, some (.cIsub 10 20 30)), (0x91450F02#32, some (.cImul 10 20 30)),
    (0x91450F03#32, some (.cImin 10 20 30)), (0x91450F04#32, some (.cImax 10 20 30)),
    (0x91450F05#32, some (.cIand 10 20 30)), (0x91450F06#32, some (.cIor 10 20 30)),
    (0x91450F07#32, some (.cIxor 10 20 30)), (0x91450F08#32, some (.cIandn 10 20 30)),
    (0x91450F09#32, some (.cIshl 10 20 30)), (0x91450F0A#32, some (.cIshr 10 20 30)),
    (0x91450F0B#32, some (.cIsra 10 20 30)), (0x9145000C#32, some (.cIabs 10 20)),
    (0x9145000D#32, some (.cIneg 10 20)), (0x9145000E#32, some (.cIpopc 10 20)),
    (0x9145000F#32, some (.cIclz 10 20)), (0x91450010#32, some (.cIbrev 10 20)),
    (0x90C50F11#32, some (.cIcmpEq 6 20 30)), (0x90C50F12#32, some (.cIcmpNe 6 20 30)),
    (0x90C50F13#32, some (.cIcmpLt 6 20 30)), (0x90C50F14#32, some (.cIcmpLe 6 20 30)),
    (0x90C50F15#32, some (.cIcmpGt 6 20 30)), (0x90C50F16#32, some (.cIcmpGe 6 20 30)),
    (0x91450F17#32, some (.cIbfx 10 20 30)), (0xA0208000#32, some (.cMov 1 2)), (0xA0208501#32, some (.cCvt 1 2 10)),
    (0xA0208182#32, some (.cPack 1 2 3)), (0xA0208003#32, some (.cUnpkl 1 2)), (0xA0208004#32, some (.cUnpkh 1 2)),
    (0xA0200005#32, some (.cLaneid 1)), (0xAFDFC186#32, some (.cShfl 126 127 3))] : List (W32 × Option Instr)),
      decodeC x.1 = x.2 := by
  decide +kernel

theorem test_decode_c_3 : ∀ x ∈ ([
    (0xAFDFC187#32, some (.cShflup 126 127 3)), (0xAFDFC188#32, some (.cShfldn 126 127 3)),
    (0xAFDFC189#32, some (.cShflx 126 127 3)), (0xA020800A#32, some (.cBcast 1 2)),
    (0xA0A0800B#32, some (.cBallot 5 2)), (0xA020800C#32, some (.cRedadd 1 2)), (0xA020800D#32, some (.cRedmax 1 2)),
    (0xA020800E#32, some (.cRedmin 1 2)), (0xB0208180#32, some (.cPand 1 2 3)), (0xB0208181#32, some (.cPor 1 2 3)),
    (0xB0208182#32, some (.cPxor 1 2 3)), (0xB0208003#32, some (.cPnot 1 2)), (0xB03FC004#32, some (.cPset 1 127)),
    (0xBC81C005#32, some (.cPget 100 7)), (0xB000C006#32, some (.cIf 3)), (0xB0000007#32, some .cElse),
    (0xB0000008#32, some .cEndif), (0xB018C009#32, some (.cRepeat 99)), (0xB001000A#32, some (.cBrkif 4)),
    (0xB01FC00B#32, some (.cSetmode 127)), (0xB01FC00D#32, some .cSigchk), (0xB000000E#32, some .cExitg),
    (0xB000000F#32, some .cNop), (0xB00C8010#32, some (.cTrapg 50)), (0xC0654304#32, some (.cLd 3 2 5 6 1)),
    (0xC0814314#32, some (.cLd64 4 5 6 1)), (0xC06B4328#32, some (.cSt 3 1 1 5 6 2)),
    (0xCF894338#32, some (.cSt64 124 1 5 6 2)), (0xC092434C#32, some (.cAmo 4 9 1 6 3)),
    (0xC06E4354#32, some (.cLdp 3 7 1 6 1))] : List (W32 × Option Instr)), decodeC x.1 = x.2 := by
  decide +kernel

theorem test_decode_c_4 : ∀ x ∈ ([
    (0xC0624360#32, some (.cGather 3 1 1 6 0)), (0xD0610280#32, some (.cLds 3 4 5)),
    (0xD0410281#32, some (.cLds64 2 4 5)), (0xD0610282#32, some (.cSts 3 4 5)),
    (0xD0410283#32, some (.cSts64 2 4 5)), (0xD0610284#32, some (.cLdsf 3 4 5)),
    (0xD0610285#32, some (.cLdsfk 3 4 5)), (0xD0610286#32, some (.cStse 3 4 5)),
    (0xD0610287#32, some (.cStsf 3 4 5)), (0xD0610288#32, some (.cSptag 3 4 5)), (0xD0610289#32, some (.cXst 3 4 5)),
    (0xD091C28A#32, some (.cAmos 4 8 7 5)), (0xE0004100#32, some (.cPushg 1 2)),
    (0xE1604100#32, some (.cPushgNb 3 1 2)), (0xE0610101#32, some (.cVote 3 4 2)),
    (0xE007C002#32, some (.cBararv 31)), (0xE0078003#32, some (.cBardrop 30)),
    (0xE0074384#32, some (.cBarwait 29 7)), (0xE0070005#32, some (.cBaraw 28)), (0xE000C006#32, some (.cFence 3)),
    (0xE1218407#32, some (.cMonw 9 6 8)), (0xE01FC008#32, some (.cMwaitb 127))] : List (W32 × Option Instr)),
      decodeC x.1 = x.2 := by
  decide +kernel

theorem test_decode_m_1 : ∀ x ∈ ([
    (0x00000000#32, some .mMnop), (0x088083FE#32, some (.mMma 1 0 1 127 1 1 0)),
    (0x110218FC#32, some (.mMmag 2 0 4 3 31 1 0 0)), (0x1A800000#32, some (.mMzero 5)),
    (0x22B04000#32, some (.mMloada 5 6 4)), (0x2AB03980#32, some (.mMout 5 6 3 4 1 1)),
    (0x32807FFF#32, some (.mMscale 5 0x7FFF)), (0x3F800000#32, some (.mMrelease 15)),
    (0x40000C01#32, some (.mMbatch 3 1))] : List (W32 × Option Instr)), decodeM x.1 = x.2 := by
  decide +kernel

theorem test_refuse_g_1 : ∀ x ∈ ([
    (0x00000013#32, none), (0x00518310#32, none), (0x00518812#32, none), (0x04108107#32, none),
    (0x0410890D#32, none), (0x18414040#32, none), (0x30804204#32, none), (0x30304206#32, none),
    (0x3701C009#32, none), (0x38108306#32, none), (0x38908300#32, none), (0x48108000#32, none),
    (0x4C826000#32, none), (0x54825000#32, none), (0x581083A0#32, none), (0x58108301#32, none),
    (0x5C000040#32, none), (0x5C108302#32, none), (0x5C108303#32, none), (0x5C3FC507#32, none),
    (0x60000009#32, none), (0x60324604#32, none), (0x60344005#32, none), (0x6E000001#32, none),
    (0x74000005#32, none), (0x7C000000#32, none), (0xFFFFFFFF#32, none)] : List (W32 × Option Instr)), decodeG x.1 = x.2 := by
  decide +kernel

theorem test_refuse_c_1 : ∀ x ∈ ([
    (0xF000C000#32, none), (0xF000F100#32, none), (0xF0000001#32, none), (0x50208188#32, none),
    (0x81008192#32, none), (0x80000014#32, none), (0x80208085#32, none), (0x90000018#32, none),
    (0xA000000F#32, none), (0xA0208581#32, none), (0xB000000C#32, none), (0xB000000D#32, none),
    (0xB0000011#32, none), (0xB020000F#32, none), (0xC0000070#32, none), (0xC0614308#32, none),
    (0xC0674300#32, none), (0xC0614324#32, none), (0xC0944340#32, none), (0xC0614301#32, none),
    (0xD060C201#32, none), (0xD000000B#32, none), (0xE0080002#32, none), (0xE0610181#32, none),
    (0xE2004100#32, none), (0xE0000009#32, none)] : List (W32 × Option Instr)), decodeC x.1 = x.2 := by
  decide +kernel

theorem test_refuse_m_1 : ∀ x ∈ ([
    (0x00000001#32, none), (0x16821800#32, none), (0x1A880000#32, none), (0x22B05000#32, none),
    (0x22B08000#32, none), (0x2AB00A00#32, none), (0x2AB00001#32, none), (0x40800000#32, none),
    (0x48000000#32, none)] : List (W32 × Option Instr)), decodeM x.1 = x.2 := by
  decide +kernel

/-! ## WellFormed: each check refuses a term -/

theorem test_wf_refuses : ∀ i ∈ ([
    .gSext 0 0 3, .gZext 0 0 3, .gCwset 0 0 9, .gCmp 0 0 0 6, .gCmpi 6 0 0 0, .gCbop 0 0 0 6, .gCbop 0 1 0 4,
    .gLd 0 0 2 0 0, .gLds 0 0 3 0 0, .gSt 0 0 1 0 0, .gAmo 0 0 0 10 0 0, .gLdp 0 0 0 2, .gLdsum 0 0 2 0,
    .gLdsum 0 0 0 2, .gLdf 0 0 2, .gSte 0 0 3, .gCopy 0 0 0, .gCopys 0 63 0, .gCopyz 0 0 0, .gEmit 0 0 1 0 0,
    .gEmitm 0 1 0 0, .gEmitk 0 1 1 0 0 0, .gEmitk 0 0 0 1 0 0, .gEmitb 1 0 0 0 0, .gPop 0 0 1 0, .gQstat 0 17,
    .gSendm 0 0 1, .gRecvm 0 0 0 1, .cClauseHeader 0 12 0 0, .cClauseHeader 0 0 14 0, .cClauseHeader 0 15 0 0,
    .cCvt 0 0 11, .cLd 0 3 0 0 0, .cLd 0 0 0 0 2, .cLd64 3 0 0 0, .cLd64 126 0 0 0, .cLd64 0 0 0 3, .cSt 0 0 3 0 0 0,
    .cSt 0 0 0 0 0 1, .cSt64 1 0 0 0 0, .cSt64 0 0 0 0 1, .cAmo 0 10 0 0 0, .cAmo 1 9 0 0 0, .cAmo 126 9 0 0 0,
    .cLdp 0 0 0 0 2, .cGather 0 2 0 0 0, .cGather 0 0 0 0 2, .cLds64 1 0 0, .cSts64 1 0 0, .cAmos 0 10 0 0,
    .cAmos 3 9 0 0, .cVote 0 0 3, .mMloada 0 0 5, .mMout 0 0 5 0 0 0, .mMout 0 0 0 5 0 0, .mMmag 15 0 0 1 0 0 0 0,
    .mMmag 0 0 13 3 0 0 0 0] : List Instr), i.wf = false := by
  decide +kernel

/-! ## Results of the spec's worked examples -/

theorem test_word_of_addi : decodeG 0x08410010#32 = some (.gAddi 4 4 16) := by decide +kernel

theorem test_bfx_of_the_example : bfx 0xABC00000#64 0x10B14#64 = 0xFFFFFFFFFFFFFABC#64 := by decide +kernel

/-- R103: division never traps. -/
theorem test_divide_corners : divS 5#64 0#64 = BitVec.allOnes 64 ∧ remU 5#64 0#64 = 5#64 ∧
    divS 0x8000000000000000#64 0xFFFFFFFFFFFFFFFF#64 = 0x8000000000000000#64 ∧
    remS 0x8000000000000000#64 0xFFFFFFFFFFFFFFFF#64 = 0#64 ∧ remS 0xFFFFFFFFFFFFFFF9#64 2#64 = 0xFFFFFFFFFFFFFFFF#64 := by
  decide +kernel

/-- R94: 2.5 and -2.5 to an integer in each mode. -/
theorem test_rounding_modes : (List.range 5).map (fun k => neighbour k false 5 (-1)) = [2, 2, 3, 2, 3] ∧
    (List.range 5).map (fun k => neighbour k true 5 (-1)) = [2, 2, 2, 3, 3] := by decide +kernel

/-- R99: FEX2(-200), FEX2(-149.5), FLG2(1.0), FLG2(-4.0), FRCP(3.0). -/
theorem test_special_functions : fex2 fp32 false 0xC3480000 = (0, { uf := true, nx := true }) ∧
    fex2 fp32 false 0xC3158000 = (1, { uf := true, nx := true }) ∧ flg2 fp32 false 0x3F800000 = (0, {}) ∧
    flg2 fp32 false 0xC0800000 = (0x7FC00000, { nv := true }) ∧ frcp fp32 false 0x40400000 = (0x3EAAAAAB, { nx := true }) := by
  decide +kernel

/-- R101: 300.7 to I8, and 1000.0 to F8e4 with saturate 0 and 1. -/
theorem test_conversions : cvtToInt { w := 8, sg := true } 0 (fp32.val 0x4396599A) = (127, { nv := true }) ∧
    roundTo f8e4 0 false (fp32.val 0x447A0000) = (0x80, { of := true, nx := true }) ∧
    (roundTo f8e4 0 true (fp32.val 0x447A0000)).1 = 0x7F := by decide +kernel

/-- R145: 1.0 + 2^-8 to BF16 is a tie to even. -/
theorem test_bf16_tie : roundTo bf16 0 false (fp32.val 0x3F808000) = (0x3F80, { nx := true }) := by decide +kernel

/-- R150: the same sum in the two paths of the example. -/
theorem test_sum_in_two_modes : fadd fp32 1 false 0x3F800000 0x33C00000 = (0x3F800000, { nx := true }) ∧
    (fadd fp32 0 false 0x3F800000 0x33C00000).1 = 0x3F800001 := by decide +kernel

/-- R92: the row of the example, and its last byte as 0x83. -/
theorem test_q4x_row : ((q4xRow [0x21, 0x8F, 0x48, 0x78, 0x50, 0x99, 0x00, 0x3D] 16).map (fun r =>
      r.1.map (fun v => (roundTo fp32 0 false v).1))) =
    some [0x3F800000, 0x40000000, 0xBF800000, 0x40800000, 0, 0, 0x41000000, 0x40E00000, 0, 0, 0xC0E00000, 0xC0E00000, 0, 0
      , 0xC0400000, 0x40400000] ∧
    q4xRow [0x21, 0x8F, 0x48, 0x78, 0x50, 0x99, 0x00, 0x83] 16 = none := by decide +kernel

/-- R109: one element through the three steps of the example. -/
theorem test_accumulator_example : let v (m : Nat) (e : Int) : List (List FVal) := [[.fin false m e]]
    let t0 := mmaStep { els := [.fin 0] } (v 15 0)
    let t1 := mmaStep t0 (v 1 40)
    (t0.e, t0.els) = (-27, [.fin (15 * 2 ^ 27)]) ∧ (t1.e, t1.els, t1.renorms) = (-3, [.fin (2 ^ 43 + 120)], 3) ∧
      (mmaStep t1 (v 1 (-4))).els = t1.els := by decide +kernel

/-- R110: MOUT of that element. -/
theorem test_mout_of_the_example : let x : Slot := { elems := [(0, .fin (2 ^ 43 + 120))], e := -3, eset := true }
    [x.out 0 0 bf16 0 false, x.out 0 0 bf16 1 false, x.out 0 0 bf16 2 false, x.out 0 0 fp32 0 false] =
      [0x5380, 0x5380, 0x5381, 0x53800000] := by decide +kernel

/-- R213: the sum of four copies. -/
theorem test_sum_of_copies : treeSum fadd32 3 [0x4B800000, 0x3F800000, 0x3F800000, 0xCB800000] 0 = 0x3F800000 := by
  decide +kernel

/-- R276, R277: the buffer of two rows of 32 F8e4 elements with tag 1, and the tag that 48 columns do not allow. -/
theorem test_copys_example : let o : CopyOp := { kind := .shape, dst := 0x100, shape := 0x201201F001#64 }
    o.total = 80 ∧ shapeValid o.shape = true ∧ shapeValid 0x201202F001#64 = false ∧
      o.chunk 0 = (.bytes [0x43, 0x5A, 0x53, 0x48, 2, 1, 0, 0, 2, 0, 0, 0, 0x20, 0, 0, 0], 16) ∧
      [o.chunk 1, o.chunk 2, o.chunk 3, o.chunk 4] = [(.global 0, 16), (.global 16, 16), (.global 48, 16), (.global 32, 16)] := by
  decide +kernel

/-- R18: core (21, 13). -/
theorem test_core_coordinates : coreAt 21 13 = 437 ∧ coreDie 437 = 3 ∧ coreCluster 437 = 9 ∧ coreInCluster 437 = 5 := by
  decide

/-- R209: the slice of a local address. -/
theorem test_slice_of_the_example : sliceOf (0x0A480001280 / 128) = 121 ∧ 0x0A480001280 / 2 ^ 37 = 5 := by decide

/-- R337: the slot size of the example, and team 5's slot. -/
theorem test_swap_slot : let t : Team := { groups := 4, accs := 2, share := 196608, num := 5 }
    t.imageSize = 0x60000 ∧ t.slotSize = 0x70000 ∧ t.slotVa = 0x230000#64 := by decide +kernel

end Sys2Proof.Machine
end

section
/-! PROOFS. A share of the scratchpad (R4, R198 to R200): where its offsets lie, what a byte reads after a write, and its tags. -/

namespace Sys2Proof.Machine

/-! ## Lists of numbers -/

theorem mem_natAdd (l : List Nat) (k j : Nat) : j ∈ natAdd l k ↔ j = k ∨ j ∈ l := by
  induction l with
  | nil => simp [natAdd]
  | cons i t ih =>
    simp only [natAdd]
    split
    · simp_all
    · split
      · simp
      · simp only [List.mem_cons, ih, or_left_comm]

theorem mem_natDel (l : List Nat) (k j : Nat) : j ∈ natDel l k ↔ j ∈ l ∧ j ≠ k := by simp [natDel]

/-- A number's place in a list after it has been put in or taken out. -/
theorem contains_natAdd_natDel (l : List Nat) (k j : Nat) (b : Bool) :
    (if b then natAdd l k else natDel l k).contains j = if j = k then b else l.contains j := by
  apply Bool.eq_iff_iff.mpr
  cases b with
  | true => by_cases h : j = k <;> simp [mem_natAdd, h]
  | false => by_cases h : j = k <;> simp [mem_natDel, h]

/-! ## Bytes in a row -/

/-- Bytes in a row are a list if each is the list's byte of its place. -/
theorem bytesAt_eq_of_getElem (f : Nat → Byte) (a : Nat) (l : List Byte) (h : ∀ i (hi : i < l.length), f (a + i) = l[i]) :
    bytesAt f a l.length = l := by
  induction l generalizing a with
  | nil => rfl
  | cons b t ih =>
    have hb : f a = b := h 0 (by simp)
    have ht := ih (a + 1) (fun i hi => by
      rw [Nat.add_assoc, Nat.add_comm 1 i]
      exact h (i + 1) (by simpa using hi))
    simp [bytesAt, hb, ht]

/-- Bytes written one after another through a map of offsets to places that keeps offsets apart: a byte reads what was
written at its offset, or else as before. -/
theorem spGet_foldl_spSet_of_injective (p : Nat → Nat) (hp : Function.Injective p) (off : Nat) (bs : List Byte) (n : Nat)
    (m : Sparse 8) (k : Nat) :
    spGet ((bs.zipIdx n).foldl (fun m e => spSet m (p (off + e.2)) e.1) m) (p k) =
      if h : off + n ≤ k ∧ k < off + n + bs.length then bs[k - (off + n)] else spGet m (p k) := by
  induction bs generalizing n m with
  | nil => rw [dif_neg (by simp only [List.length_nil]; omega)]; rfl
  | cons b t ih =>
    simp only [List.zipIdx_cons, List.foldl_cons, ih (n + 1), spGet_spSet, hp.eq_iff, List.length_cons]
    by_cases hk : k = off + n
    · subst hk
      rw [dif_neg (by omega), dif_pos (by omega)]
      simp
    · by_cases hr : off + (n + 1) ≤ k ∧ k < off + (n + 1) + t.length
      · rw [dif_pos hr, dif_pos (by omega)]
        simp only [show k - (off + n) = k - (off + (n + 1)) + 1 by omega, List.getElem_cons_succ]
      · rw [dif_neg hr, dif_neg (by omega), if_neg hk]

/-! ## Places of a share (R200) -/

/-- Different offsets of a share lie in different places, whichever way the exchange banks stand. -/
theorem Team.place_injective (t : Team) (h : 2 * t.xwin ≤ t.share) : Function.Injective t.place := by
  intro a b
  simp only [Team.place, Bool.or_eq_true, Bool.not_eq_true', decide_eq_true_eq, Bool.and_eq_true]
  (repeat' split) <;> omega

/-- A word's place is a word's place. -/
theorem Team.place_word (t : Team) (hx : t.xwin % 4 = 0) (w : Nat) : t.place (w * 4) % 4 = 0 := by
  simp only [Team.place, Bool.or_eq_true, Bool.not_eq_true', decide_eq_true_eq, Bool.and_eq_true]
  (repeat' split) <;> omega

/-- Two words of a share have the same tag only if they are one word. -/
theorem Team.place_word_div_inj (t : Team) (h : 2 * t.xwin ≤ t.share) (hx : t.xwin % 4 = 0) (a b : Nat) :
    t.place (a * 4) / 4 = t.place (b * 4) / 4 ↔ a = b := by
  refine ⟨fun e => ?_, fun e => by rw [e]⟩
  have ha := t.place_word hx a
  have hb := t.place_word hx b
  have := t.place_injective h (a₁ := a * 4) (a₂ := b * 4) (by omega)
  omega

/-! ## Writing bytes -/

/-- The places of a share stay where they are if its size, its window and its banks do. -/
theorem Team.place_congr {t u : Team} (hs : u.share = t.share) (hx : u.xwin = t.xwin) (hf : u.flipped = t.flipped) :
    u.place = t.place := by
  funext k; simp only [Team.place, hs, hx, hf]

/-- Bytes written into a share's storage change that storage alone. -/
theorem Team.foldl_sp (p : Nat → Nat) (l : List (Byte × Nat)) (t : Team) :
    l.foldl (fun a e => { a with sp := spSet a.sp (p e.2) e.1 }) t =
      { t with sp := l.foldl (fun m e => spSet m (p e.2) e.1) t.sp } := by
  induction l generalizing t with
  | nil => rfl
  | cons e l ih => rw [List.foldl_cons, ih, List.foldl_cons]

/-- Words that lose their poison change the poison alone. -/
theorem Team.foldl_setPoison (l : List Nat) (t : Team) :
    ∃ q, l.foldl (fun a w => a.setPoison w false) t = { t with spPoison := q } := by
  induction l generalizing t with
  | nil => exact ⟨_, rfl⟩
  | cons w l ih =>
    obtain ⟨q, hq⟩ := ih (t.setPoison w false)
    exact ⟨q, hq⟩

/-- A write of a share changes its bytes and their poison alone. -/
theorem Team.spWrite_eq (t : Team) (off : Nat) (bs : List Byte) :
    ∃ q, t.spWrite off bs =
      { t with sp := bs.zipIdx.foldl (fun m e => spSet m (t.place (off + e.2)) e.1) t.sp, spPoison := q } := by
  simp only [Team.spWrite, Team.foldl_sp (fun i => t.place (off + i))]
  exact Team.foldl_setPoison _ _

/-- A byte of a share after a write: the byte written at its offset, or else the byte that stood there. -/
theorem Team.byte_spWrite (t : Team) (h : 2 * t.xwin ≤ t.share) (off : Nat) (bs : List Byte) (k : Nat) :
    spGet (t.spWrite off bs).sp ((t.spWrite off bs).place k) =
      if h : off ≤ k ∧ k < off + bs.length then bs[k - off] else spGet t.sp (t.place k) := by
  obtain ⟨q, hq⟩ := t.spWrite_eq off bs
  rw [hq, Team.place_congr (t := t) rfl rfl rfl]
  exact spGet_foldl_spSet_of_injective t.place (t.place_injective h) off bs 0 t.sp k

/-- Bytes read back as they were written. -/
theorem Team.spBytesAt_spWrite_same (t : Team) (h : 2 * t.xwin ≤ t.share) (off : Nat) (bs : List Byte) :
    (t.spWrite off bs).spBytesAt off bs.length = bs :=
  bytesAt_eq_of_getElem _ _ _ (fun i hi => by
    rw [t.byte_spWrite h, dif_pos ⟨by omega, by omega⟩]
    simp)

/-- A byte outside a write reads as before. -/
theorem Team.spBytesAt_spWrite_other (t : Team) (h : 2 * t.xwin ≤ t.share) (off : Nat) (bs : List Byte) (k : Nat)
    (hk : k < off ∨ off + bs.length ≤ k) : (t.spWrite off bs).spBytesAt k 1 = t.spBytesAt k 1 := by
  simp only [Team.spBytesAt, bytesAt]
  rw [t.byte_spWrite h, dif_neg (by omega)]

/-- A tag after one has been set (R199): the word's own reads as set, and every other as before. -/
theorem Team.spFull_setTag (t : Team) (h : 2 * t.xwin ≤ t.share) (hx : t.xwin % 4 = 0) (off k : Nat) (b : Bool) :
    (t.setTag off b).spFull k = if k / 4 = off / 4 then b else t.spFull k := by
  have hp : (t.setTag off b).place = t.place := Team.place_congr rfl rfl rfl
  simp only [Team.spFull, hp]
  simp only [Team.setTag, contains_natAdd_natDel, t.place_word_div_inj h hx]

/-- Settles O20: places of different offsets are different, so bytes and tags are written through an injective map. -/
theorem shareReadsBackItsLastWrite : Obligations.ShareReadsBackItsLastWrite := by
  intro t off n x k b h hx _
  refine ⟨?_, fun hk => ?_, t.spFull_setTag h hx off k b⟩
  · have e := t.spBytesAt_spWrite_same h off (natLe n x)
    rw [natLe_length] at e
    rw [Team.spRead, e, leNat_natLe]
  · exact t.spBytesAt_spWrite_other h off _ k (by rwa [natLe_length])

end Sys2Proof.Machine
end

section
/-! PROOFS. The values that reset leaves (R7, R50, R306). -/

namespace Sys2Proof.Machine

/-- After reset every byte reads zero: memory lists nothing (assumption 1). -/
theorem byte_reset (a : Nat) : State.reset.byte a = 0 := by
  unfold State.byte
  split
  · rfl
  · rfl

/-- Settles O55: no core and no Pewter is listed after reset, so each of their registers reads its reset value. -/
theorem resetLeavesTheGivenValues : Obligations.ResetLeavesTheGivenValues := by
  refine ⟨wf_reset, byte_reset, rfl, rfl, rfl, rfl, rfl, rfl, rfl, rfl, fun c => ?_, fun i => ?_⟩
  · have h : State.reset.core c = {} := rfl
    simp [State.coreRead, h, bitN]
  · have h : State.reset.pewter i = {} := rfl
    simp [State.pewterRead, h, bitN]

end Sys2Proof.Machine
end

section
/-! PROOFS. What killing or rolling back a team leaves of the rest of the machine (R129, R175, R188, R189). -/

namespace Sys2Proof.Machine

/-! ## Tables -/

theorem kvFind_eq_none {α : Type} (l : KV α) (k : Nat) : kvFind l k = none ↔ ∀ e ∈ l, e.1 ≠ k := by
  induction l with
  | nil => simp [kvFind]
  | cons e t ih =>
    obtain ⟨j, v⟩ := e
    simp only [kvFind, List.forall_mem_cons]
    by_cases h : k = j
    · simp [h]
    · simp [h, ih, Ne.symm h]

theorem mem_of_kvFind {α : Type} {l : KV α} {k : Nat} {v : α} (h : kvFind l k = some v) : (k, v) ∈ l := by
  induction l with
  | nil => simp [kvFind] at h
  | cons e t ih =>
    obtain ⟨j, w⟩ := e
    simp only [kvFind] at h
    split at h
    · rename_i hk
      cases h
      simp [hk]
    · exact List.mem_cons_of_mem _ (ih h)

/-- Entries of several keys taken out of a table. -/
theorem kvFind_foldl_kvDel {α : Type} (ks : List Nat) (l : KV α) (j : Nat) :
    kvFind (ks.foldl kvDel l) j = if j ∈ ks then none else kvFind l j := by
  induction ks generalizing l with
  | nil => simp
  | cons k ks ih =>
    simp only [List.foldl_cons, ih, kvFind_kvDel, List.mem_cons]
    by_cases h : j = k <;> simp [h]

/-! ## Steps that leave memory and dies alone -/

/-- A KILL record stands among records, whoever waits for it. -/
def NotedIn (l : List Rec2) (r : Rec2) : Prop := ∃ q ∈ l, q.kind = 4 ∧ q.head = r.head ∧ q.die = r.die ∧ q.tag = r.tag

theorem NotedIn.of_mem {l : List Rec2} {r : Rec2} (hr : r ∈ l) (hk : r.kind = 4) : NotedIn l r := ⟨r, hr, hk, rfl, rfl, rfl⟩

/-- Memory, its poison, caches and directories are as before, every die has its memory and its place, and KILL records stand. -/
structure Quiet (s t : State) : Prop where
  mem : t.mem = s.mem := by rfl
  poison : t.poison = s.poison := by rfl
  copies : t.copies = s.copies := by rfl
  dir : t.dir = s.dir := by rfl
  cap : ∀ d, (t.die d).dmemcap = (s.die d).dmemcap := by exact fun _ => rfl
  hole : ∀ d, (t.die d).hole = (s.die d).hole := by exact fun _ => rfl
  noted : ∀ r ∈ s.records, r.kind = 4 → NotedIn t.records r := by exact fun _ hr hk => .of_mem hr hk

/-- Beside, teams, contexts, groups and the stores held back are as before: what has gone on concerns filters, engines, gangs,
launches, counters and records alone. -/
structure Aside (s t : State) : Prop extends Quiet s t where
  teams : t.teams = s.teams := by rfl
  ctxs : t.ctxs = s.ctxs := by rfl
  groups : t.groups = s.groups := by rfl
  hold : ∀ c, (t.core c).hold = (s.core c).hold := by exact fun _ => rfl

theorem Quiet.refl (s : State) : Quiet s s := {}

theorem Quiet.trans {s t u : State} (h : Quiet s t) (g : Quiet t u) : Quiet s u where
  mem := g.mem.trans h.mem
  poison := g.poison.trans h.poison
  copies := g.copies.trans h.copies
  dir := g.dir.trans h.dir
  cap d := (g.cap d).trans (h.cap d)
  hole d := (g.hole d).trans (h.hole d)
  noted r hr hk := by
    obtain ⟨q, hq, qk, qh, qd, qt⟩ := h.noted r hr hk
    obtain ⟨p, hp, pk, ph, pd, pt⟩ := g.noted q hq qk
    exact ⟨p, hp, pk, ph.trans qh, pd.trans qd, pt.trans qt⟩

/-- What is populated stays so. -/
theorem Quiet.populated {s t : State} (h : Quiet s t) (a : Nat) : t.populated a = s.populated a := by
  unfold State.populated
  split
  · rw [h.cap]
  · rfl

/-- Memory reads as before. -/
theorem Quiet.same {s t : State} (h : Quiet s t) : SameBytes s t := fun a => by
  unfold State.byte
  rw [h.populated, h.mem]

theorem Aside.refl (s : State) : Aside s s := {}

theorem Aside.trans {s t u : State} (h : Aside s t) (g : Aside t u) : Aside s u where
  toQuiet := h.toQuiet.trans g.toQuiet
  teams := g.teams.trans h.teams
  ctxs := g.ctxs.trans h.ctxs
  groups := g.groups.trans h.groups
  hold c := (g.hold c).trans (h.hold c)

theorem Aside.foldl {α : Type} (f : State → α → State) (h : ∀ s a, Aside s (f s a)) (l : List α) (s : State) :
    Aside s (l.foldl f s) := by
  induction l generalizing s with
  | nil => exact .refl _
  | cons a l ih => exact (h s a).trans (ih _)

/-- A die that keeps its memory and its place. -/
theorem Aside.setDie (s : State) (d : Nat) (k : Die) (hm : k.dmemcap = (s.die d).dmemcap) (hh : k.hole = (s.die d).hole) :
    Aside s (s.setDie d k) where
  cap j := by by_cases e : j = d <;> simp [e, hm]
  hole j := by by_cases e : j = d <;> simp [e, hh]

/-- Every die changed in what is neither its memory nor its place. -/
theorem Aside.dies (s : State) (f : Nat → Die → Die) (hm : ∀ d k, (f d k).dmemcap = k.dmemcap)
    (hh : ∀ d k, (f d k).hole = k.hole) : Aside s { s with dies := kvMap f s.dies } where
  cap d := by
    simp only [State.die, kvGet, kvFind_kvMap]
    cases kvFind s.dies d with
    | none => rfl
    | some k => exact hm d k
  hole d := by
    simp only [State.die, kvGet, kvFind_kvMap]
    cases kvFind s.dies d with
    | none => rfl
    | some k => exact hh d k

/-- A core that keeps the stores it holds back. -/
theorem Aside.setCore (s : State) (c : Nat) (k : Core) (h : k.hold = (s.core c).hold) : Aside s (s.setCore c k) where
  hold j := by by_cases e : j = c <;> simp [e, h]

theorem Aside.engines (s : State) (e : KV (List CopyOp)) : Aside s { s with engines := e } := {}

theorem Aside.trigger (s : State) : Aside s s.trigger := by
  unfold State.trigger
  split
  · split <;> exact {}
  · exact .refl _

theorem Aside.fire (s : State) (d k : Nat) : Aside s (s.fire d k) := by
  unfold State.fire
  split
  · exact .trigger s
  · exact .refl _

theorem Aside.tally (s : State) (k : Nat) : Aside s (s.tally k) := {}

theorem Aside.count (s : State) (c ev : Nat) : Aside s (s.count c ev) := by
  unfold State.count State.countN
  split
  · exact .refl _
  · dsimp only
    split
    · exact .trans (.setCore _ _ _ (by rfl)) (.trigger _)
    · exact .setCore _ _ _ (by rfl)

theorem Aside.send (s : State) (r : Rec2) : Aside s (s.send r) where
  noted _ hr hk := .of_mem (List.mem_append_left _ hr) hk

theorem Aside.post (s : State) (io dev line : Nat) (l : List Byte) (src : Option Nat) : Aside s (s.post io dev line l src) := by
  unfold State.post
  split <;> exact {}

theorem Aside.disarm (s : State) (m : Option Monitor) : Aside s (s.disarm m) := by
  unfold State.disarm
  split
  · exact .refl _
  · dsimp only
    split
    · exact .post ..
    · split
      · exact .refl _
      · exact .setDie _ _ _ rfl rfl

/-- The waiter slots of groups are freed. -/
theorem Aside.disarmAll (s : State) (gs : List Nat) : Aside s (gs.foldl (fun a g => a.disarm (a.grp g).monitor) s) :=
  .foldl _ (fun _ _ => .disarm ..) gs s

theorem Aside.leaveGang (s : State) (t : Team) : Aside s (s.leaveGang t) := by
  unfold State.leaveGang State.updGang
  split
  · split <;> exact {}
  · exact .refl _

theorem Aside.hotEnd (s : State) (lid d : Nat) : Aside s (s.hotEnd lid d) := by
  unfold State.hotEnd
  dsimp only
  split
  · exact .refl _
  · exact .trans (.setDie _ _ _ (by rfl) (by rfl)) (.foldl _ (fun _ _ => .send ..) _ _)

theorem Aside.updLaunch (s : State) (l : Nat) (f : Launch → Launch) : Aside s (s.updLaunch l f) := by
  unfold State.updLaunch
  split <;> exact {}

theorem Aside.teamGone (s : State) (lid d : Nat) (k : Bool) : Aside s (s.teamGone lid d k) :=
  (Aside.updLaunch ..).trans (.hotEnd ..)

/-! ## A team that is killed (R175) -/

/-- One team's agents are gone, and all else of the machine's teams is as before. -/
structure Freed (s t : State) (tid : Nat) : Prop extends Quiet s t where
  teams : t.teams = kvDel s.teams tid
  ctxs : t.ctxs = kvDel s.ctxs tid
  groups : t.groups = ((List.range 16).map (groupId tid)).foldl kvDel s.groups

/-- No core holds back a store that it did not hold back before. -/
def HoldsNoMore (s t : State) : Prop := ∀ c, ∀ h ∈ (t.core c).hold, h ∈ (s.core c).hold

theorem Aside.holds {s t : State} (h : Aside s t) : HoldsNoMore s t := fun c x hx => by rwa [h.hold c] at hx

theorem HoldsNoMore.trans {s t u : State} (h : HoldsNoMore s t) (g : HoldsNoMore t u) : HoldsNoMore s u :=
  fun c x hx => h c x (g c x hx)

theorem Freed.of_aside {s t u : State} {tid : Nat} (h : Aside s t) (g : Freed t u tid) : Freed s u tid where
  toQuiet := h.toQuiet.trans g.toQuiet
  teams := by rw [g.teams, h.teams]
  ctxs := by rw [g.ctxs, h.ctxs]
  groups := by rw [g.groups, h.groups]

theorem Freed.aside {s t u : State} {tid : Nat} (h : Freed s t tid) (g : Aside t u) : Freed s u tid where
  toQuiet := h.toQuiet.trans g.toQuiet
  teams := g.teams.trans h.teams
  ctxs := g.ctxs.trans h.ctxs
  groups := g.groups.trans h.groups

/-- A record of which nobody of a team waits any more is the same record. -/
theorem Rec2.forget_same (tid : Nat) (r : Rec2) :
    (r.forget tid).kind = r.kind ∧ (r.forget tid).head = r.head ∧ (r.forget tid).die = r.die ∧ (r.forget tid).tag = r.tag := by
  unfold Rec2.forget
  split
  · split <;> exact ⟨rfl, rfl, rfl, rfl⟩
  · exact ⟨rfl, rfl, rfl, rfl⟩

theorem NotedIn.forget {l : List Rec2} {tid : Nat} {r : Rec2} (hr : r ∈ l) (hk : r.kind = 4) :
    NotedIn (l.map (Rec2.forget tid)) r := by
  obtain ⟨ek, eh, ed, et⟩ := r.forget_same tid
  exact ⟨r.forget tid, List.mem_map_of_mem hr, ek.trans hk, eh, ed, et⟩

/-- A team is taken from its core. -/
theorem freeTeam_freed (s : State) (tid : Nat) (discard : Bool) : Freed s (s.freeTeam tid discard) tid := by
  have ha := (Aside.disarm s (s.ctx tid).monitor).trans (.disarmAll _ ((List.range 16).map (groupId tid)))
  unfold State.freeTeam
  dsimp only
  generalize List.foldl (fun a g => State.disarm a (a.grp g).monitor) (s.disarm (s.ctx tid).monitor)
    ((List.range 16).map (groupId tid)) = u at ha ⊢
  refine .of_aside ha { teams := rfl, ctxs := rfl, groups := by dsimp only [State.updCore, State.setCore]
                        cap := fun d => ?_, hole := fun d => ?_, noted := fun r hr hk => .forget hr hk }
  all_goals
    simp only [State.die, State.updCore, State.setCore, kvGet, kvFind_kvMap]
    cases kvFind u.dies d <;> rfl

/-- A team that is taken from its core with its held stores discarded leaves no new one. -/
theorem freeTeam_holds (s : State) (tid : Nat) : HoldsNoMore s (s.freeTeam tid true) := by
  have ha := (Aside.disarm s (s.ctx tid).monitor).trans (.disarmAll _ ((List.range 16).map (groupId tid)))
  unfold State.freeTeam
  dsimp only
  generalize List.foldl (fun a g => State.disarm a (a.grp g).monitor) (s.disarm (s.ctx tid).monitor)
    ((List.range 16).map (groupId tid)) = u at ha ⊢
  refine ha.holds.trans fun c h hh => ?_
  by_cases e : c = teamCore tid
  · subst e
    simp only [State.core, State.updCore, State.setCore, kvGet_kvSet, if_true] at hh ⊢
    exact (List.mem_filter.mp hh).1
  · simpa only [State.core, State.updCore, State.setCore, kvGet_kvSet, if_neg e] using hh

/-- A kill without a team does nothing. -/
theorem kill_of_not_hasTeam {s : State} {tid : Nat} (h : s.hasTeam tid = false) (reason : Nat) : s.kill tid reason = s := by
  simp [State.kill, h]

/-- A kill takes the team from its core; a KILL record stands. -/
theorem kill_freed {s : State} {tid : Nat} (h : s.hasTeam tid = true) (reason : Nat) :
    Freed s (s.kill tid reason) tid ∧ NotedIn (s.kill tid reason).records (s.teamRec tid 4 reason {} .nobody) ∧
      (reason = 4 → HoldsNoMore s (s.kill tid reason)) := by
  simp only [State.kill, if_pos h]
  generalize kvMap (fun _ l => List.map _ l) s.engines = e
  have h0 := Aside.engines s e
  generalize ({ s with engines := e } : State) = u at h0 ⊢
  have h2 (u : State) := (Aside.fire (u.send (s.teamRec tid 4 reason {} .nobody)) (coreDie (teamCore tid)) 4).trans
    (.teamGone _ (s.team tid).lid (coreDie (teamCore tid)) true)
  have h1 := (Aside.leaveGang (u.freeTeam tid (reason == 3 || reason == 4)) (s.team tid))
  refine ⟨((freeTeam_freed u tid _).of_aside h0).aside ((h1.trans (.send ..)).trans (h2 _)), ?_, fun hr => ?_⟩
  · exact (h2 _).noted _ (List.mem_append_right _ (List.mem_singleton_self _)) rfl
  · subst hr
    exact (h0.holds.trans (freeTeam_holds u tid)).trans ((h1.trans (.send ..)).trans (h2 _)).holds

end Sys2Proof.Machine
end

section
namespace Sys2Proof.Machine

/-! ## A team that is rolled back (R188, R189) -/

/-- Entries of several keys changed in a table, each once. -/
theorem kvFind_foldl_kvSet {α : Type} (d : α) (f : α → α) (ks : List Nat) (hk : ks.Nodup) (l : KV α) (j : Nat) :
    kvFind (ks.foldl (fun m k => kvSet m k (f (kvGet d m k))) l) j =
      if j ∈ ks then some (f (kvGet d l j)) else kvFind l j := by
  induction ks generalizing l with
  | nil => simp
  | cons k ks ih =>
    obtain ⟨hn, hks⟩ := List.nodup_cons.mp hk
    simp only [List.foldl_cons, ih hks, kvFind_kvSet, kvGet_kvSet, List.mem_cons]
    by_cases e : j = k
    · subst e; simp [hn]
    · simp [e]

/-- Groups changed one after another: nothing else of the machine changes. -/
theorem foldl_updGrp (f : Group → Group) (gs : List Nat) (s : State) :
    gs.foldl (fun a g => a.updGrp g f) s =
      { s with groups := gs.foldl (fun m g => kvSet m g (f (kvGet { armed := false } m g))) s.groups } := by
  induction gs generalizing s with
  | nil => rfl
  | cons g gs ih => rw [List.foldl_cons, ih, List.foldl_cons]; rfl

/-- A team's groups have different names. -/
theorem nodup_groupIds (tid n : Nat) : ((List.range n).map (groupId tid)).Nodup :=
  List.Pairwise.map _ (fun _ _ hne e => hne (Nat.add_left_cancel e)) List.nodup_range

theorem mem_groupIds (tid n g : Nat) : tid * 16 + g ∈ (List.range n).map (groupId tid) ↔ g < n := by
  simp [groupId]

/-- What a rollback makes of a team (R188, R189). -/
def Team.rolledBack (t : Team) : Team :=
  { t.rollbackSlots with
    emit := [], expSig := t.expSig.map (fun e => (e.1, sigInit)), bn := t.roll.bars, msn := t.roll.msn, mq := [], mHeld := none
    regIssued := t.regCommitted, faults := [], life := .running, blockedSince := none, mDone := t.mPushed
    replay := [], gbOwed := (t.gbOwed.filter (fun o => decide (o.region ≤ t.regCommitted))).map (fun o =>
      { o with left := true }) }

/-- One team has been rolled back: its generator, its groups and its own registers have changed, and of the rest of the
machine's teams nothing. -/
structure Rolled (s t : State) (tid : Nat) : Prop extends Quiet s t where
  teams : t.teams = kvSet s.teams tid (s.team tid).rolledBack
  ctxs : t.ctxs = kvSet s.ctxs tid ((s.ctx tid).endWaits (s.team tid).rolledBack (BitVec.allOnes 64)).rollback
  groups : ∀ j, kvFind t.groups j = if j ∈ (List.range (s.team tid).groups).map (groupId tid)
    then some ((s.grp j).rollback (s.team tid).regCommitted) else kvFind s.groups j
  hold : ∀ c, (t.core c).hold =
    if c = teamCore tid then (s.core c).hold.filter (fun h => h.team != tid) else (s.core c).hold

theorem Rolled.aside {s t u : State} {tid : Nat} (h : Rolled s t tid) (g : Aside t u) : Rolled s u tid where
  toQuiet := h.toQuiet.trans g.toQuiet
  teams := g.teams.trans h.teams
  ctxs := g.ctxs.trans h.ctxs
  groups j := by rw [g.groups, h.groups]
  hold c := (g.hold c).trans (h.hold c)

theorem rollback_rolled (s : State) (tid : Nat) : Rolled s (s.rollback tid) tid := by
  have ha := (Aside.disarm s (s.ctx tid).monitor).trans (.disarmAll _ ((List.range (s.team tid).groups).map (groupId tid)))
  simp only [State.rollback]
  generalize List.foldl (fun a g => State.disarm a (a.grp g).monitor) (s.disarm (s.ctx tid).monitor)
    ((List.range (s.team tid).groups).map (groupId tid)) = u at ha ⊢
  simp only [foldl_updGrp]
  refine Rolled.aside ?_ ((Aside.count ..).trans (.tally ..))
  refine
    { mem := ha.mem, poison := ha.poison, copies := ha.copies, dir := ha.dir
      cap := fun d => .trans ?_ (ha.cap d), hole := fun d => .trans ?_ (ha.hole d), noted := fun r hr hk => ?_
      teams := ?_, ctxs := ?_, groups := fun j => ?_, hold := fun c => ?_ }
  · simp only [State.die, State.updCtx, State.setCtx, State.endWaits, State.setTeam, State.updCore, State.setCore, kvGet,
      kvFind_kvMap]
    cases kvFind u.dies d <;> rfl
  · simp only [State.die, State.updCtx, State.setCtx, State.endWaits, State.setTeam, State.updCore, State.setCore, kvGet,
      kvFind_kvMap]
    cases kvFind u.dies d <;> rfl
  · obtain ⟨q, hq, qk, qh, qd, qt⟩ := ha.noted r hr hk
    exact ⟨q, List.mem_filter.mpr ⟨hq, by simp [qk]⟩, qk, qh, qd, qt⟩
  · rw [← ha.teams]; rfl
  · have hc : u.ctx tid = s.ctx tid := by simp only [State.ctx, ha.ctxs]
    simp only [State.endWaits, State.updCtx_eq, State.setCtx_setCtx, State.setCtx_ctx, if_true]
    simp only [State.setCtx, State.setTeam, State.updCore, State.setCore, State.team, State.ctx, kvGet_kvSet, if_true] at hc ⊢
    rw [hc, ha.ctxs]
    rfl
  · rw [← ha.groups]
    simp only [State.grp, ← ha.groups, State.updCtx, State.setCtx, State.endWaits, State.setTeam, State.updCore, State.setCore]
    exact kvFind_foldl_kvSet _ (fun x => x.rollback (s.team tid).regCommitted) _ (nodup_groupIds tid (s.team tid).groups) u.groups j
  · by_cases e : c = teamCore tid
    · subst e
      simp only [State.core, State.updCtx, State.setCtx, State.endWaits, State.setTeam, State.updCore, State.setCore,
        kvGet_kvSet, if_true]
      exact congrArg _ (ha.hold _)
    · rw [if_neg e, ← ha.hold]
      simp only [State.core, State.updCtx, State.setCtx, State.endWaits, State.setTeam, State.updCore, State.setCore,
        kvGet_kvSet, if_neg e]


/-- The end of pending MWAITs changes registers and their tokens alone, and without one nothing. -/
theorem endWaits_eq (c : Ctx) (t : Team) (x : W64) :
    ∃ l k w, c.endWaits t x = { c with s := l, tok := k, mwaits := w } ∧ (c.mwaits = [] → l = c.s ∧ k = c.tok) := by
  have ended (l : List (Nat × Nat × BitVec 48)) (d : Ctx) : ∃ r k,
      l.foldl (fun a m => (a.put (BitVec.ofNat 6 m.2.1) x).setTok m.2.1 false) d = { d with s := r, tok := k } := by
    induction l generalizing d with
    | nil => exact ⟨_, _, rfl⟩
    | cons m l ih =>
      obtain ⟨r, k, e⟩ := ih ((d.put (BitVec.ofNat 6 m.2.1) x).setTok m.2.1 false)
      refine ⟨r, k, ?_⟩
      rw [List.foldl_cons, e]
      simp only [Ctx.put, Ctx.setTok]
      split <;> rfl
  obtain ⟨r, k, e⟩ := ended (c.mwaits.partition (fun m => t.batchDone m.1)).1
    { c with mwaits := (c.mwaits.partition (fun m => t.batchDone m.1)).2 }
  refine ⟨r, k, _, e, fun h => ?_⟩
  simp only [h, List.partition_eq_filter_filter, List.filter_nil, List.foldl_nil] at e
  have hs := congrArg Ctx.s e
  have ht := congrArg Ctx.tok e
  exact ⟨hs.symm, ht.symm⟩

/-- What the statements ask of a team that has been rolled back. -/
theorem Rolled.rolledBack {s t : State} {tid : Nat} (h : Rolled s t tid) : RolledBack s t tid := by
  have ht : t.team tid = (s.team tid).rolledBack := by simp only [State.team, h.teams, kvGet_kvSet, if_true]
  have hc : t.ctx tid = ((s.ctx tid).endWaits (s.team tid).rolledBack (BitVec.allOnes 64)).rollback := by
    simp only [State.ctx, h.ctxs, kvGet_kvSet, if_true]
  have hg (g : Nat) (hg : g < (s.team tid).groups) :
      t.grp (tid * 16 + g) = (s.grp (tid * 16 + g)).rollback (s.team tid).regCommitted := by
    simp only [State.grp, kvGet, h.groups, mem_groupIds, if_pos hg]
    rfl
  obtain ⟨l, k, w, he, hn⟩ := endWaits_eq (s.ctx tid) (s.team tid).rolledBack (BitVec.allOnes 64)
  unfold RolledBack
  dsimp only
  rw [ht, hc, he]
  refine ⟨⟨rfl, rfl, rfl, rfl, rfl, rfl, rfl, rfl, rfl, hn⟩,
    ⟨rfl, rfl, rfl, rfl, rfl, rfl, rfl, rfl, fun _ => rfl, rfl, rfl, rfl, fun x hx hk => ?_⟩, fun g hgn => ?_, fun x hx => ?_, h.same⟩
  · refine List.mem_filter.mpr ⟨hx, ?_⟩
    simp only [Bool.not_eq_true', List.contains_eq_mem, decide_eq_false_iff_not, List.mem_map, List.mem_filter]
    rintro ⟨a, ⟨ha, hv⟩, rfl⟩
    exact hk a ha hv (by simp [fieldOf])
  · rw [hg g hgn]
    refine ⟨rfl, rfl, rfl, rfl, rfl, rfl, rfl, rfl, rfl, rfl, rfl, rfl, rfl, rfl, fun p hp => ?_, rfl, rfl⟩
    obtain ⟨q, _, rfl⟩ := List.mem_map.mp hp
    rfl
  · rw [h.hold, if_pos (show tid / 4 = teamCore tid from rfl)] at hx
    obtain ⟨hs, hne⟩ := List.mem_filter.mp hx
    exact ⟨by simpa using hne, hs⟩

end Sys2Proof.Machine
end

section
/-! PROOFS. A strike on a core (R187, R190): each of its teams is rolled back or killed, and the others do not matter to it. -/

namespace Sys2Proof.Machine

/-! ## What work on other teams leaves of a team -/

/-- A team, its generator and its groups are as before; memory reads as before, and no new store is held back. -/
structure Spares (s t : State) (j : Nat) : Prop extends Quiet s t where
  holds : HoldsNoMore s t
  team : kvFind t.teams j = kvFind s.teams j
  ctx : kvFind t.ctxs j = kvFind s.ctxs j
  grp : ∀ g < 16, kvFind t.groups (j * 16 + g) = kvFind s.groups (j * 16 + g)

theorem Spares.refl (s : State) (j : Nat) : Spares s s j := ⟨.refl s, fun _ _ h => h, rfl, rfl, fun _ _ => rfl⟩

theorem Spares.trans {s t u : State} {j : Nat} (h : Spares s t j) (g : Spares t u j) : Spares s u j where
  toQuiet := h.toQuiet.trans g.toQuiet
  holds := h.holds.trans g.holds
  team := g.team.trans h.team
  ctx := g.ctx.trans h.ctx
  grp k hk := (g.grp k hk).trans (h.grp k hk)

theorem Aside.spares {s t : State} (h : Aside s t) (j : Nat) : Spares s t j where
  toQuiet := h.toQuiet
  holds := h.holds
  team := by rw [h.teams]
  ctx := by rw [h.ctxs]
  grp _ _ := by rw [h.groups]

/-- Groups of one team have none of the names of another's. -/
theorem not_mem_groupIds {tid j n g : Nat} (hj : j ≠ tid) (hn : n ≤ 16) (hg : g < 16) :
    j * 16 + g ∉ (List.range n).map (groupId tid) := by
  simp only [List.mem_map, List.mem_range, groupId, not_exists, not_and]
  intro k hk
  omega

theorem Freed.spares {s t : State} {tid : Nat} (h : Freed s t tid) (ht : HoldsNoMore s t) {j : Nat} (hj : j ≠ tid) :
    Spares s t j where
  toQuiet := h.toQuiet
  holds := ht
  team := by rw [h.teams, kvFind_kvDel, if_neg hj]
  ctx := by rw [h.ctxs, kvFind_kvDel, if_neg hj]
  grp g hg := by rw [h.groups, kvFind_foldl_kvDel, if_neg (not_mem_groupIds hj (Nat.le_refl 16) hg)]

theorem Rolled.holds {s t : State} {tid : Nat} (h : Rolled s t tid) : HoldsNoMore s t := fun c x hx => by
  rw [h.hold c] at hx
  split at hx
  · exact (List.mem_filter.mp hx).1
  · exact hx

theorem Rolled.spares {s t : State} {tid : Nat} (h : Rolled s t tid) (hn : (s.team tid).groups ≤ 16) {j : Nat} (hj : j ≠ tid) :
    Spares s t j where
  toQuiet := h.toQuiet
  holds := h.holds
  team := by rw [h.teams, kvFind_kvSet, if_neg hj]
  ctx := by rw [h.ctxs, kvFind_kvSet, if_neg hj]
  grp g hg := by rw [h.groups, if_neg (not_mem_groupIds hj hn hg)]

theorem Spares.hasTeam_eq {s t : State} {j : Nat} (h : Spares s t j) : t.hasTeam j = s.hasTeam j := by
  simp only [State.hasTeam, h.team]

theorem Spares.team_eq {s t : State} {j : Nat} (h : Spares s t j) : t.team j = s.team j := by
  simp only [State.team, kvGet, h.team]

theorem Spares.ctx_eq {s t : State} {j : Nat} (h : Spares s t j) : t.ctx j = s.ctx j := by
  simp only [State.ctx, kvGet, h.ctx]

theorem Spares.grp_eq {s t : State} {j : Nat} (h : Spares s t j) {g : Nat} (hg : g < 16) : t.grp (j * 16 + g) = s.grp (j * 16 + g) := by
  simp only [State.grp, kvGet, h.grp g hg]

/-! ## What has become of a team outlasts work on others -/

theorem Freed.teamGone {s t : State} {tid : Nat} (h : Freed s t tid) : TeamGone t tid := by
  refine ⟨?_, ?_, fun g hg => ?_⟩
  · simp only [State.hasTeam, h.teams, kvFind_kvDel, if_true, Option.isSome_none]
  · rw [h.ctxs, kvFind_kvDel, if_pos rfl]
  · rw [h.groups, kvFind_foldl_kvDel, if_pos ((mem_groupIds tid 16 g).mpr hg)]

theorem TeamGone.spared {t u : State} {j : Nat} (h : TeamGone t j) (g : Spares t u j) : TeamGone u j := by
  obtain ⟨ht, hc, hg⟩ := h
  exact ⟨g.hasTeam_eq.trans ht, g.ctx.trans hc, fun k hk => (g.grp k hk).trans (hg k hk)⟩

theorem RolledBack.spared {s t u : State} {j : Nat} (hn : (s.team j).groups ≤ 16) (h : RolledBack s t j) (g : Spares t u j) :
    RolledBack s u j := by
  obtain ⟨hgen, hteam, hgrp, hhold, hsame⟩ := h
  refine ⟨?_, ?_, fun k hk => ?_, fun x hx => hhold x (g.holds _ x hx), fun a => (g.same a).trans (hsame a)⟩
  · rw [g.ctx_eq]; exact hgen
  · rw [g.team_eq]; exact hteam
  · rw [g.grp_eq (Nat.lt_of_lt_of_le hk hn)]; exact hgrp k hk

theorem RolledBack.of_spares {s t u : State} {j : Nat} (hn : (s.team j).groups ≤ 16) (h : Spares s t j) (g : RolledBack t u j) :
    RolledBack s u j := by
  obtain ⟨hgen, hteam, hgrp, hhold, hsame⟩ := g
  rw [h.team_eq] at hteam hgrp
  refine ⟨?_, hteam, fun k hk => ?_, fun x hx => ?_, fun a => (hsame a).trans (h.same a)⟩
  · rw [← h.ctx_eq]; exact hgen
  · rw [← h.grp_eq (Nat.lt_of_lt_of_le hk hn)]; exact hgrp k hk
  · obtain ⟨hne, ht⟩ := hhold x hx
    exact ⟨hne, h.holds _ x ht⟩

/-! ## One team of the core, and all of them -/

/-- What a strike makes of one team of its core. -/
def State.strikeTeam (s : State) (tid : Nat) : State :=
  if s.hasTeam tid then (if (s.team tid).sealed then s.kill tid 4 else s.rollback tid) else s

/-- A team has been struck: it is gone where its regions were sealed, and else rolled back. -/
def Struck (s t : State) (tid : Nat) : Prop :=
  s.hasTeam tid = true → ((s.team tid).sealed = true → TeamGone t tid) ∧ ((s.team tid).sealed = false → RolledBack s t tid)

theorem Struck.spared {s t u : State} {j : Nat} (hn : (s.team j).groups ≤ 16) (h : Struck s t j) (g : Spares t u j) :
    Struck s u j := fun ht =>
  ⟨fun hs => ((h ht).1 hs).spared g, fun hs => ((h ht).2 hs).spared hn g⟩

theorem Struck.of_spares {s t u : State} {j : Nat} (hn : (s.team j).groups ≤ 16) (h : Spares s t j) (g : Struck t u j) :
    Struck s u j := by
  unfold Struck at g
  rw [h.hasTeam_eq, h.team_eq] at g
  exact fun ht => ⟨(g ht).1, fun hs => ((g ht).2 hs).of_spares hn h⟩

theorem strikeTeam_struck (s : State) (tid : Nat) : Struck s (s.strikeTeam tid) tid := fun ht => by
  unfold State.strikeTeam
  rw [if_pos ht]
  constructor <;> intro hs
  · rw [if_pos hs]
    exact (kill_freed ht 4).1.teamGone
  · rw [hs]
    exact (rollback_rolled s tid).rolledBack

theorem strikeTeam_spares {s : State} {tid : Nat} (hn : (s.team tid).groups ≤ 16) {j : Nat} (hj : j ≠ tid) :
    Spares s (s.strikeTeam tid) j := by
  unfold State.strikeTeam
  split
  · rename_i ht
    split
    · obtain ⟨hf, _, hh⟩ := kill_freed ht 4
      exact hf.spares (hh rfl) hj
    · exact (rollback_rolled s tid).spares hn hj
  · exact .refl s j

/-- A strike gives no team groups. -/
theorem strikeTeam_groups {s : State} (h : ∀ j, (s.team j).groups ≤ 16) (tid j : Nat) : ((s.strikeTeam tid).team j).groups ≤ 16 := by
  by_cases hj : j = tid
  · subst hj
    unfold State.strikeTeam
    split
    · rename_i ht
      split
      · rw [State.team, (kill_freed ht 4).1.teams]
        simp [kvGet]
      · rw [State.team, (rollback_rolled s j).teams, kvGet_kvSet, if_pos rfl]
        exact h j
    · exact h j
  · rw [(strikeTeam_spares (h tid) hj).team_eq]
    exact h j

/-- Teams struck one after another: each is struck, and every other is as before. -/
theorem foldl_strikeTeam (l : List Nat) (hl : l.Nodup) (s : State) (hn : ∀ j, (s.team j).groups ≤ 16) :
    (∀ j ∉ l, Spares s (l.foldl State.strikeTeam s) j) ∧ ∀ j ∈ l, Struck s (l.foldl State.strikeTeam s) j := by
  induction l generalizing s with
  | nil => exact ⟨fun j _ => .refl s j, fun j hj => absurd hj List.not_mem_nil⟩
  | cons tid l ih =>
    obtain ⟨htid, hl⟩ := List.nodup_cons.mp hl
    obtain ⟨hs, hk⟩ := ih hl (s.strikeTeam tid) (strikeTeam_groups hn tid)
    rw [List.foldl_cons]
    refine ⟨fun j hj => ?_, fun j hj => ?_⟩
    · obtain ⟨h1, h2⟩ := not_or.mp (fun h => hj (List.mem_cons.mpr h))
      exact (strikeTeam_spares (hn tid) h1).trans (hs j h2)
    · by_cases e : j = tid
      · subst e
        exact (strikeTeam_struck s j).spared (hn j) (hs j htid)
      · exact (hk j ((List.mem_cons.mp hj).resolve_left e)).of_spares (hn j) (strikeTeam_spares (hn tid) e)

theorem strikeTeams_eq (s : State) (c : Nat) :
    s.strikeTeams c = ([0, 1, 2, 3].map (fun k => c * 4 + k)).foldl State.strikeTeam s := rfl

/-- Every team of a core is struck. -/
theorem strikeTeams_struck (s : State) (hn : ∀ j, (s.team j).groups ≤ 16) (c k : Nat) (hk : k < 4) :
    Struck s (s.strikeTeams c) (c * 4 + k) := by
  rw [strikeTeams_eq]
  refine (foldl_strikeTeam _ ?_ s hn).2 _ ?_
  · exact List.Pairwise.map _ (fun _ _ hne e => hne (Nat.add_left_cancel e)) (by decide : [0, 1, 2, 3].Nodup)
  · exact List.mem_map_of_mem (by simp only [List.mem_cons, List.not_mem_nil, or_false]; omega)

end Sys2Proof.Machine
end

section
/-! PROOFS. A die that fails (R25, R26, R214): what becomes of its teams, their launches, its caches' lines and its pages. -/

namespace Sys2Proof.Machine

/-! ## The records of ended launches -/

/-- Records have been sent, and snapshots fired, and nothing else. -/
structure Reports (s t : State) : Prop extends Aside s t where
  dies : t.dies = s.dies := by rfl
  launches : t.launches = s.launches := by rfl

theorem Reports.refl (s : State) : Reports s s := {}

theorem Reports.trans {s t u : State} (h : Reports s t) (g : Reports t u) : Reports s u where
  toAside := h.toAside.trans g.toAside
  dies := g.dies.trans h.dies
  launches := g.launches.trans h.launches

theorem Reports.foldl {α : Type} (f : State → α → State) (h : ∀ s a, Reports s (f s a)) (l : List α) (s : State) :
    Reports s (l.foldl f s) := by
  induction l generalizing s with
  | nil => exact .refl _
  | cons a l ih => exact (h s a).trans (ih _)

theorem Reports.trigger (s : State) : Reports s s.trigger := by
  unfold State.trigger
  split
  · split <;> exact {}
  · exact .refl _

theorem Reports.fire (s : State) (d k : Nat) : Reports s (s.fire d k) := by
  unfold State.fire
  split
  · exact .trigger s
  · exact .refl _

theorem Reports.send (s : State) (r : Rec2) : Reports s (s.send r) where
  toAside := .send s r

theorem Reports.reportEnded (s : State) (d lid : Nat) : Reports s (s.reportEnded d lid) :=
  .foldl _ (fun a x => (Reports.send a _).trans (.fire _ x 4)) _ s

/-- What one of a row of reports has noted stands after all of them. -/
theorem noted_foldl {α : Type} (f : State → α → State) (h : ∀ s a, Reports s (f s a)) {l : List α} {a : α} (ha : a ∈ l) (s : State)
    {r : Rec2} (hn : ∀ u, Reports s u → NotedIn (f u a).records r) : NotedIn (l.foldl f s).records r := by
  induction l generalizing s with
  | nil => exact absurd ha List.not_mem_nil
  | cons b l ih =>
    rw [List.foldl_cons]
    rcases List.mem_cons.mp ha with rfl | hl
    · obtain ⟨q, hq, qk, qh, qd, qt⟩ := hn s (.refl s)
      obtain ⟨p, hp, pk, ph, pd, pt⟩ := (Reports.foldl f h l (f s a)).noted q hq qk
      exact ⟨p, hp, pk, ph.trans qh, pd.trans qd, pt.trans qt⟩
    · exact ih hl (f s b) (fun u hu => hn u ((h s b).trans hu))

/-- The record of the end of a launch for one surviving die. -/
def State.endRecord (s : State) (lid y : Nat) : Rec2 :=
  { kind := 4, head := recHead 4 7 y 0 0, tag := spGet (s.launch lid).field 23, die := y, permit := .dist y }

/-- Each surviving die that had admitted a team of the launch and holds none has its record. -/
theorem reportEnded_noted {s u : State} (hu : Reports s u) {d lid y : Nat} (hy : y ∈ (s.launch lid).admitted) (hd : y ≠ d)
    (hs : (s.die y).hole = false) (ht : ∀ e ∈ s.teams, e.2.lid = lid → coreDie (e.1 / 4) ≠ y) :
    NotedIn (u.reportEnded d lid).records (s.endRecord lid y) := by
  have hl : u.launch lid = s.launch lid := by simp only [State.launch, hu.launches]
  refine noted_foldl _ (fun a x => (Reports.send a _).trans (.fire _ x 4)) (a := y) ?_ u fun v _ => ?_
  · refine List.mem_filter.mpr ⟨by rwa [hl], ?_⟩
    have hv : (u.die y).hole = false := by rwa [hu.hole]
    simp only [hv, hu.teams, Bool.and_eq_true, bne_iff_ne, Bool.not_false, Bool.not_eq_true', List.any_eq_false, beq_iff_eq]
    exact ⟨⟨hd, trivial⟩, fun e he h => ht e he h.1 h.2⟩
  · refine (Reports.fire _ y 4).noted _ (List.mem_append_right _ (List.mem_singleton.mpr ?_)) rfl
    simp only [State.endRecord, hl]

/-! ## The teams of ended launches -/

theorem Freed.kvFind_teams {s t : State} {tid : Nat} (h : Freed s t tid) {j : Nat} (hj : j ≠ tid) :
    kvFind t.teams j = kvFind s.teams j := by rw [h.teams, kvFind_kvDel, if_neg hj]

/-- A team that is gone stays gone when another is killed. -/
theorem TeamGone.freed {s t : State} {j tid : Nat} (h : TeamGone s j) (g : Freed s t tid) : TeamGone t j := by
  obtain ⟨ht, hc, hg⟩ := h
  refine ⟨?_, ?_, fun k hk => ?_⟩
  · simp only [State.hasTeam, Option.isSome_eq_false_iff, Option.isNone_iff_eq_none] at ht ⊢
    rw [g.teams, kvFind_kvDel, ht, ite_self]
  · rw [g.ctxs, kvFind_kvDel, hc, ite_self]
  · rw [g.groups, kvFind_foldl_kvDel, hg k hk, ite_self]

/-- Teams are killed one after another: a team that is gone stays so. -/
theorem foldl_kill_quiet (reason : Nat) (l : List Nat) (s : State) :
    Quiet s (l.foldl (fun a j => a.kill j reason) s) ∧ ∀ j, TeamGone s j → TeamGone (l.foldl (fun a j => a.kill j reason) s) j := by
  induction l generalizing s with
  | nil => exact ⟨.refl s, fun _ h => h⟩
  | cons k l ih =>
    obtain ⟨hq, hg⟩ := ih (s.kill k reason)
    rw [List.foldl_cons]
    cases hk : s.hasTeam k with
    | false =>
      rw [kill_of_not_hasTeam hk] at hq hg ⊢
      exact ⟨hq, hg⟩
    | true =>
      obtain ⟨hf, _⟩ := kill_freed hk reason
      exact ⟨hf.toQuiet.trans hq, fun j h => hg j (h.freed hf)⟩

/-- Each of the killed teams is gone, and its KILL record stands. -/
theorem foldl_kill_gone (reason : Nat) {l : List Nat} {j : Nat} (hj : j ∈ l) (s : State) (ht : s.hasTeam j = true) :
    TeamGone (l.foldl (fun a j => a.kill j reason) s) j ∧
      NotedIn (l.foldl (fun a j => a.kill j reason) s).records (s.teamRec j 4 reason {} .nobody) := by
  induction l generalizing s with
  | nil => exact absurd hj List.not_mem_nil
  | cons k l ih =>
    rw [List.foldl_cons]
    by_cases e : j = k
    · subst e
      obtain ⟨hf, ⟨q, hq, qk, qh, qd, qt⟩, _⟩ := kill_freed ht reason
      obtain ⟨hQ, hG⟩ := foldl_kill_quiet reason l (s.kill j reason)
      obtain ⟨p, hp, pk, ph, pd, pt⟩ := hQ.noted q hq qk
      exact ⟨hG j hf.teamGone, p, hp, pk, ph.trans qh, pd.trans qd, pt.trans qt⟩
    · have hl := (List.mem_cons.mp hj).resolve_left e
      cases hk : s.hasTeam k with
      | false =>
        rw [kill_of_not_hasTeam hk]
        exact ih hl s ht
      | true =>
        have hf := (kill_freed hk reason).1.kvFind_teams e
        have := ih hl (s.kill k reason) (by simpa only [State.hasTeam, hf] using ht)
        simpa only [State.teamRec, State.tagOf, State.team, kvGet, hf] using this

/-! ## The lines that are lost -/

/-- Sectors have been marked poisoned, and nothing else. -/
structure Blackens (s t : State) : Prop where
  eq : t = { s with poison := t.poison }
  mem : ∀ p ∈ s.poison, p ∈ t.poison

theorem Blackens.trans {s t u : State} (h : Blackens s t) (g : Blackens t u) : Blackens s u :=
  ⟨by rw [g.eq, h.eq], fun p hp => g.mem p (h.mem p hp)⟩

theorem Blackens.populated {s t : State} (h : Blackens s t) (a : Nat) : t.populated a = s.populated a := by
  rw [h.eq]; rfl

theorem Blackens.poisonSector (s : State) (la : Nat) : Blackens s (s.poisonSector la) := by
  unfold State.poisonSector
  split
  · exact ⟨rfl, fun p hp => (mem_natAdd _ _ _).mpr (.inr hp)⟩
  · exact ⟨rfl, fun _ hp => hp⟩

/-- A populated sector that is marked is among the poisoned ones. -/
theorem mem_poisonSector {s : State} {la : Nat} (h : s.populated la = true) : la / 64 ∈ (s.poisonSector la).poison := by
  simp only [State.poisonSector, h, Bool.true_or, if_true]
  exact (mem_natAdd _ _ _).mpr (.inl rfl)

/-- Both sectors of a line are marked. -/
def State.loseLine (s : State) (line : Nat) : State := (s.poisonSector (line * 128)).poisonSector (line * 128 + 64)

theorem Blackens.loseLine (s : State) (line : Nat) : Blackens s (s.loseLine line) :=
  (Blackens.poisonSector s _).trans (.poisonSector _ _)

theorem Blackens.foldl (l : List (Nat × DirEntry)) (s : State) : Blackens s (l.foldl (fun a e => a.loseLine e.1) s) := by
  induction l generalizing s with
  | nil => exact ⟨rfl, fun _ h => h⟩
  | cons e l ih => exact (Blackens.loseLine s e.1).trans (ih _)

/-- Every populated sector of a line that is lost is among the poisoned ones. -/
theorem mem_foldl_loseLine {l : List (Nat × DirEntry)} {e : Nat × DirEntry} (he : e ∈ l) (s : State) (la : Nat)
    (hla : la = e.1 * 128 ∨ la = e.1 * 128 + 64) (h : s.populated la = true) :
    la / 64 ∈ (l.foldl (fun a e => a.loseLine e.1) s).poison := by
  induction l generalizing s with
  | nil => exact absurd he List.not_mem_nil
  | cons x l ih =>
    rw [List.foldl_cons]
    rcases List.mem_cons.mp he with rfl | hl
    · refine (Blackens.foldl l _).mem _ ?_
      rcases hla with rfl | rfl
      · exact (Blackens.poisonSector _ _).mem _ (mem_poisonSector h)
      · exact mem_poisonSector (by rwa [(Blackens.poisonSector ..).populated])
    · exact ih hl _ (by rwa [(Blackens.loseLine ..).populated])

/-- The addresses below three terabytes lie in a window of a die. -/
theorem windowOf_isSome_iff (la : Nat) : (windowOf la).isSome = true ↔ la < 0x30000000000 := by
  unfold windowOf
  by_cases h0 : la < 0x10000000000
  · rw [if_pos h0]
    exact iff_of_true rfl (by omega)
  · rw [if_neg h0]
    by_cases h1 : la < 0x20000000000
    · rw [if_pos h1]
      exact iff_of_true rfl (by omega)
    · rw [if_neg h1]
      by_cases h2 : la < 0x30000000000
      · rw [if_pos h2]
        exact iff_of_true rfl h2
      · rw [if_neg h2]
        exact iff_of_false (by simp) h2

/-- The second sector of a line lies in the window of the first. -/
theorem windowOf_second {line : Nat} (h : (windowOf (line * 128)).isSome = true) : (windowOf (line * 128 + 64)).isSome = true := by
  rw [windowOf_isSome_iff] at h ⊢
  omega

theorem windowOf_of_populated {s : State} {la : Nat} (h : s.populated la = true) : (windowOf la).isSome = true := by
  unfold State.populated at h
  split at h
  · rename_i e; rw [e]; rfl
  · cases h

/-- A sector of a memory window reads poison if it is marked wherever it is populated. -/
theorem poisoned_of_mem {s : State} {la : Nat} (hw : (windowOf la).isSome = true) (h : s.populated la = true → la / 64 ∈ s.poison) :
    s.poisoned la = true := by
  unfold State.populated at h
  unfold State.poisoned
  cases e : windowOf la with
  | none => rw [e] at hw; cases hw
  | some y =>
    rw [e] at h
    simp only [decide_eq_true_eq] at h
    by_cases ho : y.2 < (s.die y.1).dmemcap.toNat
    · simp [h ho]
    · simp [Nat.not_lt.mp ho]

/-- The only current copy of a line is in the die's caches. -/
theorem only_of_owner {e : DirEntry} {d : Nat} (hd : d < 8) (ho : e.owner = d)
    (h : e.state = .m ∨ e.state = .o ∧ ∀ k < 8, k ≠ d → e.vec.getLsbD k = false) : e.only d = true := by
  have hv (hk : ∀ k < 8, k ≠ d → e.vec.getLsbD k = false) : e.vec &&& ~~~(1#8 <<< d) = 0 := by
    apply BitVec.eq_of_getLsbD_eq
    intro i hi
    by_cases e : i = d
    · subst e; simp [hi]
    · simp [hk i hi e]
  rcases h with hm | ⟨hs, hk⟩
  · simp [DirEntry.only, ho, hm]
  · simp [DirEntry.only, ho, hs, hv hk]


/-! ## The failure -/

/-- The machine when the launches of a die that fails have been reported and their teams killed. -/
def State.teamsEnded (s : State) (d : Nat) : State :=
  ((s.teams.filter (fun e => (s.launchesOn d).contains e.2.lid)).map (fun e => e.1)).foldl (fun a j => a.kill j 7)
    ((s.launchesOn d).foldl (fun a l => a.reportEnded d l) s)

/-- The machine when, beside, the lines that only the die's caches held are lost. -/
def State.linesLost (s : State) (d : Nat) : State :=
  ((s.teamsEnded d).dir.filter (fun e => e.2.only d)).foldl (fun a e => a.loseLine e.1) (s.teamsEnded d)

theorem reported (s : State) (d : Nat) : Reports s ((s.launchesOn d).foldl (fun a l => a.reportEnded d l) s) :=
  .foldl _ (fun a l => .reportEnded a d l) _ s

theorem teamsEnded_quiet (s : State) (d : Nat) : Quiet s (s.teamsEnded d) :=
  (reported s d).toQuiet.trans (foldl_kill_quiet 7 _ _).1

theorem linesLost_blackens (s : State) (d : Nat) : Blackens (s.teamsEnded d) (s.linesLost d) := .foldl _ _

theorem linesLost_records (s : State) (d : Nat) : (s.linesLost d).records = (s.teamsEnded d).records := by
  rw [(linesLost_blackens s d).eq]

theorem linesLost_populated (s : State) (d a : Nat) : (s.linesLost d).populated a = s.populated a := by
  rw [(linesLost_blackens s d).populated, (teamsEnded_quiet s d).populated]

theorem failDie_copies (s : State) (d : Nat) :
    (s.failDie d).copies = (s.linesLost d).copies.filter (fun c => cacheDie c.cache != d) := rfl

theorem failDie_launches (s : State) (d : Nat) :
    (s.failDie d).launches = (s.linesLost d).launches.filter (fun e => !(s.launchesOn d).contains e.1) := rfl

theorem failDie_records (s : State) (d : Nat) :
    (s.failDie d).records = (s.linesLost d).records.filter (fun r => r.die != d) := rfl

theorem failDie_poison (s : State) (d : Nat) : (s.failDie d).poison = (s.linesLost d).poison := rfl

theorem failDie_mem (s : State) (d : Nat) : (s.failDie d).mem = (s.linesLost d).mem := rfl

theorem failDie_teams (s : State) (d : Nat) : (s.failDie d).teams = (s.linesLost d).teams := rfl

theorem failDie_groups (s : State) (d : Nat) : (s.failDie d).groups = (s.linesLost d).groups := rfl

/-- The die that fails is a hole, and each die has its memory. -/
theorem failDie_die (s : State) (d j : Nat) :
    ((s.failDie d).die j).dmemcap = ((s.linesLost d).die j).dmemcap ∧ (j = d → ((s.failDie d).die j).hole = true) := by
  have e : ∃ (f g : Nat → Die → Die) (k : Die), (s.failDie d).dies = kvMap f (kvSet (kvMap g (s.linesLost d).dies) d k) ∧
      (∀ i x, (f i x).dmemcap = x.dmemcap ∧ (f i x).hole = x.hole) ∧ (∀ i x, (g i x).dmemcap = x.dmemcap) ∧
      k.dmemcap = ((s.linesLost d).die d).dmemcap ∧ k.hole = true := by
    refine ⟨_, _, _, by unfold State.failDie; dsimp only; exact rfl, fun _ _ => ⟨by exact rfl, by exact rfl⟩, fun _ _ => by exact rfl, ?_, ?_⟩
    · exact rfl
    · exact rfl
  obtain ⟨f, g, k, e, hf, hg, hk, hh⟩ := e
  simp only [State.die, kvGet, e, kvFind_kvMap, kvFind_kvSet]
  by_cases hj : j = d
  · subst hj
    simpa [hf, hh, State.die, kvGet] using hk
  · rw [if_neg hj]
    refine ⟨?_, fun h => absurd h hj⟩
    cases kvFind (s.linesLost d).dies j <;> simp [hf, hg]

/-- No context of the die is left, and none has come. -/
theorem failDie_ctxs (s : State) (d j : Nat) :
    (4096 ≤ j → ctxDie j = d → kvFind (s.failDie d).ctxs j = none) ∧
      (kvFind (s.linesLost d).ctxs j = none → kvFind (s.failDie d).ctxs j = none) := by
  have left {e : Nat × Ctx} (he : e ∈ (s.failDie d).ctxs) :
      e ∈ (s.linesLost d).ctxs ∧ (isTeamCtx e.1 = true ∨ ctxDie e.1 ≠ d) := by
    obtain ⟨hm, hk⟩ := List.mem_filter.mp (show e ∈ List.filter _ (s.linesLost d).ctxs from he)
    refine ⟨hm, ?_⟩
    simp only [Bool.or_eq_true, Bool.and_eq_true, bne_iff_ne] at hk
    exact hk.imp_right And.left
  simp only [kvFind_eq_none]
  refine ⟨fun hj hd e he h => ?_, fun h e he => h e (left he).1⟩
  subst h
  rcases (left he).2 with ht | hn
  · simp only [isTeamCtx, decide_eq_true_eq] at ht
    omega
  · exact hn hd

theorem failDie_populated (s : State) (d a : Nat) : (s.failDie d).populated a = s.populated a := by
  rw [← linesLost_populated s d]
  unfold State.populated
  split
  · rw [(failDie_die s d _).1]
  · rfl

/-- Memory reads as before. -/
theorem failDie_same (s : State) (d : Nat) : SameBytes s (s.failDie d) := fun a => by
  have hm : (s.failDie d).mem = s.mem := by
    rw [failDie_mem, (linesLost_blackens s d).eq]
    exact (teamsEnded_quiet s d).mem
  unfold State.byte
  rw [failDie_populated, hm]

/-- A launch with a team on the die is among those that end. -/
theorem mem_launchesOn {s : State} {d j : Nat} (h : s.hasTeam j = true) (hd : coreDie (j / 4) = d) :
    (s.team j).lid ∈ s.launchesOn d := by
  obtain ⟨x, hx⟩ := Option.isSome_iff_exists.mp h
  have ht : s.team j = x := by simp only [State.team, kvGet, hx, Option.getD_some]
  refine List.mem_eraseDups.mpr (List.mem_append_left _ (List.mem_map.mpr ⟨(j, x), List.mem_filter.mpr ⟨mem_of_kvFind hx, ?_⟩, ?_⟩))
  · simpa [teamCore] using hd
  · rw [ht]

/-- A team of a launch that ends is gone, and its KILL record stands. -/
theorem teamsEnded_gone {s : State} {d k : Nat} (hk : s.hasTeam k = true) (hl : (s.team k).lid ∈ s.launchesOn d) :
    TeamGone (s.teamsEnded d) k ∧ NotedIn (s.teamsEnded d).records (s.teamRec k 4 7 {} .nobody) := by
  obtain ⟨x, hx⟩ := Option.isSome_iff_exists.mp hk
  have ht : s.team k = x := by simp only [State.team, kvGet, hx, Option.getD_some]
  have hm : k ∈ (s.teams.filter (fun e => (s.launchesOn d).contains e.2.lid)).map (fun e => e.1) :=
    List.mem_map.mpr ⟨(k, x), List.mem_filter.mpr ⟨mem_of_kvFind hx, by rw [← ht]; simpa using hl⟩, rfl⟩
  have hr := (reported s d).teams
  have := foldl_kill_gone 7 hm _ (show State.hasTeam ((s.launchesOn d).foldl (fun a l => a.reportEnded d l) s) k = true by
    simpa only [State.hasTeam, hr] using hk)
  simpa only [State.teamRec, State.tagOf, State.team, hr, State.teamsEnded] using this

theorem TeamGone.failDie {s : State} {d k : Nat} (h : TeamGone (s.teamsEnded d) k) : TeamGone (s.failDie d) k := by
  obtain ⟨ht, hc, hg⟩ := h
  have e := (linesLost_blackens s d).eq
  refine ⟨?_, (failDie_ctxs s d k).2 ?_, fun g hk => ?_⟩
  · rw [State.hasTeam, failDie_teams, e]; exact ht
  · rw [e]; exact hc
  · rw [failDie_groups, e]; exact hg g hk

/-- A record that stands for another die outlasts the failure. -/
theorem NotedIn.failDie {s : State} {d : Nat} {r : Rec2} (h : NotedIn (s.teamsEnded d).records r) (hd : r.die ≠ d) :
    NotedIn (s.failDie d).records r := by
  obtain ⟨q, hq, qk, qh, qd, qt⟩ := h
  refine ⟨q, ?_, qk, qh, qd, qt⟩
  rw [failDie_records, linesLost_records]
  exact List.mem_filter.mpr ⟨hq, by simpa [qd] using hd⟩

/-- The upper part of two joined patterns. -/
theorem toNat_append_div {m n : Nat} (x : BitVec m) (y : BitVec n) : (x ++ y).toNat / 2 ^ n = x.toNat := by
  rw [BitVec.toNat_append, ← Nat.shiftRight_eq_div_pow, Nat.shiftRight_or_distrib, Nat.shiftLeft_shiftRight,
    Nat.shiftRight_eq_div_pow, Nat.div_eq_of_lt y.isLt, Nat.or_zero]

/-- Doubleword 0x00 of a KILL record of reason 7 (R172). -/
theorem recHead_kill (die core slot : Nat) : (recHead 4 7 die core slot).toNat / 2 ^ 48 = 0x407 := by
  unfold recHead
  rw [show (2 : Nat) ^ 48 = 2 ^ 28 * 2 ^ 2 * 2 ^ 2 * 2 ^ 10 * 2 ^ 2 * 2 ^ 4 from rfl]
  simp only [← Nat.div_div_eq_div_mul, toNat_append_div]
  rfl

/-- A sector of a lost line reads poison after the failure. -/
theorem failDie_poisoned {s : State} {d : Nat} (hd : d < 8) {e : Nat × DirEntry} (he : e ∈ s.dir) (ho : e.2.owner = d)
    (hs : e.2.state = .m ∨ e.2.state = .o ∧ ∀ k < 8, k ≠ d → e.2.vec.getLsbD k = false) {la : Nat}
    (hla : la = e.1 * 128 ∨ la = e.1 * 128 + 64) (hw : (windowOf la).isSome = true) : (s.failDie d).poisoned la = true := by
  refine poisoned_of_mem hw fun hp => ?_
  rw [failDie_populated] at hp
  rw [failDie_poison]
  refine mem_foldl_loseLine (e := e) (List.mem_filter.mpr ⟨?_, only_of_owner hd ho hs⟩) _ la hla ?_
  · rwa [(teamsEnded_quiet s d).dir]
  · rwa [(teamsEnded_quiet s d).populated]

theorem failDie_dieFailed (s : State) (d : Nat) (hd : d < 8) : DieFailed s (s.failDie d) d := by
  refine ⟨(failDie_die s d d).2 rfl, failDie_same s d, fun c hc => ?_, fun j hj hjd => (failDie_ctxs s d j).1 hj hjd,
    fun j l hj hjd hl => ?_, fun e he ho hs hp => ?_⟩
  · rw [failDie_copies, (linesLost_blackens s d).eq] at hc
    obtain ⟨hm, hne⟩ := List.mem_filter.mp hc
    exact ⟨(teamsEnded_quiet s d).copies ▸ hm, by simpa using hne⟩
  · have hon : l ∈ s.launchesOn d := hl ▸ mem_launchesOn hj hjd
    have gone (k : Nat) (hk : s.hasTeam k = true) (hkl : (s.team k).lid = l) := teamsEnded_gone hk (hkl ▸ hon : (s.team k).lid ∈ _)
    refine ⟨?_, (gone j hj hl.symm).1.failDie, fun k hk hkl => ⟨(gone k hk hkl).1.failDie, fun hne => ?_⟩, fun y hy hyd hys hyt => ?_⟩
    · rw [failDie_launches, kvFind_eq_none]
      intro e he h
      have := (List.mem_filter.mp he).2
      simp [h, hon] at this
    · obtain ⟨q, hq, qk, qh, qd, qt⟩ := (gone k hk hkl).2.failDie hne
      exact ⟨q, hq, qk, by rw [qh]; exact recHead_kill .., qd, qt⟩
    · have hn : NotedIn (s.teamsEnded d).records (s.endRecord l y) := by
        obtain ⟨q, hq, qk, qh, qd, qt⟩ := noted_foldl (fun a l => a.reportEnded d l) (fun a l => .reportEnded a d l) hon s
          (fun u hu => reportEnded_noted hu hy hyd hys hyt)
        obtain ⟨p, hp, pk, ph, pd, pt⟩ := (foldl_kill_quiet 7 _ _).1.noted q hq qk
        exact ⟨p, hp, pk, ph.trans qh, pd.trans qd, pt.trans qt⟩
      obtain ⟨q, hq, qk, qh, qd, qt⟩ := hn.failDie hyd
      exact ⟨q, hq, qk, by rw [qh]; exact recHead_kill .., qd, qt⟩
  · have hw := windowOf_of_populated hp
    exact ⟨failDie_poisoned hd he ho hs (.inl rfl) hw, failDie_poisoned hd he ho hs (.inr rfl) (windowOf_second hw)⟩

end Sys2Proof.Machine
end

section
/-! PROOFS. The leaves of pages whose home has failed (R26, R214), bit by bit. -/

namespace Sys2Proof.Machine

/-! ## Masks and frames -/

/-- A sum of different powers of two is a mask: it has bit b + k for each k that is taken. -/
theorem sum_powers (p : Nat → Bool) (b n : Nat) :
    let m := (((List.range n).filter p).map (fun k => 2 ^ (b + k))).foldl (· + ·) 0
    m < 2 ^ (b + n) ∧ ∀ i, m.testBit i = true ↔ ∃ k < n, p k = true ∧ i = b + k := by
  induction n with
  | zero => exact ⟨Nat.two_pow_pos _, by simp⟩
  | succ n ih =>
    obtain ⟨hlt, hbit⟩ := ih
    simp only [List.range_succ, List.filter_append, List.map_append, List.foldl_append]
    generalize (((List.range n).filter p).map (fun k => 2 ^ (b + k))).foldl (· + ·) 0 = m at hlt hbit
    have hpow : 2 ^ (b + (n + 1)) = 2 ^ (b + n) * 2 := by rw [← Nat.add_assoc, Nat.pow_succ]
    have split (i : Nat) : (∃ k < n + 1, p k = true ∧ i = b + k) ↔ (∃ k < n, p k = true ∧ i = b + k) ∨ p n = true ∧ i = b + n := by
      simp only [Nat.lt_succ_iff_lt_or_eq, or_and_right, exists_or, exists_eq_left]
    cases hp : p n with
    | false =>
      simp only [List.filter_cons, hp, Bool.false_eq_true, if_false, List.filter_nil, List.map_nil, List.foldl_nil, split, hbit,
        false_and, or_false, implies_true, and_true]
      omega
    | true =>
      simp only [List.filter_cons, hp, if_true, List.filter_nil, List.map_cons, List.map_nil, List.foldl_cons, List.foldl_nil,
        split, true_and]
      refine ⟨by omega, fun i => ?_⟩
      rw [Nat.add_comm m, ← Nat.mul_one (2 ^ (b + n)), Nat.testBit_two_pow_mul_add 1 hlt]
      by_cases hi : i < b + n
      · simp only [if_pos hi, hbit, show ¬ i = b + n by omega, or_false]
      · have hno : ¬ ∃ k < n, p k = true ∧ i = b + k := by
          rintro ⟨k, hk, _, rfl⟩
          omega
        simp only [if_neg hi, hno, false_or, Nat.testBit_one_eq_true_iff_self_eq_zero]
        omega

/-- A bit of a leaf's frame. -/
theorem testBit_pteFrame (e : W64) (i : Nat) : (pteFrame e).testBit i = (decide (16 ≤ i ∧ i < 42) && e.getLsbD i) := by
  have h : pteFrame e = 2 ^ 16 * (e.extractLsb' 16 26).toNat + 0 := by simp [pteFrame, fieldOf, Nat.mul_comm]
  rw [h, Nat.testBit_two_pow_mul_add _ (by decide), Nat.zero_testBit, BitVec.testBit_toNat, BitVec.getLsbD_extractLsb']
  by_cases hi : i < 16
  · rw [if_pos hi, decide_eq_false (fun h => Nat.not_le.mpr hi h.1), Bool.false_and]
  · rw [if_neg hi, Nat.add_sub_cancel' (Nat.not_lt.mp hi)]
    congr 1
    simp only [decide_eq_decide]
    omega

/-! ## A leaf after re-homing -/

/-- The copies of a leaf's page on dies that have not failed. -/
def State.survives (t : State) (e : W64) (k : Nat) : Bool := (fieldOf e 56 8).testBit k && !(t.die k).hole

/-- A leaf with the mask of the surviving copies. -/
def State.remask (t : State) (e : W64) : W64 :=
  (e &&& 0x00FFFFFFFFFFFFFF#64) ||| w64 ((((List.range 8).filter (t.survives e)).map (fun k => 2 ^ (56 + k))).foldl (· + ·) 0)

theorem survives_eq (t : State) (e : W64) (k : Nat) (hk : k < 8) :
    t.survives e k = (e.getLsbD (56 + k) && !(t.die k).hole) := by
  rw [State.survives, fieldOf, BitVec.testBit_toNat, BitVec.getLsbD_extractLsb', decide_eq_true hk, Bool.true_and]

theorem getLsbD_remask_low (t : State) (e : W64) (i : Nat) (hi : i < 56) : (t.remask e).getLsbD i = e.getLsbD i := by
  obtain ⟨_, hm⟩ := sum_powers (t.survives e) 56 8
  unfold State.remask
  generalize List.foldl _ 0 _ = m at hm ⊢
  have hno : m.testBit i = false := by
    rw [Bool.eq_false_iff, ne_eq, hm]
    rintro ⟨k, _, _, rfl⟩
    omega
  have hlow : (0x00FFFFFFFFFFFFFF#64).getLsbD i = true := by
    rw [show (0x00FFFFFFFFFFFFFF#64) = BitVec.ofNat 64 (2 ^ 56 - 1) from rfl, BitVec.getLsbD_ofNat, Nat.testBit_two_pow_sub_one]
    simp; omega
  rw [BitVec.getLsbD_or, BitVec.getLsbD_and, hlow, BitVec.getLsbD_ofNat, hno, Bool.and_true, Bool.and_false, Bool.or_false]

theorem getLsbD_remask_mask (t : State) (e : W64) (k : Nat) (hk : k < 8) :
    (t.remask e).getLsbD (56 + k) = (e.getLsbD (56 + k) && !(t.die k).hole) := by
  obtain ⟨_, hm⟩ := sum_powers (t.survives e) 56 8
  rw [← survives_eq t e k hk]
  unfold State.remask
  generalize List.foldl _ 0 _ = m at hm ⊢
  have hbit : m.testBit (56 + k) = t.survives e k := by
    rw [Bool.eq_iff_iff, hm]
    constructor
    · rintro ⟨j, _, hj, h⟩
      rwa [show k = j by omega]
    · exact fun h => ⟨k, hk, h, rfl⟩
  have hhigh : (0x00FFFFFFFFFFFFFF#64).getLsbD (56 + k) = false := by
    rw [show (0x00FFFFFFFFFFFFFF#64) = BitVec.ofNat 64 (2 ^ 56 - 1) from rfl, BitVec.getLsbD_ofNat, Nat.testBit_two_pow_sub_one]
    simp
  rw [BitVec.getLsbD_or, BitVec.getLsbD_and, hhigh, BitVec.getLsbD_ofNat, hbit, Bool.and_false, Bool.false_or,
    decide_eq_true (by omega), Bool.true_and]

/-- The home moves: the old home's three bits and the new home's copy are cleared, and the new home is set. -/
def movedHome (e : W64) (k : Nat) : W64 := (e &&& ~~~w64 (7 * 2 ^ 37 + 2 ^ (56 + k))) ||| w64 (k * 2 ^ 37)

/-- A leaf without a surviving copy keeps its frame. -/
theorem rehome_of_nil {t : State} {e : W64} (ht : pteTier e = 0) (hm : isMmio (pteFrame e) = false)
    (h : (List.range 8).filter (t.survives e) = []) : t.rehome e = t.remask e := by
  have hf : (List.range 8).filter (fun d => (fieldOf e 56 8).testBit d && !(t.die d).hole) = [] := h
  simp only [State.rehome, State.remask, ht, hm, hf, h, ne_eq, not_true, decide_false, Bool.or_self, Bool.false_eq_true, if_false]

/-- A leaf whose home has failed moves to the first surviving copy. -/
theorem rehome_of_cons {t : State} {e : W64} {k : Nat} {l : List Nat} (ht : pteTier e = 0) (hm : isMmio (pteFrame e) = false)
    (hd : (t.die (pteFrame e / 2 ^ 37)).hole = true) (h : (List.range 8).filter (t.survives e) = k :: l) :
    t.rehome e = movedHome (t.remask e) k := by
  have hf : (List.range 8).filter (fun d => (fieldOf e 56 8).testBit d && !(t.die d).hole) = k :: l := h
  have hd : (t.die (pteFrame e / 0x2000000000)).hole = true := hd
  simp only [State.rehome, State.remask, movedHome, ht, hm, hf, h, hd, ne_eq, not_true, decide_false, Bool.or_self,
    Bool.false_eq_true, if_false, if_true]

theorem filter_survives_nil {t : State} {e : W64} (hn : ∀ k < 8, e.getLsbD (56 + k) = true → (t.die k).hole = true) :
    (List.range 8).filter (t.survives e) = [] := by
  refine List.filter_eq_nil_iff.mpr fun k hk => ?_
  have hk := List.mem_range.mp hk
  rw [survives_eq t e k hk]
  simpa using hn k hk

/-- The lowest surviving copy is the first. -/
theorem filter_survives_cons {t : State} {e : W64} {k : Nat} (hk : k < 8) (hb : e.getLsbD (56 + k) = true)
    (hs : (t.die k).hole = false) (hl : ∀ j < k, e.getLsbD (56 + j) = true → (t.die j).hole = true) :
    ∃ l, (List.range 8).filter (t.survives e) = k :: l := by
  refine List.head?_eq_some_iff.mp ?_
  rw [List.head?_filter, List.find?_range_eq_some]
  refine ⟨?_, List.mem_range.mpr hk, fun j hj => ?_⟩
  · rw [survives_eq t e k hk, hb, hs]; rfl
  · rw [survives_eq t e j (by omega)]
    by_cases hbj : e.getLsbD (56 + j) = true
    · simp [hl j hj hbj]
    · simp [hbj]

theorem testBit_seven (i : Nat) : (7 : Nat).testBit i = decide (i < 3) := by
  rw [show (7 : Nat) = 2 ^ 3 - 1 from rfl, Nat.testBit_two_pow_sub_one]

/-- The bits that a move of the home clears. -/
theorem testBit_moveMask (k i : Nat) : (7 * 2 ^ 37 + 2 ^ (56 + k)).testBit i = (decide (37 ≤ i ∧ i < 40) || decide (i = 56 + k)) := by
  have hlt : 2 ^ 37 * 7 + 0 < 2 ^ (56 + k) :=
    calc 2 ^ 37 * 7 + 0 < 2 ^ 56 := by decide
      _ ≤ 2 ^ (56 + k) := Nat.pow_le_pow_right (by decide) (by omega)
  rw [show 7 * 2 ^ 37 + 2 ^ (56 + k) = 2 ^ (56 + k) * 1 + (2 ^ 37 * 7 + 0) by omega, Nat.testBit_two_pow_mul_add 1 hlt,
    Nat.testBit_two_pow_mul_add 7 (Nat.two_pow_pos 37), testBit_seven, Nat.zero_testBit]
  by_cases hi : i < 56 + k
  · rw [if_pos hi, decide_eq_false (by omega : ¬ i = 56 + k), Bool.or_false]
    by_cases h37 : i < 37
    · rw [if_pos h37, decide_eq_false (by omega)]
    · rw [if_neg h37]
      exact decide_eq_decide.mpr (by omega)
  · rw [if_neg hi, decide_eq_false (by omega : ¬ (37 ≤ i ∧ i < 40)), Bool.false_or, Bool.eq_iff_iff,
      Nat.testBit_one_eq_true_iff_self_eq_zero, decide_eq_true_eq]
    omega

theorem getLsbD_movedHome (e : W64) (k i : Nat) (hi : i < 64) : (movedHome e k).getLsbD i =
    (e.getLsbD i && !(decide (37 ≤ i ∧ i < 40) || decide (i = 56 + k)) || (k * 2 ^ 37).testBit i) := by
  rw [movedHome, BitVec.getLsbD_or, BitVec.getLsbD_and, BitVec.getLsbD_not, BitVec.getLsbD_ofNat, BitVec.getLsbD_ofNat,
    testBit_moveMask, decide_eq_true hi, Bool.true_and, Bool.true_and, Bool.true_and]

theorem testBit_home (k i : Nat) : (k * 2 ^ 37).testBit i = (decide (37 ≤ i) && k.testBit (i - 37)) := by
  rw [Nat.mul_comm, ← Nat.add_zero (2 ^ 37 * k), Nat.testBit_two_pow_mul_add k (Nat.two_pow_pos 37), Nat.zero_testBit]
  by_cases h : i < 37
  · rw [if_pos h, decide_eq_false (Nat.not_le.mpr h), Bool.false_and]
  · rw [if_neg h, decide_eq_true (Nat.not_lt.mp h), Bool.true_and]

/-- The frame of a leaf whose masks alone have changed. -/
theorem pteFrame_remask (t : State) (e : W64) : pteFrame (t.remask e) = pteFrame e := by
  apply Nat.eq_of_testBit_eq
  intro i
  rw [testBit_pteFrame, testBit_pteFrame]
  by_cases hi : i < 56
  · rw [getLsbD_remask_low t e i hi]
  · rw [decide_eq_false (by omega), Bool.false_and, Bool.false_and]

/-- A frame that moves to another die keeps its place there. -/
theorem pteFrame_movedHome (e : W64) (k : Nat) (hk : k < 8) (hd : pteFrame e / 2 ^ 37 < 8) :
    pteFrame (movedHome e k) = k * 2 ^ 37 + pteFrame e % 2 ^ 37 := by
  have high (n i : Nat) (hn : n < 8) (hi : 40 ≤ i) : n.testBit (i - 37) = false :=
    Nat.testBit_lt_two_pow (Nat.lt_of_lt_of_le hn (Nat.pow_le_pow_right (n := 2) (i := 3) (by decide) (by omega)))
  apply Nat.eq_of_testBit_eq
  intro i
  rw [testBit_pteFrame, Nat.mul_comm, Nat.testBit_two_pow_mul_add k (Nat.mod_lt _ (Nat.two_pow_pos 37)), Nat.testBit_mod_two_pow,
    testBit_pteFrame]
  by_cases h37 : i < 37
  · rw [if_pos h37, getLsbD_movedHome e k i (by omega), testBit_home, decide_eq_true h37, decide_eq_false (by omega : ¬ 37 ≤ i),
      decide_eq_false (by omega : ¬ (37 ≤ i ∧ i < 40)), decide_eq_false (by omega : ¬ i = 56 + k)]
    simp
  · rw [if_neg h37]
    by_cases h42 : i < 42
    · rw [getLsbD_movedHome e k i (by omega), testBit_home, decide_eq_true (Nat.not_lt.mp h37),
        decide_eq_true (by omega : 16 ≤ i ∧ i < 42), decide_eq_false (by omega : ¬ i = 56 + k)]
      by_cases h40 : i < 40
      · rw [decide_eq_true (by omega : 37 ≤ i ∧ i < 40)]
        simp
      · have he := high (pteFrame e / 2 ^ 37) i hd (Nat.not_lt.mp h40)
        rw [Nat.testBit_div_two_pow, Nat.sub_add_cancel (Nat.not_lt.mp h37), testBit_pteFrame,
          decide_eq_true (by omega : 16 ≤ i ∧ i < 42), Bool.true_and] at he
        rw [he, high k i hk (Nat.not_lt.mp h40)]
        simp
    · rw [decide_eq_false (by omega), Bool.false_and, high k i hk (by omega)]

/-- Leaves of pages whose home has failed are re-homed, in every state. -/
theorem rehomed (t : State) (d : Nat) (hd : d < 8) : Rehomed t d := by
  intro e ht hm hhole hframe
  refine ⟨fun hn => ?_, fun k hk hb hs hl => ?_⟩
  · rw [rehome_of_nil ht hm (filter_survives_nil hn)]
    refine ⟨pteFrame_remask t e, fun k hk => ?_⟩
    rw [getLsbD_remask_mask t e k hk]
    simpa using hn k hk
  · obtain ⟨l, h⟩ := filter_survives_cons hk hb hs hl
    rw [rehome_of_cons ht hm (by rwa [hframe]) h]
    refine ⟨?_, fun j hj => ?_⟩
    · rw [pteFrame_movedHome _ k hk (by rwa [pteFrame_remask, hframe]), pteFrame_remask]
    · rw [getLsbD_movedHome _ k _ (by omega), getLsbD_remask_mask t e j hj, testBit_home,
        Nat.testBit_lt_two_pow (Nat.lt_of_lt_of_le hk (Nat.pow_le_pow_right (n := 2) (i := 3) (by decide) (by omega)))]
      rw [decide_eq_false (by omega : ¬ (37 ≤ 56 + j ∧ 56 + j < 40))]
      by_cases hjk : j = k <;> simp [hjk]

end Sys2Proof.Machine
end

section
/-! PROOFS. The module's events as exec carries them out (R6, R7, R26, R50, R187, R207 to R218, R372, R382 to R434): for each,
its meaning is the effect where the condition holds, and else nothing. -/

namespace Sys2Proof.Machine

/-! ## Three shapes of an event's meaning -/

/-- The meaning gives the effect where the condition holds, and the state itself where it does not. -/
theorem Happens.of_cases {s : State} {i : Instr} {x : EvArg} {f : Option (Prop × State)} {p : Prop} {t : State}
    {g : EvArg → State} (hf : f = some (p, t)) (h : exec i s = match s.cur with | .event y => .next (g y) | _ => .next s)
    (yes : p → g x = t) (no : ¬ p → g x = s) : Happens s i x f := by
  intro hc q u e
  rw [hf] at e
  obtain ⟨rfl, rfl⟩ := Prod.mk.inj (Option.some.inj e)
  have hx : exec i s = .next (g x) := by rw [h, hc]
  exact ⟨fun hp => by rw [hx, yes hp], fun hp => by rw [hx, no hp]⟩

/-- The meaning decides the condition. -/
theorem Happens.of_ite {s : State} {i : Instr} {x : EvArg} {f : Option (Prop × State)} {p b : Prop} [Decidable b] {t : State}
    {g : EvArg → State} (hf : f = some (p, t)) (h : exec i s = match s.cur with | .event y => .next (g y) | _ => .next s)
    (hg : g x = if b then t else s) (hb : b ↔ p) : Happens s i x f :=
  .of_cases hf h (fun hp => by rw [hg, if_pos (hb.2 hp)]) (fun hp => by rw [hg, if_neg (mt hb.1 hp)])

/-- The event always has its effect. -/
theorem Happens.of_true {s : State} {i : Instr} {x : EvArg} {f : Option (Prop × State)} {t : State} {g : EvArg → State}
    (hf : f = some (True, t)) (h : exec i s = match s.cur with | .event y => .next (g y) | _ => .next s) (hg : g x = t) :
    Happens s i x f :=
  .of_cases hf h (fun _ => hg) (fun n => absurd trivial n)

/-- What is no event of this part of the machine states nothing. -/
theorem Happens.of_none {s : State} {i : Instr} {x : EvArg} : Happens s i x none := fun _ _ _ e => by cases e

section
variable (s : State) (x : EvArg)

/-! ## Boot, strikes and wear (R7, R26, R187, R190, R207, R404, R416) -/

theorem bootStageVerify_happens : Happens s .eBootStageVerify x (moduleEvent .eBootStageVerify x s) :=
  .of_ite (b := ¬ _) rfl rfl (ite_not _ _ _).symm (by simp [and_assoc])

theorem moduleRelease_happens : Happens s .eModuleRelease x (moduleEvent .eModuleRelease x s) :=
  .of_ite rfl rfl rfl (by simp)

/-- What an I/O die sends again for a slice is marked in its own buffer, whatever the other holds. -/
theorem foldl_resend (again : Egress → Bool) (clk : Nat) :
    [0, 1].foldl (fun (a : State) i => if (s.iod i).egress.all (fun e => !again e) = true then a
      else a.updIod i (fun k => { k with
        egress := k.egress.filter (fun e => !again e) ++ (k.egress.filter again).map (fun e => { e with at_ := clk }) })) s =
    { s with iods := [0, 1].foldl (fun l j => let k : Iod := kvGet {} l j
        if k.egress.all (fun e => !again e) = true then l
        else kvSet l j { k with egress := k.egress.filter (fun e => !again e) ++
            (k.egress.filter again).map (fun (e : Egress) => ({ e with at_ := clk } : Egress)) }) s.iods } := by
  by_cases h0 : (s.iod 0).egress.all (fun e => !again e) = true <;>
    by_cases h1 : (s.iod 1).egress.all (fun e => !again e) = true <;>
    simp only [List.foldl_cons, List.foldl_nil, State.updIod, State.iod] at h0 h1 ⊢ <;>
    simp only [h0, h1, kvGet_kvSet, if_true, if_false, Bool.false_eq_true, show ¬ (1 = 0) by omega]

theorem sliceStrike_happens : Happens s .eSliceStrike x (moduleEvent .eSliceStrike x s) := by
  refine .of_true rfl rfl ?_
  simp only [foldl_resend]
  rfl

/-- The tallies join the lifetime counters, and nothing else of Smify changes. -/
theorem foldl_life (l : List (Nat × W64)) (m : Smify) :
    l.foldl (fun (m : Smify) e => { m with life := spSet m.life e.1 (satAdd (spGet m.life e.1) e.2.toNat) }) m =
      { m with life := l.foldl (fun a e => spSet a e.1 (satAdd (spGet a e.1) e.2.toNat)) m.life } := by
  induction l generalizing m with
  | nil => rfl
  | cons e l ih => rw [List.foldl_cons, ih, List.foldl_cons]

theorem lifetimeCounterUpdate_happens : Happens s .eLifetimeCounterUpdate x (moduleEvent .eLifetimeCounterUpdate x s) := by
  refine .of_ite (b := ¬ (!s.lifeDue) = true) rfl rfl ?_ (by simp [State.lifeDue])
  refine (ite_not ((!s.lifeDue) = true) _ _).symm.trans ?_
  simp only [foldl_life]

theorem dmemcap_correct (a d : Nat) : ((s.correct a).die d).dmemcap = (s.die d).dmemcap := by
  obtain ⟨_, _, h⟩ := Unseen.correct s a
  rw [h]

theorem dramScrub_happens : Happens s .eDramScrub x (moduleEvent .eDramScrub x s) := by
  have due : s.scrubDue x.a = true ↔ (s.die x.a).dmemcap.toNat / 64 ≠ 0 ∧
      (s.die x.a).scrubbed ≠ s.clk * ((s.die x.a).dmemcap.toNat / 64) / 138240000000000 % ((s.die x.a).dmemcap.toNat / 64) := by
    simp [State.scrubDue, State.sectors]
  refine .of_cases rfl rfl (fun hp => ?_) (fun hp => ?_) <;> by_cases hf : x.flag = true
  · simp only [if_pos hf, Bool.and_eq_true, decide_eq_true_eq, and_assoc] at hp ⊢
    exact if_pos hp
  · simp only [if_neg hf] at hp ⊢
    simp only [if_pos (due.mpr hp), State.updDie_eq, State.sectors, dmemcap_correct]
    rfl
  · simp only [if_pos hf, Bool.and_eq_true, decide_eq_true_eq, and_assoc] at hp ⊢
    exact if_neg hp
  · simp only [if_neg hf] at hp ⊢
    exact if_neg (mt due.mp hp)

/-! ## Registers, snapshots and the mailbox (R50, R53, R210, R405, R417, R418) -/

theorem registerWrite_happens : Happens s .eRegisterWrite x (moduleEvent .eRegisterWrite x s) := by
  refine .of_cases rfl rfl (fun hp => ?_) (fun hp => ?_)
  · rcases hp with hw | hk
    · simp only [if_pos hw]
    · by_cases hw : x.size = .aligned64
      · simp only [if_pos hw]
      · simp only [if_neg hw, if_pos hk]
  · obtain ⟨hw, hk⟩ := not_or.mp hp
    simp only [if_neg hw, if_neg hk]

/-- A core latches where it is armed and no trigger of the latch has come in the tick that armed it. -/
theorem latches_iff (k : Core) (l : List Nat) :
    k.latches l = true ↔ k.snapArmed = true ∧ ∀ n, k.snapAt = some n → n ∉ l := by
  cases h : k.snapAt <;> simp [Core.latches, h]

theorem snapshotLatch_happens : Happens s .eSnapshotLatch x (moduleEvent .eSnapshotLatch x s) := by
  refine .of_cases rfl rfl (fun hp => ?_) (fun hp => ?_)
  · obtain ⟨⟨t, l⟩, ht, hl⟩ := hp
    simp only [ht, if_neg (Nat.not_lt.mpr hl : ¬ s.now < t), latches_iff]
    rfl
  · cases ht : s.snapTick with
    | none => rfl
    | some y => exact if_pos (Nat.lt_of_not_le fun h => hp ⟨y, ht, h⟩)

theorem attestationReport_happens : Happens s .eAttestationReport x (moduleEvent .eAttestationReport x s) :=
  .of_ite rfl rfl rfl (by simp [State.mailBusy])

theorem readLifetimeCounters_happens : Happens s .eReadLifetimeCounters x (moduleEvent .eReadLifetimeCounters x s) :=
  .of_ite rfl rfl rfl (by simp [State.mailBusy])

theorem snapshotTriggerCommand_happens : Happens s .eSnapshotTriggerCommand x (moduleEvent .eSnapshotTriggerCommand x s) :=
  .of_ite rfl rfl rfl (by simp [State.mailBusy])

/-! ## The host (R218, R237, R407, R408, R424) -/

theorem inboundWriteAck_happens : Happens s .eInboundWriteAck x (moduleEvent .eInboundWriteAck x s) := by
  refine .of_cases rfl rfl (fun hp => ?_) (fun hp => ?_)
  · obtain ⟨r, hr, hw, hd⟩ := hp
    simp [hr, hw, hd]
  · cases hr : s.inReq x.a x.b with
    | none => rfl
    | some r => exact if_neg fun h => hp ⟨r, hr, by simpa using h⟩

/-- A request is late once the page that holds it has done so for 16,000 fabric clocks. -/
theorem late_iff (r : Inbound) (clk : Nat) : r.late clk = true ↔ ∃ n, r.held = some n ∧ n + 16000 ≤ clk := by
  cases h : r.held <;> simp [Inbound.late, h]

theorem inboundHoldTimeout_happens : Happens s .eInboundHoldTimeout x (moduleEvent .eInboundHoldTimeout x s) := by
  refine .of_cases rfl rfl (fun hp => ?_) (fun hp => ?_)
  · obtain ⟨r, n, hr, hh⟩ := hp
    simp [hr, (late_iff r s.clk).mpr ⟨n, hh⟩]
  · cases hr : s.inReq x.a x.b with
    | none => rfl
    | some r =>
      refine if_neg fun h => hp ?_
      obtain ⟨n, hh⟩ := (late_iff r s.clk).mp h
      exact ⟨r, n, hr, hh⟩

theorem priResponse_happens : Happens s .ePriResponse x (moduleEvent .ePriResponse x s) := .of_ite rfl rfl rfl (by simp)

/-! ## Links and ports (R411 to R413) -/

/-- What a wake makes of a link (R413). -/
theorem Link.wake_eq (l : Link) (clk : Nat) : l.wake clk =
    if l.off = true then
      (if l.idleSince = clk then { l with off := false, wakeAt := none, rewait := true }
       else { l with off := false, wakeAt := some (clk + 320), idleSince := clk + 320, rewait := false })
    else if clk < l.wakeAt.getD 0 then l
    else { l with wakeAt := none, idleSince := clk, rewait := false } := by
  unfold Link.wake
  by_cases ho : l.off = true
  · simp only [if_pos ho]
  · cases hw : l.wakeAt with
    | none => simp [ho, hw, Link.up]
    | some t => by_cases ht : t ≤ clk <;> simp [ho, hw, Link.up, ht, Nat.not_lt.mpr, Nat.not_le.mp]

/-- A link carries nothing yet after a wake that finds it off since an earlier clock, or waking still. -/
theorem Link.wake_not_up (l : Link) (clk : Nat) : (l.wake clk).up clk = false ↔
    l.off = true ∧ l.idleSince ≠ clk ∨ l.off = false ∧ clk < l.wakeAt.getD 0 := by
  rw [Link.wake_eq]
  by_cases ho : l.off = true
  · by_cases hi : l.idleSince = clk <;> simp [ho, hi, Link.up]
  · cases hw : l.wakeAt with
    | none => simp [ho, Link.up]
    | some t => by_cases ht : clk < t <;> simp [ho, hw, Link.up, ht]

/-- A port's own flit wakes its link, and goes out if the link is up then. -/
theorem overLink_eq (n : Nat) (f : State → State) : s.overLink n f =
    if (s.link n).off = true ∧ (s.link n).idleSince ≠ s.clk ∨ (s.link n).off = false ∧ s.clk < (s.link n).wakeAt.getD 0
    then { s with links := kvSet s.links n ((s.link n).wake s.clk) }
    else f { s with links := kvSet s.links n ((s.link n).wake s.clk) } := by
  simp only [State.overLink, ← Link.wake_not_up]
  cases ((s.link n).wake s.clk).up s.clk <;> rfl

/-- A flit that approaches a port is taken if the link is up and holds none, and else held. -/
theorem flitArrives_eq (n : Nat) (l : List Byte) : s.flitArrives n l =
    (let k := (s.link n).wake s.clk
     if k.up s.clk = true ∧ k.held = [] then ({ s with links := kvSet s.links n k } : State).flit n l
     else { s with links := kvSet s.links n { k with held := k.held ++ [l] } }) := by
  simp [State.flitArrives, State.updLink]

theorem egressQuarantineLeave_happens : Happens s .eEgressQuarantineLeave x (moduleEvent .eEgressQuarantineLeave x s) := by
  refine .of_cases rfl rfl (fun hp => ?_) (fun hp => ?_)
  · obtain ⟨e, he, hm, hr, hw⟩ := hp
    simp [he, hm, hr, hw, overLink_eq]
  · cases he : (s.iod x.a).egress[x.b]? with
    | none => rfl
    | some e => exact if_neg fun h => hp ⟨e, he, by simpa [and_assoc] using h⟩

theorem holuskDataFlit_happens : Happens s .eHoluskDataFlit x (moduleEvent .eHoluskDataFlit x s) := by
  refine .of_ite (b := ¬ _) rfl rfl ((ite_not _ _ _).symm.trans ?_) Iff.rfl
  rw [flitArrives_eq]
  rfl

theorem holuskAck_happens : Happens s .eHoluskAck x (moduleEvent .eHoluskAck x s) := by
  refine .of_ite rfl rfl (b := (flitHead x.bytes).1 = 1) ?_ Iff.rfl
  rw [flitArrives_eq]
  rfl

theorem holuskReplayTimeout_happens : Happens s .eHoluskReplayTimeout x (moduleEvent .eHoluskReplayTimeout x s) := by
  refine .of_cases rfl rfl (fun hp => ?_) (fun hp => ?_)
  · obtain ⟨hw, hl⟩ := hp
    obtain ⟨y, l, hy⟩ := List.exists_cons_of_ne_nil hw
    simp [hy, Port.stuck, hl, overLink_eq, State.updPort]
  · cases hw : (s.port x.a).window with
    | nil => rfl
    | cons y l => exact if_neg fun h => hp (by simpa [Port.stuck, hw] using h)

theorem audit_happens : Happens s .eAudit x (moduleEvent .eAudit x s) := by
  refine .of_ite (b := (s.port x.a).auditDue = true) rfl rfl ?_ (by simp [Port.auditDue])
  simp only [overLink_eq]
  rfl

theorem resync_happens : Happens s .eResync x (moduleEvent .eResync x s) := by
  refine .of_cases rfl rfl (fun hp => ?_) (fun hp => ?_)
  · obtain ⟨hl, hr⟩ := hp
    obtain ⟨y, hy⟩ := Option.isSome_iff_exists.mp hl
    have hlost : (s.port x.a).window.find? SendSlot.lost = some y := hy
    simp only [hy, hlost, hr, overLink_eq]
    rfl
  · cases hl : (s.port x.a).window.find? SendSlot.lost with
    | none => rfl
    | some y =>
      cases hr : (s.port x.a).resync with
      | some n => rfl
      | none => exact absurd ⟨Option.isSome_iff_exists.mpr ⟨y, hl⟩, hr⟩ hp

theorem linkPowerDown_happens : Happens s .eLinkPowerDown x (moduleEvent .eLinkPowerDown x s) :=
  .of_ite rfl rfl rfl (by simp [Link.idle])

theorem linkWake_happens : Happens s .eLinkWake x (moduleEvent .eLinkWake x s) := by
  refine .of_true rfl rfl ?_
  simp only [Link.wake_eq]
  rfl

/-! ## All of them -/

/-- Every event of the module happens where its condition holds. -/
theorem moduleEvent_happens (i : Instr) : Happens s i x (moduleEvent i x s) := by
  cases i with
  | eBootStageVerify => exact bootStageVerify_happens s x
  | eModuleRelease => exact moduleRelease_happens s x
  | eSliceStrike => exact sliceStrike_happens s x
  | eLifetimeCounterUpdate => exact lifetimeCounterUpdate_happens s x
  | eDramScrub => exact dramScrub_happens s x
  | eRegisterWrite => exact registerWrite_happens s x
  | eSnapshotLatch => exact snapshotLatch_happens s x
  | eAttestationReport => exact attestationReport_happens s x
  | eReadLifetimeCounters => exact readLifetimeCounters_happens s x
  | eSnapshotTriggerCommand => exact snapshotTriggerCommand_happens s x
  | eInboundWriteAck => exact inboundWriteAck_happens s x
  | eInboundHoldTimeout => exact inboundHoldTimeout_happens s x
  | ePriResponse => exact priResponse_happens s x
  | eEgressQuarantineLeave => exact egressQuarantineLeave_happens s x
  | eHoluskDataFlit => exact holuskDataFlit_happens s x
  | eHoluskAck => exact holuskAck_happens s x
  | eHoluskReplayTimeout => exact holuskReplayTimeout_happens s x
  | eAudit => exact audit_happens s x
  | eResync => exact resync_happens s x
  | eLinkPowerDown => exact linkPowerDown_happens s x
  | eLinkWake => exact linkWake_happens s x
  | eColdReset | eStrike | eInboundPostedWrite | eInboundRead | eHostAtsInvalidation | eTombacSequence | eClockStop =>
    exact .of_true rfl rfl rfl
  | eDieFailure | eSnaptrig | eIssueGating | eClockResume => exact .of_ite rfl rfl rfl Iff.rfl
  | _ => exact .of_none

end

end Sys2Proof.Machine
end

section
/-! PROOFS. What single events of the module leave behind: a cold reset, a register's store, a DRAM error, the module's
release, a strike and a die's failure (R7, R50, R187, R404, R416, R424). -/

namespace Sys2Proof.Machine

/-- An event whose condition holds has its effect. -/
theorem moduleEvent_effect {s : State} {i : Instr} {x : EvArg} (hc : s.cur = .event x) {p : Prop} {t : State}
    (h : moduleEvent i x s = some (p, t)) (hp : p) : exec i s = .next t :=
  (moduleEvent_happens s x i hc p t h).1 hp

/-! ## Cold reset -/

/-- What a cold reset leaves of a core is what its fuses give. -/
theorem core_coldReset (s : State) (c : Nat) : s.coldReset.core c = { spare := (s.core c).spare } := by
  simp only [State.coldReset, State.core, kvGet, kvFind_kvMap]
  cases kvFind s.cores c <;> rfl

/-! ## A store to a core's TSWAP or TMAX -/

section
variable (s : State) (v : W64)

/-- A store to a core's control block changes that core alone, so memory reads as before. -/
theorem coreWrite_same (c off : Nat) : SameBytes s (s.coreWrite c off v) := fun _ => rfl

theorem coreRead_coreWrite (c : Nat) {off : Nat} (h : off = 0x10 ∨ off = 0x18) :
    (s.coreWrite c off v).coreRead c off = (v.extractLsb' 0 16).zeroExtend 64 := by
  rcases h with rfl | rfl <;> simp [State.coreWrite, State.coreRead, State.updCore]

/-- The core whose control block stands at an offset of a die's window. -/
def windowCore (d off : Nat) : Nat :=
  coreAt (d % 2 * 16 + (off - 0x100000) / 0x1000 % 16) (d / 2 * 8 + (off - 0x100000) / 0x1000 / 16)

variable {d off : Nat} (hd : d < 8) (h8 : off % 8 = 0) (lo : 0x100000 ≤ off) (hi : off < 0x180000)
include hd h8 lo hi

theorem mmioWrite_core : s.mmioWrite d off v = s.coreWrite (windowCore d off) (off % 0x1000) v := by
  simp only [State.mmioWrite, windowCore, h8, hd, lo, hi, ne_eq, not_true_eq_false, if_false, if_true, and_self,
    if_neg (show ¬ off < 0x1000 by omega)]

theorem mmioRead_core : s.mmioRead d off = s.coreRead (windowCore d off) (off % 0x1000) := by
  simp only [State.mmioRead, windowCore, h8, hd, lo, hi, ne_eq, not_true_eq_false, if_false, if_true, and_self,
    if_neg (show ¬ off < 0x1000 by omega)]

end

/-- TSWAP and TMAX read back the low 16 bits of the word stored. -/
theorem mmioRead_mmioWrite (s : State) (v : W64) {d off : Nat} (hd : d < 8) (lo : 0x100000 ≤ off) (hi : off < 0x180000)
    (h : off % 0x1000 = 0x10 ∨ off % 0x1000 = 0x18) :
    (s.mmioWrite d off v).mmioRead d off = (v.extractLsb' 0 16).zeroExtend 64 ∧ SameBytes s (s.mmioWrite d off v) := by
  have h8 : off % 8 = 0 := by omega
  rw [mmioWrite_core s v hd h8 lo hi, mmioRead_core _ hd h8 lo hi]
  exact ⟨coreRead_coreWrite s v _ h, coreWrite_same s v _ _⟩

/-! ## A strike -/

/-- The strike counted, told to the filters and tallied, before its teams are struck. -/
def State.strikeNoted (s : State) (c : Nat) : State :=
  let u := s.setCore c { s.core c with strikes := satInc (s.core c).strikes, strikeT := BitVec.ofNat 64 (s.clk * 5 / 8) }
  let d := coreDie c
  ((u.setDie d { s.die d with dstrikes := satInc (s.die d).dstrikes }).fire d 5).tally (18 + d * 16 + coreCluster c)

theorem strikeNoted_aside (s : State) (c : Nat) : Aside s (s.strikeNoted c) := by
  unfold State.strikeNoted
  refine .trans (.trans (.trans (.setCore s c _ ?_) (.setDie _ _ _ ?_ ?_)) (.fire ..)) (.tally ..)
  · rfl
  · rfl
  · rfl

/-- A strike on a core strikes each of its teams. -/
theorem strike_struck (s : State) (hn : ∀ j, (s.team j).groups ≤ 16) (c k : Nat) (hk : k < 4) :
    Struck s ((s.strikeNoted c).strikeTeams c) (c * 4 + k) := by
  have ha := strikeNoted_aside s c
  have hn' (j) : ((s.strikeNoted c).team j).groups ≤ 16 := by
    rw [(ha.spares j).team_eq]
    exact hn j
  exact (strikeTeams_struck (s.strikeNoted c) hn' c k hk).of_spares (hn _) (ha.spares _)

/-- Settles O52: each event happens where its condition holds, and its effect is the one that its own lemma describes. -/
theorem moduleEventsHaveTheirConditionAndEffect : Obligations.ModuleEventsHaveTheirConditionAndEffect := by
  intro s i x
  refine ⟨moduleEvent_happens s x i, ?reset, ?write, ?error, ?release, ?strike, ?failure⟩
  case reset =>
    rintro hc rfl
    exact ⟨_, moduleEvent_effect hc rfl trivial, rfl, rfl, rfl, rfl, rfl, rfl, rfl, rfl, core_coldReset s, fun _ => rfl⟩
  case write =>
    rintro hc rfl hw hd lo hi h
    have he := moduleEvent_effect (i := .eRegisterWrite) hc rfl (.inl hw)
    rw [if_pos hw] at he
    exact ⟨_, he, mmioRead_mmioWrite s x.val hd lo hi h⟩
  case error =>
    rintro hc rfl hf hp h1 h64
    have he := moduleEvent_effect (i := .eDramScrub) hc rfl (by rw [if_pos hf]; exact ⟨hp, h1, h64⟩)
    rw [if_pos hf] at he
    exact ⟨_, he, fun _ => rfl, by simp⟩
  case release =>
    rintro hc rfl hs hr
    exact moduleEvent_effect (i := .eModuleRelease) hc rfl ⟨hs, hr⟩
  case strike =>
    rintro hc rfl hn
    exact ⟨_, moduleEvent_effect (i := .eStrike) hc rfl trivial, fun k hk => strike_struck s hn x.a k hk⟩
  case failure =>
    rintro hc rfl hd
    exact ⟨_, moduleEvent_effect (i := .eDieFailure) hc rfl hd, failDie_dieFailed s x.a hd, rehomed _ x.a hd⟩

end Sys2Proof.Machine
end

section
/-! PROOFS. Every word, packet and event that a turn meets has an effect, an exception or a wait (R22, R71): no step stops
the machine. -/

namespace Sys2Proof.Machine

/-! ## Instructions of an agent -/

/-- An instruction answers a next state in every state in which the given agent stands at turn. -/
def AnswersAt (cur : Cur) (i : Instr) : Prop := ∀ s : State, s.cur = cur → ∃ t, exec i s = .next t

/-- It is enough to look at states that name the agent. -/
theorem AnswersAt.of_turn {cur : Cur} {i : Instr} (h : ∀ s : State, ∃ t, exec i { s with cur := cur } = .next t) :
    AnswersAt cur i := by
  rintro s rfl
  exact h s

/-- What gWord makes of the context at turn: one of two next states, by whether the word stalls on a token (R32, R111). -/
theorem next_of_context {s : State} {id : Nat} {w : W32} (hc : s.cur = .gen id w) (p : Nat → W32 → Bool)
    (f g : Nat → W32 → State) :
    ∃ t, (match s.cur with
      | .gen id w => if p id w then .next (f id w) else .next (g id w)
      | _ => .fault .noContext : Out) = .next t := by
  rw [hc]
  cases h : p id w
  · exact ⟨g id w, by simp [h]⟩
  · exact ⟨f id w, by simp [h]⟩

/-! ## The generator's words (R54 to R58) -/

section
variable {w v : W32} {i : Instr} {id : Nat}

theorem candG00_answers (h : candG00 w = some i) : AnswersAt (.gen id v) i := by
  unfold candG00 at h
  split at h <;> cases h <;> exact fun _ hc => next_of_context hc _ _ _

theorem candG01_answers (h : candG01 w = some i) : AnswersAt (.gen id v) i := by
  unfold candG01 at h
  split at h <;> cases h <;> exact fun _ hc => next_of_context hc _ _ _

theorem candG12_answers (h : candG12 w = some i) : AnswersAt (.gen id v) i := by
  unfold candG12 at h
  split at h <;> cases h <;> exact fun _ hc => next_of_context hc _ _ _

theorem candG17_answers (h : candG17 w = some i) : AnswersAt (.gen id v) i := by
  unfold candG17 at h
  split at h <;> cases h <;> exact fun _ hc => next_of_context hc _ _ _

theorem candG18_answers (h : candG18 w = some i) : AnswersAt (.gen id v) i := by
  unfold candG18 at h
  split at h <;> cases h <;> exact fun _ hc => next_of_context hc _ _ _

theorem candG1A_answers (h : candG1A w = some i) : AnswersAt (.gen id v) i := by
  unfold candG1A at h
  split at h <;> cases h <;> exact fun _ hc => next_of_context hc _ _ _

theorem candG1B_answers (h : candG1B w = some i) : AnswersAt (.gen id v) i := by
  unfold candG1B at h
  split at h <;> cases h <;> exact fun _ hc => next_of_context hc _ _ _

theorem candG1C_answers (h : candG1C w = some i) : AnswersAt (.gen id v) i := by
  unfold candG1C at h
  split at h <;> cases h <;> exact fun _ hc => next_of_context hc _ _ _

theorem candG1D_answers (h : candG1D w = some i) : AnswersAt (.gen id v) i := by
  unfold candG1D at h
  split at h <;> cases h <;> exact fun _ hc => next_of_context hc _ _ _

theorem candG1E_answers (h : candG1E w = some i) : AnswersAt (.gen id v) i := by
  unfold candG1E at h
  split at h <;> cases h <;> exact fun _ hc => next_of_context hc _ _ _

theorem candG_answers (h : candG w = some i) : AnswersAt (.gen id v) i := by
  unfold candG at h
  split at h
  -- the majors that have a table of minors
  case h_1 => exact candG00_answers h
  case h_2 => exact candG01_answers h
  case h_19 => exact candG12_answers h
  case h_24 => exact candG17_answers h
  case h_25 => exact candG18_answers h
  case h_27 => exact candG1A_answers h
  case h_28 => exact candG1B_answers h
  case h_29 => exact candG1C_answers h
  case h_30 => exact candG1D_answers h
  case h_31 => exact candG1E_answers h
  all_goals cases h <;> exact fun _ hc => next_of_context hc _ _ _

end

/-! ## The words of groups and matrix units (R59 to R63, R70) -/

section
variable {w : W32} {i : Instr} {gid slot tid : Nat} {e : QEntry}

theorem candC8_answers (h : candC8 w = some i) : AnswersAt (.grp gid e slot) i := by
  unfold candC8 at h
  split at h <;> cases h <;> exact .of_turn fun _ => ⟨_, rfl⟩

theorem candC9_answers (h : candC9 w = some i) : AnswersAt (.grp gid e slot) i := by
  unfold candC9 at h
  split at h <;> cases h <;> exact .of_turn fun _ => ⟨_, rfl⟩

theorem candC10_answers (h : candC10 w = some i) : AnswersAt (.grp gid e slot) i := by
  unfold candC10 at h
  split at h <;> cases h <;> exact .of_turn fun _ => ⟨_, rfl⟩

theorem candC11_answers (h : candC11 w = some i) : AnswersAt (.grp gid e slot) i := by
  unfold candC11 at h
  split at h <;> cases h <;> exact .of_turn fun _ => ⟨_, rfl⟩

theorem candC12_answers (h : candC12 w = some i) : AnswersAt (.grp gid e slot) i := by
  unfold candC12 at h
  split at h <;> cases h <;> exact .of_turn fun _ => ⟨_, rfl⟩

theorem candC13_answers (h : candC13 w = some i) : AnswersAt (.grp gid e slot) i := by
  unfold candC13 at h
  split at h <;> cases h <;> exact .of_turn fun _ => ⟨_, rfl⟩

theorem candC14_answers (h : candC14 w = some i) : AnswersAt (.grp gid e slot) i := by
  unfold candC14 at h
  split at h
  -- PUSHG has two forms (R351)
  case h_1 => cases h; split <;> exact .of_turn fun _ => ⟨_, rfl⟩
  all_goals cases h <;> exact .of_turn fun _ => ⟨_, rfl⟩

theorem candC_answers (h : candC w = some i) : AnswersAt (.grp gid e slot) i := by
  unfold candC at h
  split at h
  -- the majors that have a table of minors
  case h_10 => exact candC8_answers h
  case h_11 => exact candC9_answers h
  case h_12 => exact candC10_answers h
  case h_13 => exact candC11_answers h
  case h_14 => exact candC12_answers h
  case h_15 => exact candC13_answers h
  case h_16 => exact candC14_answers h
  all_goals cases h <;> exact .of_turn fun _ => ⟨_, rfl⟩

theorem candM_answers (h : candM w = some i) : AnswersAt (.mat tid e) i := by
  unfold candM at h
  split at h <;> cases h <;> exact .of_turn fun _ => ⟨_, rfl⟩

end

/-! ## What stands at a turn: a word that decodes or an illegal one (R71), a packet (R327), an event -/

theorem candidate_of_checked {w : W32} {c : Option Instr} {i : Instr} (h : checked w c = some i) : c = some i := by
  unfold checked at h
  split at h
  · split at h
    · exact h
    · cases h
  · cases h

theorem gInstr_answers (w v : W32) (id : Nat) : AnswersAt (.gen id v) (gInstr w) := by
  cases h : decodeG w with
  | some i =>
    rw [show gInstr w = i by simp [gInstr, h]]
    exact candG_answers (candidate_of_checked h)
  | none =>
    rw [show gInstr w = .eIllegalGWord w by simp [gInstr, h]]
    exact fun _ hc => next_of_context hc _ _ _

theorem cInstr_answers (w : W32) (gid slot : Nat) (e : QEntry) : AnswersAt (.grp gid e slot) (cInstr w) := by
  cases h : decodeC w with
  | some i =>
    rw [show cInstr w = i by simp [cInstr, h]]
    exact candC_answers (candidate_of_checked h)
  | none =>
    rw [show cInstr w = .eIllegalCWord w by simp [cInstr, h]]
    exact .of_turn fun _ => ⟨_, rfl⟩

theorem mInstr_answers (w : W32) (tid : Nat) (e : QEntry) : AnswersAt (.mat tid e) (mInstr w) := by
  cases h : decodeM w with
  | some i =>
    rw [show mInstr w = i by simp [mInstr, h]]
    exact candM_answers (candidate_of_checked h)
  | none =>
    rw [show mInstr w = .eIllegalMWord w by simp [mInstr, h]]
    exact .of_turn fun _ => ⟨_, rfl⟩

theorem packetInstr_answers {h : W64} {i : Instr} (hi : packetInstr h = some i) (io l : Nat) (p : Packet) :
    AnswersAt (.lane io l p) i := by
  unfold packetInstr at hi
  split at hi
  -- SIGNAL has two operations (R331)
  case h_9 => cases hi; split <;> exact .of_turn fun _ => ⟨_, rfl⟩
  all_goals cases hi <;> exact .of_turn fun _ => ⟨_, rfl⟩

theorem event_answers {i : Instr} (h : isEvent i = true) (x : EvArg) : AnswersAt (.event x) i := by
  unfold isEvent at h
  split at h
  -- a row that is no event
  case h_76 => cases h
  all_goals exact .of_turn fun _ => ⟨_, rfl⟩

/-! ## Turns (R22) -/

theorem onNext_answers {o : Out} (f : State → State) (h : ∃ t, o = .next t) : ∃ t, onNext o f = .next t := by
  obtain ⟨t, rfl⟩ := h
  exact ⟨f t, rfl⟩

theorem ite_answers {p : Prop} [Decidable p] {a b : Out} (ha : ∃ t, a = .next t) (hb : ∃ t, b = .next t) :
    ∃ t, (if p then a else b) = .next t := by
  split <;> assumption

theorem runG_answers (s : State) (id : Nat) : ∃ t, s.runG id = .next t := by
  unfold State.runG
  split
  · exact ⟨_, rfl⟩
  · exact onNext_answers _ (gInstr_answers _ _ _ _ rfl)

/-- A context whose word does not issue gives the port to the next one, so the induction is over the contexts that are left. -/
theorem genFrom_answers (l : List Nat) (s : State) : ∃ t, s.genFrom l = .next t := by
  induction l generalizing s with
  | nil => exact ⟨s, rfl⟩
  | cons id r ih =>
    obtain ⟨t, ht⟩ := runG_answers s id
    unfold State.genFrom
    rw [ht]
    split
    · dsimp only
      split
      · exact ⟨t, rfl⟩
      · exact ih t
    · exact ih s

theorem genTurn_answers (s : State) (c : Nat) : ∃ t, s.genTurn c = .next t := by
  unfold State.genTurn
  exact ite_answers (genFrom_answers _ s) ⟨s, rfl⟩

theorem soloTurn_answers (s : State) (id : Nat) : ∃ t, s.soloTurn id = .next t := by
  unfold State.soloTurn
  exact ite_answers (runG_answers s id) ⟨s, rfl⟩

theorem runC_answers (s : State) (gid slot : Nat) (e : QEntry) : ∃ t, s.runC gid slot e = .next t :=
  onNext_answers _ (cInstr_answers _ _ _ _ _ rfl)

/-- A clause's header answers, and so does its first body word, whose turn decides whether the header is consumed (R65). -/
theorem runHeader_answers (s : State) (gid slot : Nat) (e : QEntry) : ∃ t, (s.runHeader gid slot e).1 = .next t := by
  obtain ⟨t, ht⟩ := cInstr_answers e.word gid slot e { s with cur := .grp gid e slot } rfl
  unfold State.runHeader
  simp only [ht]
  split
  · exact ⟨t, rfl⟩
  · split
    · exact ⟨_, rfl⟩
    · exact onNext_answers _ (runC_answers ..)

theorem tryGroup_answers (s : State) (gid slot : Nat) : ∃ t, (s.tryGroup gid slot).1 = .next t := by
  unfold State.tryGroup
  dsimp only
  split
  case isTrue => exact ⟨_, rfl⟩
  case isFalse =>
    split
    · exact ⟨_, rfl⟩
    · split
      · split
        · exact runHeader_answers ..
        · exact runC_answers ..
      · split <;> exact ⟨_, rfl⟩
      · exact ⟨_, rfl⟩

/-- A group whose word does not go on is left out of the next try. -/
theorem issueFrom_answers (slot n : Nat) (s : State) (l : List Nat) : ∃ t, s.issueFrom slot l n = .next t := by
  induction n generalizing s l with
  | zero => exact ⟨s, rfl⟩
  | succ n ih =>
    unfold State.issueFrom
    split
    · exact ⟨s, rfl⟩
    case h_2 gid _ =>
      obtain ⟨t, ht⟩ := tryGroup_answers s gid slot
      split
      · exact ih ..
      case h_2 o _ _ ho => exact ⟨t, by rw [← ht, ho]⟩

theorem issueTurn_answers (s : State) (c slot : Nat) : ∃ t, s.issueTurn c slot = .next t := by
  unfold State.issueTurn
  exact ite_answers (issueFrom_answers ..) ⟨_, rfl⟩

theorem bodyTurn_answers (s : State) (gid slot : Nat) : ∃ t, s.bodyTurn gid slot = .next t := by
  unfold State.bodyTurn
  split
  · split
    · exact runC_answers ..
    · exact ⟨s, rfl⟩
  · exact ⟨s, rfl⟩

theorem matrixTurn_answers (s : State) (c : Nat) : ∃ t, s.matrixTurn c = .next t := by
  unfold State.matrixTurn
  dsimp only
  split
  · exact ⟨_, rfl⟩
  · split
    · exact ⟨_, rfl⟩
    · split
      · exact ⟨_, rfl⟩
      · split
        · exact ⟨_, rfl⟩
        · exact mInstr_answers _ _ _ _ rfl

theorem runLane_answers (s : State) (io l : Nat) : ∃ t, s.runLane io l = .next t := by
  unfold State.runLane
  dsimp only
  split
  · exact ⟨_, rfl⟩
  · split
    · exact ⟨_, rfl⟩
    · split
      · exact ⟨_, rfl⟩
      · exact onNext_answers _ (packetInstr_answers ‹_› _ _ _ _ rfl)

theorem pewterTurn_answers (s : State) (io : Nat) : ∃ t, s.pewterTurn io = .next t := by
  unfold State.pewterTurn
  split
  · split
    · exact ⟨_, rfl⟩
    · exact runLane_answers ..
  · exact ⟨s, rfl⟩

theorem eventTurn_answers (s : State) (i : Instr) (x : EvArg) : ∃ t, s.eventTurn i x = .next t := by
  unfold State.eventTurn
  split
  case isTrue h => exact event_answers h x _ rfl
  case isFalse => exact ⟨s, rfl⟩

theorem take_answers (s : State) (t : Turn) : ∃ u, s.take t = .next u := by
  cases t with
  | tick => exact ⟨s.tick, rfl⟩
  | gen c => exact genTurn_answers s c
  | exits c => exact ⟨_, rfl⟩
  | solo id => exact soloTurn_answers s id
  | issue c slot => exact issueTurn_answers s c slot
  | body gid slot => exact bodyTurn_answers s gid slot
  | matrix c => exact matrixTurn_answers s c
  | pewter io => exact pewterTurn_answers s io
  | event i x => exact eventTurn_answers s i x

/-- Settles O57: whichever turn a step takes, each agent's turn answers. -/
theorem everyStepAnswersANextState : Obligations.EveryStepAnswersANextState := fun s =>
  take_answers s.popTurn.2 s.popTurn.1

end Sys2Proof.Machine
end

section
/-! PROOFS. A fetch waits while a copy engine owns the line of its word (R204): with the line owned, no word is fetched, although
its page is found and its bytes can be read. -/

namespace Sys2Proof.Machine

/-- R204: where a copy engine owns the line at a context's pc, the fetch answers no word. -/
theorem fetchG_owned {s u : State} {id : Nat} {e : W64} {z : Nat}
    (ht : s.translateCtx id (s.ctx id).va .fetch = (u, .ok e z))
    (ho : u.engineOwns [readPlace (ctxDie id) (placesOf (u.die 0).devnum.toNat e z (s.ctx id).va)] = true) :
    s.fetchG id = (u, none) := by
  simp [State.fetchG, ht, ho]

/-- A supervisor context of die 0 stands at 0x10000, in a page that the table at address 0 maps to the first frame of memory:
entry 0 of the table points to the table itself, entry 1 is the page's leaf. A copy engine is about to write the line at pc. -/
def copyOntoCode : State :=
  { State.reset with
    released := true, mem := [(0, 1#8), (8, 0x39#8)], dies := [(0, { dmemcap := 0x10000#42 })]
    ctxs := [(4096, { pc := 0x10000#48 })], engines := [(0, [{ kind := .copy, dst := 0x10000#64, len := 128 }])] }

/-- The state after the translation of the fetch. -/
def copyOntoCodeFound : State := (copyOntoCode.translateCtx 4096 0x10000#64 .fetch).1

theorem copyOntoCode_translates :
    copyOntoCode.translateCtx 4096 0x10000#64 .fetch = (copyOntoCodeFound, .ok 0x39#64 65536) := by
  have hwalk : (copyOntoCode.translateCtx 4096 0x10000#64 .fetch).2 = .ok 0x39#64 65536 := by decide +kernel
  rw [copyOntoCodeFound, ← hwalk]

theorem copyOntoCode_owned : copyOntoCodeFound.engineOwns [0] = true := by decide +kernel

theorem copyOntoCode_reads : ∃ v, copyOntoCodeFound.ctxRead 4096 0 4 (pteKind 0x39#64) = (v, some [1#8, 0#8, 0#8, 0#8]) := by
  have hbytes : (copyOntoCodeFound.ctxRead 4096 0 4 (pteKind 0x39#64)).2 = some [1#8, 0#8, 0#8, 0#8] := by decide +kernel
  exact ⟨_, by rw [← hbytes]⟩

/-- Refutes O58: the clause on fetches leaves out that a copy engine may own the line at pc (R204). In copyOntoCode the page is
found, the host keeps nothing back and the four bytes at pc read as a word, and yet no word is fetched. -/
theorem not_stepRunsTheWordOfItsTurn : ¬ Obligations.StepRunsTheWordOfItsTurn := by
  intro h
  obtain ⟨hfetch, -⟩ := h copyOntoCode
  have hfound : Found copyOntoCode 4096 0x10000#64 .fetch copyOntoCodeFound [0] 0 (pteKind 0x39#64) :=
    ⟨0x39#64, 65536, copyOntoCode_translates, by decide +kernel, by decide +kernel, rfl, nofun⟩
  obtain ⟨v, hread⟩ := copyOntoCode_reads
  have hword := hfetch 4096 _ v _ _ _ _ hfound (by decide +kernel) hread
  have hnone : copyOntoCode.fetchG 4096 = (copyOntoCodeFound, none) :=
    fetchG_owned copyOntoCode_translates copyOntoCode_owned
  exact absurd (congrArg Prod.snd (hnone.symm.trans hword)) nofun

end Sys2Proof.Machine
end
